-- ==== Sys2Proof/Word.lean ====
section
/-!
DEFINITION. The words of the device: a register's 64 bits, a byte, a field's place in a register, and how software reaches
a register's fields (R12).
-/
namespace Sys2Proof.Machine

/-- A register's value, or any 64-bit word (R390). -/
abbrev Data := BitVec 64

/-- A byte of a memory. -/
abbrev Byte := BitVec 8

/-- A field of a register: its lowest bit and its width. -/
structure Fld where
  lo : Nat
  w : Nat
deriving DecidableEq, Repr

/-- A register: its reset value and the masks of its fields by access type (R12). A bit in no mask is read-only or reserved. -/
structure RegInfo where
  reset : Nat := 0
  rw : Nat := 0
  w1c : Nat := 0
  wo : Nat := 0
  rcl : Nat := 0
  rws : Nat := 0
  rwa : Nat := 0
deriving DecidableEq, Repr

end Sys2Proof.Machine
end

