-- ==== Sys2Proof/Syntax.lean ====
section
/-!
DEFINITION. The commands of the block: one constructor per row of spec/opcode_table.json, with the operands that a row's words
name and with what the world outside the device delivers in that step (symbols, pin levels, a read's result). What the device
itself already holds is no operand.
-/
namespace Sys2Proof
open Sys2Proof.Machine (Data Byte)

/-! ### Numbers of things (the ranges are the spec's) -/
abbrev RingNo := Fin 256
abbrev ErgNo := Fin 128
abbrev LaneNo := Fin 48
abbrev QuadNo := Fin 12
abbrev QueueNo := Fin 256
abbrev RegionNo := Fin 64
abbrev PlayerNo := Fin 48
abbrev EngNo := Fin 24
abbrev GroupNo := Fin 128
abbrev CtlNo := Fin 32
abbrev WinNo := Fin 16
abbrev ReqId := Fin 64
abbrev CoreNo := Fin 3
abbrev SvNo := Fin 2
abbrev ListNo := Fin 8
abbrev SlotNo := Fin 16
abbrev DmaNo := Fin 16
abbrev PinNo := Fin 64
abbrev PlaneNo := Fin 8
abbrev LayerNo := Fin 2
abbrev SensorNo := Fin 256
abbrev DomNo := BitVec 11

/-- Bytes the host has written to its own memory, in order, before the command that announces them (R393). -/
abbrev HostWrites := List (Nat × Byte)

/-- How a read of host memory ended (R389). -/
inductive HostRead where
  | ok
  | error
  | timeout
deriving DecidableEq, Repr

/-- An executor of work items (R424). -/
inductive Executor where
  | dma (e : DmaNo)
  | player (p : PlayerNo)
  | capture
  | engine (e : EngNo)
  | config
  | taskPort (i : ErgNo)
  | security
  | drift
  | supervisor
  | scheduler
deriving DecidableEq, Repr

/-- A memory access of a requester: a read of so many bytes, or a write of bytes. -/
inductive MemAcc where
  | read (len : Nat)
  | write (bytes : List Byte)
deriving DecidableEq, Repr

/-- How a register read reaches the device: from the host, or through the debug path, which has no read side effect (R12, R533). -/
inductive ReadPath where
  | host
  | debug
deriving DecidableEq, Repr

/-- An access of a data window register. -/
inductive RegAcc where
  | read (path : ReadPath)
  | write (data : Data)
deriving DecidableEq, Repr

/-- A capture queue's set-up registers (R173, R174). -/
inductive QueueReg where
  | ctl
  | ring
  | port
  | drain
deriving DecidableEq, Repr

/-- A player's set-up registers (R206). -/
inductive PlayerReg where
  | cfg
  | feed
  | fabric
deriving DecidableEq, Repr

/-- The SYNC_IN registers of R220. -/
inductive SyncReg where
  | syncIn
  | loadNs
  | loadSec
deriving DecidableEq, Repr

/-- The scheduler registers of R421. -/
inductive SchReg where
  | spill
  | store
deriving DecidableEq, Repr

/-- A ring response's status (R370). -/
inductive RingStatus where
  | success
  | uncorrectable
  | accessDenied
  | integrity
  | addressUnmapped
  | noKeyDomain
  | memoryFailed
  | memoryNotReady
  | domainAsleep
  | wakeFailed
  | misrouted
  | noSuchStop
deriving DecidableEq, Repr

/-- A bundle crossing: well, bundle (16 the detour bundle, 17 the riser link) and bond 1 to 6 (R343). -/
structure Crossing where
  well : Fin 64
  bundle : Fin 18
  bond : Fin 7
deriving DecidableEq, Repr

/-- A riser crossing in one direction (R340). -/
structure RiserNo where
  well : Fin 64
  bond : Fin 7
  up : Bool
deriving DecidableEq, Repr

/-- A received symbol: the 1/38.4 GHz ticks from its sampling to the next FCK edge, and its level (NRZ uses bit 0). -/
structure RxSym where
  tick : Fin 40
  level : BitVec 2
deriving DecidableEq, Repr

/-- The symbols a lane samples in one fabric cycle, earliest first. -/
structure LaneIn where
  lane : LaneNo
  syms : List RxSym
deriving DecidableEq, Repr

/-- The levels sampled at a pin in one fabric cycle, earliest first. -/
structure GioIn where
  pin : PinNo
  levels : List Bool
deriving DecidableEq, Repr

/-- Bit errors on the lanes of a bundle crossing, in one direction and one beat of a cycle (R328, R330). -/
structure WellFlip where
  x : Crossing
  up : Bool
  beat : Bool
  lanes : List (Fin 76)
deriving DecidableEq, Repr

/-- An upset of a direction field in a stop or in the pad ring (R80, R81): bits 1:0 the field, bit 2 its parity. -/
inductive DirFault where
  | wellLane (x : Crossing) (lane : Fin 64) (flip : BitVec 3)
  | gio (k : PinNo) (flip : BitVec 3)
deriving DecidableEq, Repr

/-- An upset of a stored block-memory word: data bits 31:0, parity bits 35:32 (R41). -/
structure BmUpset where
  dune : Fin 2048
  mem : Fin 4
  addr : Fin 4096
  flip : BitVec 36
deriving DecidableEq, Repr

/-- An upset of a stored word of an oasis: data bits 63:0, check bits 71:64 (R248, R251). -/
structure OasUpset where
  group : GroupNo
  word : Fin 2097152
  flip : BitVec 72
deriving DecidableEq, Repr

/-- An upset of a stored line of DRAM and of its metadata entry (R279, R281). -/
structure DramUpset where
  ctl : CtlNo
  line : Fin 1073741824
  flip : BitVec 512
  ent : BitVec 64
deriving DecidableEq, Repr

/-- How a controller's reads of a line fare on the link: how many of them in a row come back uncorrectable (R287), and how many had a
single-bit error that the link code corrected (R272). -/
structure ReadErrs where
  fail : Nat := 0
  link : Nat := 0
deriving DecidableEq, Repr

/-- How a controller's next read of a line fares on the link. -/
structure LinkErr where
  ctl : CtlNo
  errs : ReadErrs
deriving DecidableEq, Repr

/-- What the pads and the physics bring in one fabric cycle. -/
structure FabricIn where
  rx : List LaneIn := []
  gio : List GioIn := []
  wellFlips : List WellFlip := []
  dirFaults : List DirFault := []
  bmUpsets : List BmUpset := []
  oasUpsets : List OasUpset := []
  dramUpsets : List DramUpset := []
  linkErrs : List LinkErr := []
deriving DecidableEq, Repr

/-- A sensor's reading in the units of R344, or none when it gives none. -/
structure SensorIn where
  k : SensorNo
  reading : Option (BitVec 16)
deriving DecidableEq, Repr

/-- A wake source (R502): the GIO pins with their levels, bit k pin k, and signal detect with the lane on which SIGDET rises. -/
inductive WakeSrc where
  | host
  | dawn
  | gio (levels : BitVec 64)
  | timer
  | eject
  | sync
  | sigdet (n : LaneNo)
deriving DecidableEq, Repr

/-- The kind of access a core makes, as its comparators see it (R528). -/
inductive CmpKind where
  | fetch
  | read
  | write
deriving DecidableEq, Repr

/-- The commands of the block. -/
inductive Instr where
  /-- SQ_TAIL (R399). -/
  | sqTail (r : RingNo) (tail : Data) (hw : HostWrites) (failAt : Option Nat)
  /-- CQ_HEAD (R398). -/
  | cqHead (r : RingNo) (head : Data)
  /-- ACCEPT_RESUME (R399). -/
  | acceptResume (r : RingNo) (hw : HostWrites) (failAt : Option Nat)
  /-- SPILL_RETURN (R420). -/
  | spillReturn (r : RingNo) (copyBad : Bool) (failAt : Option Nat)
  /-- TAG_ASSIGN (R422). -/
  | tagAssign (src : Option RingNo)
  /-- COUNTER_CEILING_WRITE (R474). -/
  | counterCeilingWrite (slot : SlotNo) (ok : Bool)
  /-- SANDGLASS_RELEASE (R196). -/
  | sandglassRelease (l : ListNo)
  /-- ITEM_DISPATCH (R424). -/
  | itemDispatch (ex : Executor)
  /-- JOURNAL_READ_COMPLETE (R433). -/
  | journalReadComplete (ex : Executor) (res : HostRead)
  /-- ITEM_FINISH (R418). -/
  | itemFinish (ex : Executor)
  /-- COMPLETION_RELEASE (R426). -/
  | completionRelease (r : RingNo)
  /-- COMPLETION_CONFIRM (R426). -/
  | completionConfirm (r : RingNo)
  /-- MODERATION_EXPIRY (R408). -/
  | moderationExpiry (r : RingNo)
  /-- RING_ENABLE (R395). -/
  | ringEnable (r : RingNo) (data : Data) (hw : HostWrites)
  /-- CONTROL_BLOCK_CHECK (R395). -/
  | controlBlockCheck (r : RingNo) (res : HostRead)
  /-- RING_DISABLE (R395). -/
  | ringDisable (r : RingNo) (data : Data)
  /-- JOURNAL_REGISTER_WRITE (R413). -/
  | journalRegisterWrite (data : Data)
  /-- BAR4_ACCESS (R391). -/
  | bar4Access (off : Nat) (acc : MemAcc)
  /-- BAR0_WRITE (R390). -/
  | bar0Write (off : Nat) (size : Nat) (data : Data)
  /-- RCL_READ (R12). -/
  | rclRead (off : Nat) (size : Nat) (path : ReadPath)
  /-- EVT_BASE_WRITE (R415). -/
  | evtBaseWrite (data : Data)
  /-- EVT_HEAD_WRITE (R415). -/
  | evtHeadWrite (data : Data)
  /-- EJECT_FALL (R411). -/
  | ejectFall
  /-- DEPARTURE_READ_COMPLETE (R411). -/
  | departureReadComplete (res : HostRead)
  /-- EJECT_RISE (R412). -/
  | ejectRise
  /-- SURPRISE_REMOVAL (R412). -/
  | surpriseRemoval
  /-- LINK_RETURN (R410). -/
  | linkReturn
  /-- NOP (R402). -/
  | nop
  /-- DMA (R403). -/
  | dma (e : DmaNo) (hostFail : Option Nat)
  /-- PLAY (R186). -/
  | play (p : PlayerNo)
  /-- ERG_SWITCH (R65). -/
  | ergSwitch (i : ErgNo)
  /-- TASK (R417). -/
  | task (i : ErgNo)
  /-- TASK_DELIVERY (R417). -/
  | taskDelivery (i : ErgNo)
  /-- TASK_DONE_WORD (R417). -/
  | taskDoneWord (i : ErgNo)
  /-- ENGINE_LOAD (R242). -/
  | engineLoad (e : EngNo)
  /-- ENGINE_RUN (R243). -/
  | engineRun (e : EngNo)
  /-- CAPTURE_CMD (R403). -/
  | captureCmd
  /-- CANCEL (R407). -/
  | cancel
  /-- READBACK (R450). -/
  | readback (hostFail : Bool)
  /-- ATTEST (R470). -/
  | attest (hostFail : Bool)
  /-- IMAGE_LOAD (R458). -/
  | imageLoad (hostFail : Bool)
  /-- IMAGE_FRAME (R451). -/
  | imageFrame (res : HostRead) (storeOk : Bool)
  /-- ERG_RESERVE (R477). -/
  | ergReserve
  /-- KEY_DOMAIN (R306). -/
  | keyDomain (hostFail : Bool)
  /-- KEY_STRICT_WINDOW (R306). -/
  | keyStrictWindow
  /-- KEY_OASIS_RIGHTS (R306). -/
  | keyOasisRights
  /-- KEY_SLOT_KEY (R475). -/
  | keySlotKey (hostFail : Bool)
  /-- KEY_SLOT_ERASE (R477). -/
  | keySlotErase
  /-- DRIFT_START (R315). -/
  | driftStart (hostFail : Bool)
  /-- FIRMWARE_UPDATE (R477). -/
  | firmwareUpdate (hostFail : Bool) (storeOk : Bool)
  /-- STACK_REPAIR_LANE (R477). -/
  | stackRepairLane
  /-- STACK_REPAIR_OASIS (R477). -/
  | stackRepairOasis
  /-- STACK_REPAIR_DRAM (R477). -/
  | stackRepairDram
  /-- ERASE_IMAGE_SLOTS (R477). -/
  | eraseImageSlots
  /-- ERASE_KEY_DOMAINS (R477). -/
  | eraseKeyDomains
  /-- ERASE_OASES (R477). -/
  | eraseOases
  /-- ERASE_SLOTS (R477). -/
  | eraseSlots
  /-- DEBUG_UNLOCK (R479). -/
  | debugUnlock (hostFail : Bool)
  /-- DEBUG_UNLOCK_EXPIRY (R479). -/
  | debugUnlockExpiry
  /-- OWNER_TRANSFER (R478). -/
  | ownerTransfer (hostFail : Bool)
  /-- RECONCILIATION (R434). -/
  | reconciliation (pageRead : HostRead) (badRings : List RingNo)
  /-- FABRIC_CYCLE (R30). -/
  | fabricCycle (inp : FabricIn)
  /-- CTX_GO (R65). -/
  | ctxGo (i : ErgNo) (data : Data)
  /-- SWITCH_EDGE (R64). -/
  | switchEdge (i : ErgNo)
  /-- SETTLE_END (R71). -/
  | settleEnd (i : ErgNo)
  /-- ISO_FORCE_SET (R70). -/
  | isoForceSet (i : ErgNo) (data : Data)
  /-- ISO_FORCE_CLEAR (R562). -/
  | isoForceClear (i : ErgNo) (data : Data)
  /-- ISO_RELEASE (R72). -/
  | isoRelease (i : ErgNo) (data : Data)
  /-- ILLOP_CLEAR (R58). -/
  | illopClear (data : Data)
  /-- BM_PERR_CLEAR (R57). -/
  | bmPerrClear (data : Data)
  /-- DIR_PERR_CLEAR (R96). -/
  | dirPerrClear (data : Data)
  /-- SNAP_PLANE_RESERVE (R82). -/
  | snapPlaneReserve (i : ErgNo) (data : Data)
  /-- SNAP_PLANE_RELEASE (R82). -/
  | snapPlaneRelease (i : ErgNo) (data : Data)
  /-- SNAP_FREE (R86). -/
  | snapFree (i : ErgNo) (data : Data)
  /-- SNAP_GO (R83). -/
  | snapGo (data : Data)
  /-- SNAPSHOT_EDGE (R83). -/
  | snapshotEdge
  /-- ERG_ACTIVATION (R454). -/
  | ergActivation
  /-- PLANE_SCRUB_WORD (R462). -/
  | planeScrubWord (i : ErgNo) (plane : Option PlaneNo) (dune : Fin 16) (part : Fin 32) (word : Fin 320) (flips : List (Fin 72))
  /-- POWER_UP_LOAD (R453). -/
  | powerUpLoad (dies : BitVec 7)
  /-- LANE_CFG_WRITE (R102). -/
  | laneCfgWrite (n : LaneNo) (data : Data)
  /-- RX_ENABLE (R559). -/
  | rxEnable (n : LaneNo) (data : Data)
  /-- TX_ENABLE (R559). -/
  | txEnable (n : LaneNo) (data : Data)
  /-- RX_DISABLE (R102). -/
  | rxDisable (n : LaneNo) (data : Data)
  /-- TX_DISABLE (R102). -/
  | txDisable (n : LaneNo) (data : Data)
  /-- LANE_PORT_WRITE (R108). -/
  | lanePortWrite (n : LaneNo) (data : Data)
  /-- SIGNAL_DETECT (R103). -/
  | signalDetect (n : LaneNo)
  /-- RX_LOCK (R103). -/
  | rxLock (n : LaneNo)
  /-- TX_PLL_LOCK (R103). -/
  | txPllLock (n : LaneNo)
  /-- ALIGNMENT_GAINED (R117). -/
  | alignmentGained (n : LaneNo)
  /-- ALIGNMENT_LOST (R117). -/
  | alignmentLost (n : LaneNo)
  /-- SIGNAL_LOST (R121). -/
  | signalLost (n : LaneNo) (present : Bool)
  /-- MARGIN_GO (R120). -/
  | marginGo (n : LaneNo) (data : Data)
  /-- MARGIN_POINT_END (R120). -/
  | marginPointEnd (n : LaneNo) (errors : BitVec 41)
  /-- FEC_LATCH (R119). -/
  | fecLatch (q : QuadNo) (data : Data)
  /-- FEC_CLEAR (R119). -/
  | fecClear (q : QuadNo) (data : Data)
  /-- DAWN_MATCH (R123). -/
  | dawnMatch (n : LaneNo) (peak : Nat) (mv : List Int)
  /-- GIO_CFG_WRITE (R124). -/
  | gioCfgWrite (k : PinNo) (data : Data)
  /-- RECORD_BEAT (R148). -/
  | recordBeat (q : QueueNo)
  /-- POST_COUNT_EXPIRY (R154). -/
  | postCountExpiry (q : QueueNo)
  /-- QUEUE_ENABLE (R151). -/
  | queueEnable (q : QueueNo) (data : Data)
  /-- QUEUE_DISABLE (R151). -/
  | queueDisable (q : QueueNo) (data : Data)
  /-- QUEUE_CONFIG_WRITE (R174). -/
  | queueConfigWrite (q : QueueNo) (reg : QueueReg) (data : Data)
  /-- QUEUE_RD_WRITE (R157). -/
  | queueRdWrite (q : QueueNo) (data : Data)
  /-- CMD_DROP_REM (R157). -/
  | cmdDropRem (q : QueueNo)
  /-- CMD_START (R155). -/
  | cmdStart (q : QueueNo)
  /-- CMD_STOP (R155). -/
  | cmdStop (q : QueueNo)
  /-- CMD_FREEZE (R154). -/
  | cmdFreeze (q : QueueNo)
  /-- CMD_REARM (R154). -/
  | cmdRearm (q : QueueNo)
  /-- DRAIN_BURST (R155). -/
  | drainBurst (q : QueueNo)
  /-- DRAIN_WRITE_ACK (R155). -/
  | drainWriteAck (q : QueueNo)
  /-- DRAIN_WRITE_ERROR (R168). -/
  | drainWriteError (q : QueueNo)
  /-- TAIL_TIMER_EXPIRY (R156). -/
  | tailTimerExpiry (q : QueueNo)
  /-- REGION_CFG_WRITE (R177). -/
  | regionCfgWrite (g : RegionNo) (data : Data)
  /-- REGION_RD_WRITE (R177). -/
  | regionRdWrite (g : RegionNo) (data : Data)
  /-- SEQUENCER_RUN (R164). -/
  | sequencerRun (data : Data)
  /-- SWTRIG (R178). -/
  | swtrig (data : Data)
  /-- SEQ_COUNTER_EXPIRY (R166). -/
  | seqCounterExpiry (c : Fin 4)
  /-- SEQ_TIMER_EXPIRY (R166). -/
  | seqTimerExpiry (c : Fin 4)
  /-- QUEUE_ACTION (R167). -/
  | queueAction (layer : LayerNo)
  /-- PLAYER_CFG_WRITE (R206). -/
  | playerCfgWrite (p : PlayerNo) (reg : PlayerReg) (data : Data)
  /-- PRIME_REACHED (R189). -/
  | primeReached (p : PlayerNo)
  /-- START_TIME_REACHED (R190). -/
  | startTimeReached (p : PlayerNo)
  /-- PLAYER_FRAME_END (R201). -/
  | playerFrameEnd (p : PlayerNo)
  /-- JOURNAL_LIMIT_READ (R202). -/
  | journalLimitRead (p : PlayerNo) (res : HostRead)
  /-- PLAYER_READ_ERROR (R205). -/
  | playerReadError (p : PlayerNo) (status : RingStatus)
  /-- LANE_RUN_LOST (R205). -/
  | laneRunLost (p : PlayerNo)
  /-- TIME_SET (R215). -/
  | timeSet (data : Data)
  /-- RE_EPOCH (R227). -/
  | reEpoch (data : Data)
  /-- SYNC_IN_PULSE (R216). -/
  | syncInPulse (tick : Fin 40)
  /-- SYNC_LOAD_APPLY (R216). -/
  | syncLoadApply
  /-- SYNC_OUT_PULSE (R218). -/
  | syncOutPulse
  /-- COMPARE_FIRE (R219). -/
  | compareFire (k : Fin 4)
  /-- STAMP_WRAP (R214). -/
  | stampWrap
  /-- NOW_READ (R227). -/
  | nowRead (path : ReadPath)
  /-- BRIDGE_END (R225). -/
  | bridgeEnd (data : Data)
  /-- BRIDGE_HOLD_EXPIRY (R225). -/
  | bridgeHoldExpiry
  /-- ENGINE_NOP (R233). -/
  | engineNop (e : EngNo)
  /-- MAC (R233). -/
  | mac (e : EngNo)
  /-- ADDA (R233). -/
  | adda (e : EngNo)
  /-- ACCOP (R233). -/
  | accop (e : EngNo)
  /-- NAR (R234). -/
  | nar (e : EngNo)
  /-- ENGINE_CMP (R233). -/
  | engineCmp (e : EngNo)
  /-- HIST (R235). -/
  | hist (e : EngNo)
  /-- DIVS (R236). -/
  | divs (e : EngNo)
  /-- MARG (R238). -/
  | marg (e : EngNo)
  /-- ENGINE_MARGIN_END (R238). -/
  | engineMarginEnd (e : EngNo) (lane : Fin 16) (errors : BitVec 41)
  /-- CNTR (R239). -/
  | cntr (e : EngNo)
  /-- SETX (R233). -/
  | setx (e : EngNo)
  /-- ADDX (R233). -/
  | addx (e : EngNo)
  /-- LOOP (R237). -/
  | loop (e : EngNo)
  /-- JMP (R233). -/
  | jmp (e : EngNo)
  /-- LDM (R233). -/
  | ldm (e : EngNo)
  /-- STM (R233). -/
  | stm (e : EngNo)
  /-- ENGINE_TRANSFER_LINE (R233). -/
  | engineTransferLine (e : EngNo) (status : RingStatus)
  /-- SETB (R233). -/
  | setb (e : EngNo)
  /-- WAIT (R233). -/
  | wait (e : EngNo)
  /-- TRIG (R240). -/
  | trig (e : EngNo)
  /-- EVT (R233). -/
  | evt (e : EngNo)
  /-- HALT (R233). -/
  | halt (e : EngNo)
  /-- ENGINE_ENABLE (R247). -/
  | engineEnable (e : EngNo) (data : Data)
  /-- ENGINE_STEP (R246). -/
  | engineStep (e : EngNo) (data : Data)
  /-- ENGINE_RESUME (R246). -/
  | engineResume (e : EngNo) (data : Data)
  /-- ENGINE_ABORT (R245). -/
  | engineAbort (e : EngNo) (data : Data)
  /-- ENGINE_CLEAR (R247). -/
  | engineClear (e : EngNo) (data : Data)
  /-- ENGINE_MAP_WRITE (R241). -/
  | engineMapWrite (e : EngNo) (m : Fin 2) (data : Data)
  /-- PROG_DATA_ACCESS (R242). -/
  | progDataAccess (e : EngNo) (acc : RegAcc)
  /-- MEM_DATA_ACCESS (R230). -/
  | memDataAccess (e : EngNo) (acc : RegAcc)
  /-- OASIS_PORT_COMMAND (R259). -/
  | oasisPortCommand (i : GroupNo)
  /-- OASIS_PORT_RESPONSE (R259). -/
  | oasisPortResponse (i : GroupNo)
  /-- OASIS_RING_ACCESS (R253). -/
  | oasisRingAccess (i : GroupNo) (req : ReqId) (off : Nat) (acc : MemAcc)
  /-- OASIS_WRITEBACK (R260). -/
  | oasisWriteback (i : GroupNo) (clean : Bool)
  /-- OASIS_SELF_TEST (R266). -/
  | oasisSelfTest (layer : LayerNo) (bad : List Nat)
  /-- OASIS_SELF_TEST_END (R266). -/
  | oasisSelfTestEnd (layer : LayerNo)
  /-- OASIS_TEST_STATE_WRITE (R267). -/
  | oasisTestStateWrite (i : GroupNo) (data : Data)
  /-- OASIS_TEST_WRITE (R267). -/
  | oasisTestWrite (data : Data)
  /-- OASIS_TEST_READ (R267). -/
  | oasisTestRead (data : Data)
  /-- OASIS_FPORT_WRITE (R257). -/
  | oasisFportWrite (i : GroupNo) (data : Data)
  /-- CONF_CLEAR (R264). -/
  | confClear (data : Data)
  /-- DRAM_REQUEST (R283). -/
  | dramRequest (p : CtlNo) (failReads : ReadErrs)
  /-- THROTTLE_HOLD_EXPIRY (R285). -/
  | throttleHoldExpiry (p : CtlNo) (req : ReqId) (bank : Nat)
  /-- ACTIVATION_COUNTER_CLEAR (R285). -/
  | activationCounterClear (p : CtlNo)
  /-- DRAM_WRITEBACK (R287). -/
  | dramWriteback (p : CtlNo) (clean : Bool)
  /-- PATROL_SCRUB_LINE (R289). -/
  | patrolScrubLine (p : CtlNo) (failReads : ReadErrs)
  /-- REFRESH (R284). -/
  | refresh (p : CtlNo) (bank : Nat) (own : Bool)
  /-- REFRESH_REPORT_POLL (R284). -/
  | refreshReportPoll (p : CtlNo) (ch : Fin 4) (rate : BitVec 5)
  /-- RETRAIN_PERIODIC (R292). -/
  | retrainPeriodic (p : CtlNo) (ch : Fin 4)
  /-- CMD_RETRAIN (R292). -/
  | cmdRetrain (p : CtlNo) (data : Data)
  /-- RETRAIN_END (R292). -/
  | retrainEnd (p : CtlNo) (ch : Fin 4) (ok : Bool)
  /-- TRAINING_END (R291). -/
  | trainingEnd (p : CtlNo) (failed : BitVec 4)
  /-- CLEARING_END (R293). -/
  | clearingEnd (p : CtlNo)
  /-- CLR_CNT (R299). -/
  | clrCnt (p : CtlNo) (data : Data)
  /-- WINDOW_CFG_WRITE (R276). -/
  | windowCfgWrite (w : WinNo) (data : Data)
  /-- WINDOW_MASK_WRITE (R276). -/
  | windowMaskWrite (w : WinNo) (data : Data)
  /-- PRESET_WRITE (R298). -/
  | presetWrite (p : CtlNo) (data : Data)
  /-- REQUEST_TRANSLATE (R561). -/
  | requestTranslate (req : ReqId) (addr : Nat) (acc : MemAcc)
  /-- DRIFT_LINE (R316). -/
  | driftLine (failReads : ReadErrs)
  /-- DRIFT_CHECKPOINT_CONFIRM (R320). -/
  | driftCheckpointConfirm
  /-- DRIFT_CHECKPOINT_RETRY (R320). -/
  | driftCheckpointRetry
  /-- DRIFT_PAUSE (R317). -/
  | driftPause (data : Data)
  /-- LANE_DECLARED_FAILING (R331). -/
  | laneDeclaredFailing (x : Crossing) (lane : Fin 76)
  /-- SPARE_SWAP_END (R333). -/
  | spareSwapEnd (x : Crossing) (agree : Bool)
  /-- REPAIR_RECORD_WRITE (R335). -/
  | repairRecordWrite
  /-- RISER_TRANSFER (R340). -/
  | riserTransfer (x : RiserNo) (dest : Fin 7) (seq : BitVec 10) (body : List (BitVec 8)) (crc : BitVec 16)
  /-- RISER_ACK (R340). -/
  | riserAck (x : RiserNo) (seq : BitVec 10)
  /-- RISER_REPLAY_TIMEOUT (R340). -/
  | riserReplayTimeout (x : RiserNo)
  /-- SENSOR_READ (R344). -/
  | sensorRead (readings : List SensorIn)
  /-- THERMAL_DORMANT (R505). -/
  | thermalDormant (k : SensorNo) (page : HostRead)
  /-- SHADE_WINDOW (R345). -/
  | shadeWindow
  /-- INTERVENTION_ESCALATE (R350). -/
  | interventionEscalate (i : ErgNo)
  /-- INTERVENTION_END (R349). -/
  | interventionEnd (i : ErgNo)
  /-- THM_CTL_WRITE (R355). -/
  | thmCtlWrite (data : Data)
  /-- WEAR_SAMPLE (R357). -/
  | wearSample
  /-- WEAR_LOG_WRITE (R358). -/
  | wearLogWrite
  /-- DAILY_NARROW (R360). -/
  | dailyNarrow
  /-- FLIT_INJECT (R375). -/
  | flitInject (ring : Fin 6) (stop : Fin 48) (hdr : BitVec 128) (body : List (BitVec 8)) (class0Slot : Bool)
  /-- PACKET_EJECT (R377). -/
  | packetEject (ring : Fin 6) (stop : Fin 48)
  /-- RESERVE_PACKET (R377). -/
  | reservePacket (hdr : BitVec 128)
  /-- GRANT_PACKET (R377). -/
  | grantPacket (hdr : BitVec 128)
  /-- RING_RESPONSE (R370). -/
  | ringResponse (hdr : BitVec 128)
  /-- TABLE_SWITCH (R373). -/
  | tableSwitch (data : Data)
  /-- DRAIN_MARKER_RETURN (R373). -/
  | drainMarkerReturn (ring : Fin 6)
  /-- TBL_DATA_WRITE (R374). -/
  | tblDataWrite (data : Data)
  /-- WAKE_ON_ACCESS_TIMEOUT (R380). -/
  | wakeOnAccessTimeout (dom : DomNo)
  /-- TRACE_ENABLE (R383). -/
  | traceEnable (data : Data)
  /-- PROBE_CLEAR (R385). -/
  | probeClear (data : Data)
  /-- REFIN_LOST (R488). -/
  | refinLost
  /-- REFIN_PRESENT (R488). -/
  | refinPresent
  /-- ROOT_LOCK (R483). -/
  | rootLock (aon : Data)
  /-- ROOT_WAIT_EVENT (R484). -/
  | rootWaitEvent
  /-- CRYSTAL_LOST (R488). -/
  | crystalLost
  /-- CRYSTAL_QUALIFIED (R486). -/
  | crystalQualified
  /-- IOSC_READY (R486). -/
  | ioscReady
  /-- IOSC_LOST (R488). -/
  | ioscLost
  /-- GATE_WRITE (R490). -/
  | gateWrite (data : Data)
  /-- FMETER_GO (R491). -/
  | fmeterGo (data : Data)
  /-- FMETER_DONE (R491). -/
  | fmeterDone (count : BitVec 48)
  /-- POWER_ON_RESET (R496). -/
  | powerOnReset
  /-- WARM_RESET (R492). -/
  | warmReset (data : Data)
  /-- FUNCTION_LEVEL_RESET (R388). -/
  | functionLevelReset
  /-- PERST (R492). -/
  | perst
  /-- DOMAIN_RESET (R493). -/
  | domainReset (data : Data)
  /-- DOMAIN_RESET_RELEASE (R493). -/
  | domainResetRelease (dom : DomNo)
  /-- REQ_ACTIVE (R499). -/
  | reqActive (data : Data)
  /-- REQ_QUIET (R499). -/
  | reqQuiet (data : Data)
  /-- REQ_REST (R500). -/
  | reqRest (data : Data)
  /-- REQ_DORMANT (R500). -/
  | reqDormant (data : Data)
  /-- ROOT_STOP (R501). -/
  | rootStop (aon : Data) (level : Option WakeSrc)
  /-- WAKE_SOURCE_LEVEL (R502). -/
  | wakeSourceLevel (src : WakeSrc)
  /-- WAKE_SOURCE_EDGE (R501). -/
  | wakeSourceEdge (src : WakeSrc) (inWindow : Bool)
  /-- WAKE_TIMER_MATCH (R502). -/
  | wakeTimerMatch
  /-- WAKE_FROM_REST (R503). -/
  | wakeFromRest (aon : Data)
  /-- WAKE_FROM_DORMANT (R504). -/
  | wakeFromDormant (aon : Data) (padKept : Bool)
  /-- DOMAIN_POWER_DOWN (R506). -/
  | domainPowerDown (data : Data)
  /-- DOMAIN_POWER_UP (R506). -/
  | domainPowerUp (data : Data)
  /-- POWER_LOSS (R497). -/
  | powerLoss (aux : Bool)
  /-- MAIN_UNDERVOLTAGE (R549). -/
  | mainUndervoltage
  /-- OVERCURRENT (R549). -/
  | overcurrent
  /-- PASS_SWITCH_CLOSE (R548). -/
  | passSwitchClose
  /-- SOFT_START_END (R548). -/
  | softStartEnd
  /-- HEARTBEAT (R511). -/
  | heartbeat (dst : SvNo)
  /-- HEARTBEAT_TIMEOUT (R511). -/
  | heartbeatTimeout (who : SvNo)
  /-- SUPERVISOR_SELF_CHECK_END (R515). -/
  | supervisorSelfCheckEnd (c : SvNo) (pass : Bool)
  /-- WATCHDOG_EXPIRY (R518). -/
  | watchdogExpiry (c : CoreNo)
  /-- RECOVERY_NEED (R514). -/
  | recoveryNeed (kind : BitVec 8) (target : Data)
  /-- CORE_HALT (R525). -/
  | coreHalt (c : CoreNo) (data : Data)
  /-- CORE_RESUME (R525). -/
  | coreResume (c : CoreNo) (data : Data)
  /-- CORE_STEP (R525). -/
  | coreStep (c : CoreNo) (data : Data)
  /-- HALT_RESERVATION_TIMEOUT (R529). -/
  | haltReservationTimeout (c : CoreNo)
  /-- CORE_COMPARATOR_MATCH (R528). -/
  | coreComparatorMatch (c : CoreNo) (kind : CmpKind) (addr : BitVec 32)
  /-- DIR_WRITE (R526). -/
  | dirWrite (c : CoreNo) (data : Data)
  /-- ACC_DATA_WRITE (R526). -/
  | accDataWrite (c : CoreNo) (data : Data)
  /-- ACC_DATA_READ (R526). -/
  | accDataRead (c : CoreNo)
  /-- VT_TO_WRITE (R531). -/
  | vtToWrite (c : SvNo) (data : Data)
  /-- VT_FROM_WRITE (R531). -/
  | vtFromWrite (c : SvNo) (word : BitVec 32)
  /-- VT_FROM_READ (R531). -/
  | vtFromRead (c : SvNo) (path : ReadPath)
  /-- EXTEST (R523). -/
  | extest (cells : List Bool)
  /-- SAMPLE_PRELOAD (R523). -/
  | samplePreload (cells : List Bool)
  /-- DEVINFO (R523). -/
  | devinfo
  /-- DBGREG (R523). -/
  | dbgreg (dr : BitVec 88)
  /-- UNLOCK (R524). -/
  | unlock (word : BitVec 32)
  /-- BYPASS (R523). -/
  | bypass (code : BitVec 8)
  /-- HOST_LINK_DOWN (R410). -/
  | hostLinkDown
  /-- DOMAIN_WAKE_END (R380). -/
  | domainWakeEnd (dom : DomNo)
  /-- IOSC_READY_TIMEOUT (R488). -/
  | ioscReadyTimeout
  /-- WATCHDOG_RESTART (R518). -/
  | watchdogRestart (c : CoreNo) (period : BitVec 24)
  /-- VT_TO_READ (R531). -/
  | vtToRead (c : SvNo)
  /-- MAIN_LOST_IN_DORMANT (R295). -/
  | mainLostInDormant
  /-- LANE_TAKES_GRAIN (R194). -/
  | laneTakesGrain (p : PlayerNo)
  /-- LANE_RATE_WRITE (R102). -/
  | laneRateWrite (n : LaneNo) (data : Data)
  /-- LANE_ALIGN_CTL_WRITE (R102). -/
  | laneAlignCtlWrite (n : LaneNo) (data : Data)
  /-- SANDGLASS_CFG_WRITE (R197). -/
  | sandglassCfgWrite (l : ListNo) (data : Data)
  /-- SYNC_IN_WRITE (R220). -/
  | syncInWrite (reg : SyncReg) (data : Data)
  /-- SYNC_OUT_WRITE (R219). -/
  | syncOutWrite (data : Data)
  /-- CMP_CTL_WRITE (R219). -/
  | cmpCtlWrite (k : Fin 4) (data : Data)
  /-- SCH_SPILL_STORE_WRITE (R421). -/
  | schSpillStoreWrite (reg : SchReg) (data : Data)
  /-- TP_CH_WRITE (R439). -/
  | tpChWrite (i : ErgNo) (data : Data)
  /-- EVT_CFG_WRITE (R415). -/
  | evtCfgWrite (data : Data)
  /-- TEST_LOGIC_RESET (R536). -/
  | testLogicReset
deriving DecidableEq, Repr

end Sys2Proof
end

