-- ==== Sys2Proof/Config.lean ====
section
/-!
DEFINITION. What an implementation fixes or the spec leaves open. An opaque constant has no value that a proof could use: a
statement about it holds whatever it is.
-/
namespace Sys2Proof.Config

/-- A fresh free value of `w` bits, by the state's counter of free values. -/
opaque freeValue (w : Nat) (ctr : Nat) : BitVec w

/-- A fresh free choice among `n` values: a free value reduced to the range. -/
def freeBelow (n ctr : Nat) : Nat := (freeValue 64 ctr).toNat % (max n 1)

/-- Set positions per row of the fitted DRAM (GEOM.SPR, R278): the spec gives no number. -/
opaque setPositions : Nat

/-- Buffers that a stop's port holds for a class (R377, R378): the spec gives no number. -/
opaque ringBuffers (dst cls : Nat) : Nat

/-- The domain that a request at a stop's port is for, by its address (R366, R379): the spec does not lay the ports out. -/
opaque ringDomain (dst addr : Nat) : Nat

/-! ### Keys and certificates (chapters 17, 18) -/

/-- The transport key that slot 0 holds from manufacture (R466). -/
opaque transportKey : BitVec 384

/-- The module's private identity key, a scalar of P-384 (R466, R476). -/
opaque identityKey : Nat

/-- The ECDSA P-384 signature of a digest by the module identity key, r then s big-endian, byte 0 in bits 7:0 (R470). -/
opaque signReport (digest : BitVec 384) : BitVec 768

/-- The DER module certificate (R466, R470). -/
opaque moduleCert : List (BitVec 8)

/-- Whether a signature block of an image, over its 256-byte manifest, and its chain pass under the fused image root, or the owner's
certificate where one is provisioned; only the owner's with OWNER_ONLY (R445, R467). -/
opaque imageSigned (manifest sigBlock ownerCert : List (BitVec 8)) (ownerOnly : Bool) : Bool

/-- How a firmware file fares: its version where it passes the checks of R451 under the Arlatur firmware root, or the cause of R452
(R467, R477). The layout of a firmware file is not in the spec. -/
opaque firmwareCheck (file : List (BitVec 8)) : Except (BitVec 8) (BitVec 32)

/-- Whether a debug certificate names this serial and is issued under the owner key, or the Arlatur debug root without one (R479). -/
opaque debugCert (serial : BitVec 128) (ownerCert cert : List (BitVec 8)) : Bool

/-- The new owner certificate and the key block of an owner block whose signatures pass (R478). -/
opaque ownerBlock (serial : BitVec 128) (ownerCert block : List (BitVec 8)) : Option (List (BitVec 8) × List (BitVec 8))

/-- Where a ring address of DBG.CORE[c].ACC_ADDR leads, which the spec does not lay out: 0 an address of DRAM, 1 of the oases as group
× 2^24 + byte, 2 an offset of BAR0, anything else nowhere; and the address there (R526). -/
opaque ringTarget (addr : Nat) : Nat × Nat

/-- VALID with RAM word and ROM address of a patch unit of a core, as the running firmware image loads it; what an image loads is not in the
spec (R530, R537). -/
opaque patchUnit (fwHash : BitVec 384) (core unit : Nat) : BitVec 64

/-- Whether a byte of a core's address space lies behind the wall round the keys (R527); the spec does not say where they lie. -/
opaque keyWall (addr : Nat) : Bool

end Sys2Proof.Config
end

