-- ==== Sys2Proof/Machine/Bits.lean ====
section
/-!
DEFINITION. Bit fields, bytes and sign extension: the small operations on words that every chapter uses. Byte 0 of a word is its
bits 7:0 (R139, R249, R393, R443).
-/
namespace Sys2Proof.Machine

/-- Bits `lo` to `lo + w - 1` of a number. -/
def natBits (n lo w : Nat) : Nat := (n / 2 ^ lo) % 2 ^ w

/-- Bit `k` of a number. -/
def natBit (n k : Nat) : Bool := (n / 2 ^ k) % 2 == 1

/-- A field's value in a register. -/
def Fld.get (f : Fld) (v : Data) : Nat := natBits v.toNat f.lo f.w

/-- Whether a field is not zero. -/
def Fld.on (f : Fld) (v : Data) : Bool := f.get v != 0

/-- A register with one field replaced; a value too wide keeps its low bits. -/
def Fld.put (f : Fld) (v : Data) (x : Nat) : Data :=
  let n := v.toNat
  BitVec.ofNat 64 (n - natBits n f.lo f.w * 2 ^ f.lo + (x % 2 ^ f.w) * 2 ^ f.lo)

/-- The largest value a field holds. -/
def Fld.max (f : Fld) : Nat := 2 ^ f.w - 1

/-- A number as one bit. -/
def bit01 (b : Bool) : Nat := if b then 1 else 0

/-- A number of `w` bits read as signed. -/
def signed (w n : Nat) : Int := if n % 2 ^ w < 2 ^ (w - 1) then (n % 2 ^ w : Nat) else (n % 2 ^ w : Nat) - (2 ^ w : Nat)

/-- An integer modulo 2^w. -/
def wrapInt (w : Nat) (x : Int) : Nat := (x % (2 ^ w : Nat)).toNat

/-- The bytes of a number, byte 0 first. -/
def toBytes : (len : Nat) → Nat → List Byte
  | 0, _ => []
  | k + 1, n => BitVec.ofNat 8 n :: toBytes k (n / 256)

/-- The number whose bytes these are, byte 0 first. -/
def ofBytes : List Byte → Nat
  | [] => 0
  | b :: r => b.toNat + 256 * ofBytes r

/-- The number whose bits these are, bit 0 first. -/
def ofBits : List Bool → Nat
  | [] => 0
  | b :: r => bit01 b + 2 * ofBits r

/-- The low `w` bits of a number, bit 0 first. -/
def toBits : (w : Nat) → Nat → List Bool
  | 0, _ => []
  | k + 1, n => (n % 2 == 1) :: toBits k (n / 2)

/-- The number of 1 bits among the low `w`. -/
def popCount : (w : Nat) → Nat → Nat
  | 0, _ => 0
  | k + 1, n => n % 2 + popCount k (n / 2)

/-- The lowest number below `n` that satisfies `p`. -/
def firstBelow (n : Nat) (p : Nat → Bool) : Option Nat := (List.range n).find? p

/-- A number added to a counter of `w` bits that saturates. -/
def satAdd (w a b : Nat) : Nat := min (a + b) (2 ^ w - 1)

/-- An element put into a sorted list behind those of equal key. -/
def insertOn {α : Type} (key : α → Nat) (x : α) : List α → List α
  | [] => [x]
  | y :: r => if key x < key y then x :: y :: r else y :: insertOn key x r

/-- A list sorted by a key; elements of equal key keep their order. -/
def sortOn {α : Type} (key : α → Nat) (l : List α) : List α := l.foldl (fun acc x => insertOn key x acc) []

/-- Replace element `k` of a list. -/
def listSet {α : Type} (l : List α) (k : Nat) (v : α) : List α := l.set k v

/-- Pad a list of bytes with zeros to a length. -/
def padBytes (n : Nat) (l : List Byte) : List Byte := l ++ List.replicate (n - l.length) 0

end Sys2Proof.Machine
end

