-- ==== Sys2Proof/Machine/Crypto.lean ====
section
/-!
DEFINITION. The algorithms that the spec names by their standards: AES-256 (R306, R308, R309), SHA-384 (R444, R470), HMAC-SHA-384 (R471),
and the unwrapping of a key block (R476). What they compute is taken from FIPS 197, FIPS 180-4, FIPS 198-1, FIPS 186-5, RFC 5869 and NIST SP
800-38D (PRESUMED, log entry 50). Words are numbers below 2^64.
-/
namespace Sys2Proof.Machine

/-! ### SHA-384 -/

/-- The constants of the rounds: the fractions of the cube roots of the first 80 primes to 64 bits, sixteen to a number, the first in its
lowest bits. -/
def shaRoots : Nat → Nat
  | 0 => 0xc19bf174cf6926949bdc06a725c7123580deb1fe3b1696b172be5d74f27b896f550c7dc3d5ffb4e2243185be4ee4b28c12835b0145706fbed807aa98a3030242ab1c5ed5da6d8118923f82a4af194f9b59f111f1b605d0193956c25bf348b538e9b5dba58189dbbcb5c0fbcfec4d3b2f7137449123ef65cd428a2f98d728ae22
  | 1 => 0x142929670a0e6e7006ca6351e003826fd5a79147930aa725c6e00bf33da88fc2bf597fc7beef0ee4b00327c898fb213fa831c66d2db43210983e5152ee66dfab76f988da831153b55cb0a9dcbd41fbd44a7484aa6ea6e4832de92c6f592b0275240ca1cc77ac9c650fc19dc68b8cd5b5efbe4786384f25e3e49b69c19ef14ad2
  | 2 => 0x106aa07032bbd1b8f40e35855771202ad69906245565a910d192e819d6ef5218c76c51a30654be30c24b8b70d0f89791a81a664bbc423001a2bfe8a14cf1036492722c851482353b81c2c92e47edaee6766a0abb3c77b2a8650a73548baf63de53380d139d95b3df4d2c6dfc5ac42aed2e1b21385c26c92627b70a8546d22ffc
  | 3 => 0xc67178f2e372532bbef9a3f7b2c67915a4506cebde82bde990befffa23631e288cc702081a6439ec84c87814a1f0ab7278a5636f43172f60748f82ee5defb2fc682e6ff3d6b2b8a35b9cca4f7763e3734ed8aa4ae3418acb391c0cb3c5c95a6334b0bcb5e19b48a82748774cdf8eeb991e376c085141ab5319a4c116b8d2d0c8
  | _ => 0x6c44198c4a4758175fcb6fab3ad6faec597f299cfc657e2a4cc5d4becb3e42b6431d67c49c100d4c3c9ebe0a15c9bebc32caab7b40c7249328db77f523047d841b710b35131c471b113f9804bef90dae0a637dc5a2c898a606f067aa72176fbaf57d4f7fee6ed178eada7dd6cde0eb1ed186b8c721c0c207ca273eceea26619c

/-- The initial hash value: the fractions of the square roots of the ninth to the sixteenth prime to 64 bits, the first in the lowest bits. -/
def shaStart : Nat := 0x47b5481dbefa4fa4db0c2e0d64f98fa78eb44a876858151167332667ffc00b31152fecd8f70e59399159015a3070dd17629a292a367cd507cbbb9d5dc1059ed8

/-- The initial hash value as its eight words. -/
def shaH : List Nat := (List.range 8).map (fun j => natBits shaStart (64 * j) 64)

/-- The constant of a round. -/
def shaK (t : Nat) : Nat := natBits (shaRoots (t / 16)) (64 * (t % 16)) 64

/-- A 64-bit word rotated right. -/
def rotr64 (x n : Nat) : Nat := x / 2 ^ n + x % 2 ^ n * 2 ^ (64 - n)

/-- The number whose bytes these are, the most significant first. -/
def bigEndian (b : List Byte) : Nat := b.foldl (fun a x => 256 * a + x.toNat) 0

/-- The bytes of a number, the most significant first. -/
def bigBytes (len n : Nat) : List Byte := (toBytes len n).reverse

/-- The message schedule: sixteen words extended by so many, newest first. -/
def shaExtend : (n : Nat) → List Nat → List Nat
  | 0, w => w
  | n + 1, w =>
    let a := w.getD 1 0
    let b := w.getD 14 0
    let s1 := rotr64 a 19 ^^^ rotr64 a 61 ^^^ a / 2 ^ 6
    let s0 := rotr64 b 1 ^^^ rotr64 b 8 ^^^ b / 2 ^ 7
    shaExtend n ((s1 + w.getD 6 0 + s0 + w.getD 15 0) % 2 ^ 64 :: w)

/-- The words of a block, in order. -/
def shaWords (block : List Byte) : List Nat :=
  (shaExtend 64 ((List.range 16).reverse.map (fun k => bigEndian ((block.drop (8 * k)).take 8)))).reverse

/-- One round on the eight working variables. -/
def shaRound (v : List Nat) (kw : Nat) : List Nat :=
  match v with
  | [a, b, c, d, e, f, g, h] =>
    let s1 := rotr64 e 14 ^^^ rotr64 e 18 ^^^ rotr64 e 41
    let ch := (e &&& f) ^^^ ((2 ^ 64 - 1 - e) &&& g)
    let t1 := h + s1 + ch + kw
    let s0 := rotr64 a 28 ^^^ rotr64 a 34 ^^^ rotr64 a 39
    let mj := (a &&& b) ^^^ (a &&& c) ^^^ (b &&& c)
    [(t1 + s0 + mj) % 2 ^ 64, a, b, c, (d + t1) % 2 ^ 64, e, f, g]
  | _ => v

/-- A block taken into the hash value. -/
def shaBlock (h : List Nat) (block : List Byte) : List Nat :=
  let v := ((shaWords block).zipIdx).foldl (fun v p => shaRound v (shaK p.2 + p.1)) h
  List.zipWith (fun a b => (a + b) % 2 ^ 64) h v

/-- The blocks of a padded message. -/
def shaBlocks : (fuel : Nat) → List Nat → List Byte → List Nat
  | 0, h, _ => h
  | n + 1, h, m => if m.isEmpty then h else shaBlocks n (shaBlock h (m.take 128)) (m.drop 128)

/-- A message completed to whole blocks: a bit, zeros and its length in bits. -/
def shaPadded (m : List Byte) : List Byte :=
  m ++ [0x80] ++ List.replicate ((239 - m.length % 128) % 128) 0 ++ bigBytes 16 (8 * m.length)

/-- The 48 bytes of SHA-384 of a message. -/
def sha384Bytes (m : List Byte) : List Byte :=
  let p := shaPadded m
  ((shaBlocks (p.length / 128) shaH p).take 6).flatMap (bigBytes 8)

/-- SHA-384 as a number, byte 0 of the digest in bits 7:0. -/
def sha384 (m : List Byte) : BitVec 384 := BitVec.ofNat 384 (ofBytes (sha384Bytes m))

/-- The 48 bytes of HMAC-SHA-384 under a key of 48 bytes. -/
def hmacBytes (key m : List Byte) : List Byte :=
  let k := key ++ List.replicate 80 0
  sha384Bytes (k.map (· ^^^ 0x5C) ++ sha384Bytes (k.map (· ^^^ 0x36) ++ m))

/-- The first 16 bytes of HMAC-SHA-384 under a slot key, byte 0 in bits 7:0 of key and tag (R471). -/
def hmacTag (key : BitVec 384) (m : List Byte) : BitVec 128 := BitVec.ofNat 128 (ofBytes ((hmacBytes (toBytes 48 key.toNat) m).take 16))

/-! ### AES-256 -/

/-- The S-box in eight parts of 32 bytes, the byte of the part's lowest index in bits 7:0. -/
def aesBox (x : Nat) : Nat :=
  (match x / 32 with
    | 0 => 0xc072a49cafa2d4adf04759fa7dc982ca76abd7fe2b670130c56f6bf27b777c63
    | 1 => 0x75b227ebe28012079a059618c323c7041531d871f1e5a534ccf73f362693fdb7
    | 2 => 0xcf584c4a39becb6a5bb1fc20ed00d153842fe329b3d63b52a05a6e1b1a2c8309
    | 3 => 0xd2f3ff1021dab6bcf5389d928f40a351a89f3c507f02f94585334d43fbaaefd0
    | 4 => 0xdb0b5ede14b8ee4688902a22dc4f816073195d643d7ea7c41744975fec130ccd
    | 5 => 0x08ae7a65eaf4566ca94ed58d6d37c8e779e4959162acd3c25c2406490a3a32e0
    | 6 => 0x9e1dc186b95735610ef6034866b53e708a8bbd4b1f74dde8c6b4a61c2e2578ba
    | _ => 0x16bb54b00f2d99416842e6bf0d89a18cdf2855cee9871e9b948ed9691198f8e1) / 256 ^ (x % 32) % 256

/-- A byte times x in GF(2^8) modulo x^8 + x^4 + x^3 + x + 1. -/
def aesTwice (a : Nat) : Nat := let b := a * 2; if 256 ≤ b then (b ^^^ 0x11B) % 256 else b

/-- One column of four bytes mixed. -/
def aesMix : List Nat → List Nat
  | [a, b, c, d] =>
    let e := a ^^^ b ^^^ c ^^^ d
    [a ^^^ e ^^^ aesTwice (a ^^^ b), b ^^^ e ^^^ aesTwice (b ^^^ c), c ^^^ e ^^^ aesTwice (c ^^^ d), d ^^^ e ^^^ aesTwice (d ^^^ a)]
  | l => l

/-- SubBytes and ShiftRows of a state of 16 bytes in columns. -/
def aesShift (s : List Nat) : List Nat := (List.range 16).map (fun i => aesBox (s.getD ((i + 4 * (i % 4)) % 16) 0))

def xorLists (a b : List Nat) : List Nat := List.zipWith (fun x y => x ^^^ y) a b

/-- The key schedule: four-byte words after the first eight, newest first, with the round constant that is due. -/
def aesExpand : (n : Nat) → (i rcon : Nat) → List (List Nat) → List (List Nat)
  | 0, _, _, w => w
  | n + 1, i, rcon, w =>
    let t := w.getD 0 []
    let u :=
      if i % 8 = 0 then xorLists ((t.drop 1 ++ t.take 1).map aesBox) [rcon, 0, 0, 0]
      else if i % 8 = 4 then t.map aesBox
      else t
    aesExpand n (i + 1) (if i % 8 = 0 then aesTwice rcon else rcon) (xorLists u (w.getD 7 []) :: w)

/-- The round keys of 16 bytes, in order. -/
def aesKeys (key : BitVec 256) : List (List Nat) :=
  let k := (toBytes 32 key.toNat).map (fun b => b.toNat)
  let w := (aesExpand 52 8 1 ((List.range 8).reverse.map (fun i => (k.drop (4 * i)).take 4))).reverse
  (List.range 15).map (fun r => ((w.drop (4 * r)).take 4).flatten)

/-- The thirteen full rounds and the last. -/
def aesRounds : List (List Nat) → List Nat → List Nat
  | [], s => s
  | [k], s => xorLists (aesShift s) k
  | k :: r, s =>
    let t := aesShift s
    aesRounds r (xorLists ((List.range 4).flatMap (fun c => aesMix ((t.drop (4 * c)).take 4))) k)

/-- AES-256 of one block, byte 0 in bits 7:0 of key, block and result. -/
def aes256 (key : BitVec 256) (block : BitVec 128) : BitVec 128 :=
  let ks := aesKeys key
  let s := xorLists ((toBytes 16 block.toNat).map (fun b => b.toNat)) (ks.headD [])
  BitVec.ofNat 128 (ofBytes ((aesRounds ks.tail s).map (fun n => BitVec.ofNat 8 n)))

/-! ### Key blocks (R476): ECDH on P-384, HKDF-SHA-384 and AES-256-GCM -/

def p384 : Nat := 2 ^ 384 - 2 ^ 128 - 2 ^ 96 + 2 ^ 32 - 1
def p384B : Nat :=
  0xb3312fa7e23ee7e4988e056be3f82d19181d9c6efe8141120314088f5013875ac656398d8a2ed19d2a85c8edd3ec2aef

/-- A power modulo p, by the bits of an exponent of so many bits. -/
def powMod (p a e : Nat) : (bits : Nat) → Nat
  | 0 => 1 % p
  | n + 1 => let r := powMod p a (e / 2) n; if e % 2 = 1 then r * r % p * a % p else r * r % p

/-- A point doubled, in Jacobian coordinates; z = 0 is the point at infinity. -/
def ecDouble : Nat × Nat × Nat → Nat × Nat × Nat
  | (x, y, z) =>
    let p := p384
    let d := z * z % p
    let g := y * y % p
    let b := x * g % p
    let a := 3 * ((x + p - d) % p) * ((x + d) % p) % p
    let x' := (a * a + 8 * (p - b)) % p
    (x', (a * ((4 * b + p - x') % p) + 8 * (p - g * g % p)) % p, 2 * y * z % p)

/-- A point added to an affine point. -/
def ecAdd : Nat × Nat × Nat → Nat → Nat → Nat × Nat × Nat
  | (x, y, z), u, v =>
    let p := p384
    if z = 0 then (u, v, 1)
    else
      let zz := z * z % p
      let h := (u * zz + (p - x)) % p
      let r := (v * (zz * z % p) + (p - y)) % p
      if h = 0 then (if r = 0 then ecDouble (x, y, z) else (1, 1, 0))
      else
        let h2 := h * h % p
        let h3 := h * h2 % p
        let w := x * h2 % p
        let x' := (r * r + (p - h3) + 2 * (p - w)) % p
        (x', (r * ((w + p - x') % p) + (p - y * h3 % p)) % p, z * h % p)

/-- A scalar of so many bits times an affine point. -/
def ecMul (k u v : Nat) : (bits : Nat) → Nat × Nat × Nat
  | 0 => (1, 1, 0)
  | n + 1 => let q := ecDouble (ecMul (k / 2) u v n); if k % 2 = 1 then ecAdd q u v else q

/-- Whether a point lies on P-384. -/
def onCurve (x y : Nat) : Bool :=
  decide (x < p384) && decide (y < p384) && y * y % p384 == (x * x % p384 * x + (p384 - 3) * x + p384B) % p384

/-- The 48 bytes of the ECDH secret of a private key and a public point: its x coordinate; none at infinity. -/
def ecdh (d x y : Nat) : Option (List Byte) :=
  let q := ecMul d x y 384
  if q.2.2 = 0 then none
  else
    let zi := powMod p384 q.2.2 (p384 - 2) 384
    some (bigBytes 48 (q.1 * (zi * zi % p384) % p384))

/-- The first 44 bytes of HKDF-SHA-384 with a zero salt. -/
def hkdf44 (secret info : List Byte) : List Byte := (hmacBytes (hmacBytes (List.replicate 48 0) secret) (info ++ [1])).take 44

/-- A product in the field of GCM, whose leading bit is the coefficient of x^0. -/
def gcmMul (x y : Nat) : Nat :=
  ((List.range 128).foldl (fun (a : Nat × Nat) k =>
    (if x / 2 ^ (127 - k) % 2 = 1 then a.1 ^^^ a.2 else a.1, if a.2 % 2 = 1 then (a.2 / 2) ^^^ (0xE1 * 2 ^ 120) else a.2 / 2)) (0, y)).1

/-- A block under AES-256, both as numbers whose first byte is the most significant. -/
def aesBig (key : List Byte) (x : Nat) : Nat :=
  bigEndian (toBytes 16 (aes256 (BitVec.ofNat 256 (ofBytes key)) (BitVec.ofNat 128 (ofBytes (bigBytes 16 x)))).toNat)

/-- The tag and the plaintext of 48 bytes of ciphertext under AES-256-GCM without additional data. -/
def gcm48 (key nonce ct : List Byte) : Nat × List Byte :=
  let j := bigEndian nonce * 2 ^ 32
  let h := aesBig key 0
  let blocks := (List.range 3).map (fun k => bigEndian ((ct.drop (16 * k)).take 16))
  let s := (blocks ++ [384]).foldl (fun s b => gcmMul (s ^^^ b) h) 0
  (s ^^^ aesBig key (j + 1), blocks.zipIdx.flatMap (fun b => bigBytes 16 (b.1 ^^^ aesBig key (j + 2 + b.2))))

/-- The 48 bytes of key material in a 164-byte key block for the module with this private identity key and serial, byte 0 in bits 7:0; none
where it fails to unwrap (R476). The zero bytes are checked, and the serial's bytes are taken low byte first (DESIGN CHOICE, log entry 51). -/
def unwrapBlock (d : Nat) (serial : BitVec 128) (block : List Byte) : Option (BitVec 384) :=
  let x := bigEndian ((block.drop 1).take 48)
  let y := bigEndian ((block.drop 49).take 48)
  if block.length = 164 ∧ block.head? = some 4 ∧ (block.drop 97).take 3 = [0, 0, 0] ∧ onCurve x y = true then
    match ecdh d x y with
    | none => none
    | some z =>
      let k := hkdf44 z ([0x59, 0x58, 0x4B, 0x57] ++ toBytes 8 serial.toNat)
      let r := gcm48 (k.take 32) (k.drop 32) ((block.drop 100).take 48)
      if r.1 = bigEndian (block.drop 148) then some (BitVec.ofNat 384 (ofBytes r.2)) else none
  else none

/-- The same under the module identity key. -/
def unwrapKey (serial : BitVec 128) (block : List Byte) : Option (BitVec 384) := unwrapBlock Config.identityKey serial block

end Sys2Proof.Machine
end

