-- ==== Sys2Proof/Machine/RegMap.lean ====
section
/-!
DEFINITION. The BAR0 register map: one offset function per register (R538, R540), one constant per field, and for every offset
what its fields are at reset and how software reaches them (R12), as the field tables of the spec give them.
-/
namespace Sys2Proof.Machine

/-! ### GLB -/

/-- `GLB.ID` (R541). -/
def GLB_ID : Nat := 0x0
def GLB_ID_VENDOR : Fld := ⟨48, 16⟩
def GLB_ID_DEVICE : Fld := ⟨32, 16⟩
def GLB_ID_STEPPING : Fld := ⟨24, 8⟩
def GLB_ID_info : RegInfo := { reset := 0x1F8C000000000000 }

/-- `GLB.FEATURE` (R541). -/
def GLB_FEATURE : Nat := 0x8
def GLB_FEATURE_MAP_VERSION : Fld := ⟨56, 8⟩
def GLB_FEATURE_LANES : Fld := ⟨48, 8⟩
def GLB_FEATURE_ENGINES : Fld := ⟨40, 8⟩
def GLB_FEATURE_CONTROLLERS : Fld := ⟨32, 8⟩
def GLB_FEATURE_GIO : Fld := ⟨24, 8⟩
def GLB_FEATURE_CONTEXTS : Fld := ⟨16, 8⟩
def GLB_FEATURE_CAP_QUEUES : Fld := ⟨0, 16⟩
def GLB_FEATURE_info : RegInfo := { reset := 0x130182040080100 }

/-- `GLB.CAPACITY` (R541). -/
def GLB_CAPACITY : Nat := 0x10
def GLB_CAPACITY_RAW_GIB : Fld := ⟨48, 16⟩
def GLB_CAPACITY_OASIS_MIB : Fld := ⟨32, 16⟩
def GLB_CAPACITY_USABLE_MIB : Fld := ⟨0, 32⟩
def GLB_CAPACITY_info : RegInfo := { reset := 0x80000000000 }

/-- `GLB.STATUS` (R541). -/
def GLB_STATUS : Nat := 0x18
def GLB_STATUS_PWR_STATE : Fld := ⟨13, 3⟩
def GLB_STATUS_QIF_STATE : Fld := ⟨10, 3⟩
def GLB_STATUS_LEADER : Fld := ⟨9, 1⟩
def GLB_STATUS_DEGRADED : Fld := ⟨8, 1⟩
def GLB_STATUS_DRAM_FAILED : Fld := ⟨7, 1⟩
def GLB_STATUS_HOLDOVER : Fld := ⟨6, 1⟩
def GLB_STATUS_BRIDGED : Fld := ⟨5, 1⟩
def GLB_STATUS_ATTEST_FAIL : Fld := ⟨4, 1⟩
def GLB_STATUS_ROOT_LOCKED : Fld := ⟨3, 1⟩
def GLB_STATUS_FAULT : Fld := ⟨2, 1⟩
def GLB_STATUS_CFG_ERR : Fld := ⟨1, 1⟩
def GLB_STATUS_CFG_DONE : Fld := ⟨0, 1⟩
def GLB_STATUS_info : RegInfo := { }

/-- `GLB.SCRATCH` (R541). -/
def GLB_SCRATCH : Nat := 0x20
def GLB_SCRATCH_VALUE : Fld := ⟨0, 64⟩
def GLB_SCRATCH_info : RegInfo := { rws := 0xFFFFFFFFFFFFFFFF }

/-! ### CLK -/

/-- `CLK.STATUS` (R507). -/
def CLK_STATUS : Nat := 0x10000
def CLK_STATUS_IOSC_FAIL : Fld := ⟨10, 1⟩
def CLK_STATUS_XTAL_LOST : Fld := ⟨9, 1⟩
def CLK_STATUS_REFIN_LOST : Fld := ⟨8, 1⟩
def CLK_STATUS_IOSC_READY : Fld := ⟨4, 1⟩
def CLK_STATUS_XTAL_OK : Fld := ⟨3, 1⟩
def CLK_STATUS_MGMT_SRC : Fld := ⟨2, 1⟩
def CLK_STATUS_ROOT : Fld := ⟨0, 2⟩
def CLK_STATUS_info : RegInfo := { w1c := 0x700 }

/-- `CLK.GATE_SEL` (R507). -/
def CLK_GATE_SEL : Nat := 0x10008
def CLK_GATE_SEL_NODE : Fld := ⟨0, 10⟩
def CLK_GATE_SEL_info : RegInfo := { rw := 0x3FF }

/-- `CLK.GATE` (R507). -/
def CLK_GATE : Nat := 0x10010
def CLK_GATE_REASON : Fld := ⟨12, 2⟩
def CLK_GATE_REFUSED : Fld := ⟨8, 1⟩
def CLK_GATE_EN : Fld := ⟨0, 1⟩
def CLK_GATE_info : RegInfo := { reset := 0x1, rw := 0x1, w1c := 0x100 }

/-- `CLK.FMETER_CTL` (R507). -/
def CLK_FMETER_CTL : Nat := 0x10018
def CLK_FMETER_CTL_LANE : Fld := ⟨24, 6⟩
def CLK_FMETER_CTL_LOG2 : Fld := ⟨16, 5⟩
def CLK_FMETER_CTL_MEAS : Fld := ⟨8, 4⟩
def CLK_FMETER_CTL_REF : Fld := ⟨4, 4⟩
def CLK_FMETER_CTL_GO : Fld := ⟨0, 1⟩
def CLK_FMETER_CTL_info : RegInfo := { reset := 0x140010, rw := 0x3F1F0FF0, wo := 0x1 }

/-- `CLK.FMETER_RES` (R507). -/
def CLK_FMETER_RES : Nat := 0x10020
def CLK_FMETER_RES_VALID : Fld := ⟨63, 1⟩
def CLK_FMETER_RES_ABORTED : Fld := ⟨62, 1⟩
def CLK_FMETER_RES_BUSY : Fld := ⟨61, 1⟩
def CLK_FMETER_RES_COUNT : Fld := ⟨0, 48⟩
def CLK_FMETER_RES_info : RegInfo := { }

/-! ### PWR -/

/-- `PWR.CTL` (R508). -/
def PWR_CTL : Nat := 0x20000
def PWR_CTL_KEEP_MEM : Fld := ⟨8, 1⟩
def PWR_CTL_REQ : Fld := ⟨0, 2⟩
def PWR_CTL_info : RegInfo := { wo := 0x3, rws := 0x100 }

/-- `PWR.STATUS` (R508). -/
def PWR_STATUS : Nat := 0x20008
def PWR_STATUS_REASON : Fld := ⟨12, 4⟩
def PWR_STATUS_REFUSED : Fld := ⟨11, 1⟩
def PWR_STATUS_CUT_SHORT : Fld := ⟨10, 1⟩
def PWR_STATUS_ABANDONED : Fld := ⟨9, 1⟩
def PWR_STATUS_LAST : Fld := ⟨4, 3⟩
def PWR_STATUS_STATE : Fld := ⟨0, 3⟩
def PWR_STATUS_info : RegInfo := { w1c := 0xE00 }

/-- `PWR.WAKE_EN` (R508). -/
def PWR_WAKE_EN : Nat := 0x20010
def PWR_WAKE_EN_SIGDET : Fld := ⟨6, 1⟩
def PWR_WAKE_EN_SYNC : Fld := ⟨5, 1⟩
def PWR_WAKE_EN_EJECT : Fld := ⟨4, 1⟩
def PWR_WAKE_EN_TIMER : Fld := ⟨3, 1⟩
def PWR_WAKE_EN_GIO : Fld := ⟨2, 1⟩
def PWR_WAKE_EN_DAWN : Fld := ⟨1, 1⟩
def PWR_WAKE_EN_HOST : Fld := ⟨0, 1⟩
def PWR_WAKE_EN_info : RegInfo := { reset := 0x11, rws := 0x6E }

/-- `PWR.WAKE_CAUSE` (R508). -/
def PWR_WAKE_CAUSE : Nat := 0x20018
def PWR_WAKE_CAUSE_SOURCES : Fld := ⟨0, 7⟩
def PWR_WAKE_CAUSE_info : RegInfo := { w1c := 0x7F }

/-- `PWR.WAKE_TIME` (R508). -/
def PWR_WAKE_TIME : Nat := 0x20020
def PWR_WAKE_TIME_COUNT : Fld := ⟨0, 64⟩
def PWR_WAKE_TIME_info : RegInfo := { rws := 0xFFFFFFFFFFFFFFFF }

/-- `PWR.AON_COUNT` (R508). -/
def PWR_AON_COUNT : Nat := 0x20028
def PWR_AON_COUNT_COUNT : Fld := ⟨0, 64⟩
def PWR_AON_COUNT_info : RegInfo := { }

/-- `PWR.DOM_SEL` (R508). -/
def PWR_DOM_SEL : Nat := 0x20030
def PWR_DOM_SEL_DOMAIN : Fld := ⟨0, 11⟩
def PWR_DOM_SEL_info : RegInfo := { rw := 0x7FF }

/-- `PWR.DOM_CTL` (R508). -/
def PWR_DOM_CTL : Nat := 0x20038
def PWR_DOM_CTL_STATE : Fld := ⟨4, 3⟩
def PWR_DOM_CTL_WOA : Fld := ⟨1, 1⟩
def PWR_DOM_CTL_ON : Fld := ⟨0, 1⟩
def PWR_DOM_CTL_info : RegInfo := { reset := 0x3, rw := 0x3 }

/-! ### RST -/

/-- `RST.CTL` (R509). -/
def RST_CTL : Nat := 0x30000
def RST_CTL_WARM : Fld := ⟨0, 1⟩
def RST_CTL_info : RegInfo := { wo := 0x1 }

/-- `RST.DOM` (R509). -/
def RST_DOM : Nat := 0x30008
def RST_DOM_GO : Fld := ⟨16, 1⟩
def RST_DOM_DOMAIN : Fld := ⟨0, 11⟩
def RST_DOM_info : RegInfo := { rw := 0x7FF, wo := 0x10000 }

/-- `RST.STATUS` (R509). -/
def RST_STATUS : Nat := 0x30010
def RST_STATUS_REASON : Fld := ⟨8, 4⟩
def RST_STATUS_REFUSED : Fld := ⟨1, 1⟩
def RST_STATUS_BUSY : Fld := ⟨0, 1⟩
def RST_STATUS_info : RegInfo := { w1c := 0x2 }

/-- `RST.CAUSE` (R509). -/
def RST_CAUSE : Nat := 0x30018
def RST_CAUSE_THERMAL : Fld := ⟨5, 1⟩
def RST_CAUSE_CLOCK : Fld := ⟨4, 1⟩
def RST_CAUSE_FLR : Fld := ⟨3, 1⟩
def RST_CAUSE_WARM : Fld := ⟨2, 1⟩
def RST_CAUSE_PERST : Fld := ⟨1, 1⟩
def RST_CAUSE_POWER_ON : Fld := ⟨0, 1⟩
def RST_CAUSE_info : RegInfo := { reset := 0x1, w1c := 0x3F }

/-! ### SEC -/

/-- `SEC.STATUS` (R481). -/
def SEC_STATUS : Nat := 0x40000
def SEC_STATUS_ATTEST : Fld := ⟨8, 8⟩
def SEC_STATUS_OWNER_ONLY : Fld := ⟨4, 1⟩
def SEC_STATUS_OWNED : Fld := ⟨3, 1⟩
def SEC_STATUS_HOST_DBG : Fld := ⟨2, 1⟩
def SEC_STATUS_JTAG_DBG : Fld := ⟨1, 1⟩
def SEC_STATUS_ATTEST_DONE : Fld := ⟨0, 1⟩
def SEC_STATUS_info : RegInfo := { }

/-- `SEC.SERIAL_LO` (R481). -/
def SEC_SERIAL_LO : Nat := 0x40008
def SEC_SERIAL_LO_SERIAL : Fld := ⟨0, 64⟩
def SEC_SERIAL_LO_info : RegInfo := { }

/-- `SEC.SERIAL_HI` (R481). -/
def SEC_SERIAL_HI : Nat := 0x40010
def SEC_SERIAL_HI_SERIAL : Fld := ⟨0, 64⟩
def SEC_SERIAL_HI_info : RegInfo := { }

/-- `SEC.DEBUG` (R481). -/
def SEC_DEBUG : Nat := 0x40018
def SEC_DEBUG_REMAIN : Fld := ⟨0, 32⟩
def SEC_DEBUG_info : RegInfo := { }

/-- `SEC.SLOT` (R481). -/
def SEC_SLOT (k : Nat) : Nat := 0x40100 + 0x8 * k
def SEC_SLOT_STATE : Fld := ⟨62, 2⟩
def SEC_SLOT_LAST : Fld := ⟨0, 32⟩
def SEC_SLOT_info : RegInfo := { }

/-! ### SUP -/

/-- `SUP.STATUS` (R535). -/
def SUP_STATUS : Nat := 0x50000
def SUP_STATUS_TAKEOVERS : Fld := ⟨32, 32⟩
def SUP_STATUS_LEADER : Fld := ⟨8, 1⟩
def SUP_STATUS_SVB : Fld := ⟨4, 4⟩
def SUP_STATUS_SVA : Fld := ⟨0, 4⟩
def SUP_STATUS_info : RegInfo := { }

/-- `SUP.RECOVERY` (R535). -/
def SUP_RECOVERY : Nat := 0x50008
def SUP_RECOVERY_GEN : Fld := ⟨32, 32⟩
def SUP_RECOVERY_PENDING : Fld := ⟨20, 4⟩
def SUP_RECOVERY_STEP : Fld := ⟨8, 8⟩
def SUP_RECOVERY_KIND : Fld := ⟨0, 4⟩
def SUP_RECOVERY_info : RegInfo := { }

/-- `SUP.RECOVERY_TARGET` (R535). -/
def SUP_RECOVERY_TARGET : Nat := 0x50010
def SUP_RECOVERY_TARGET_TARGET : Fld := ⟨0, 64⟩
def SUP_RECOVERY_TARGET_info : RegInfo := { }

/-- `SUP.WDOG` (R535). -/
def SUP_WDOG (c : Nat) : Nat := 0x50020 + 0x8 * c
def SUP_WDOG_EXPIRIES : Fld := ⟨48, 16⟩
def SUP_WDOG_FROZEN : Fld := ⟨24, 1⟩
def SUP_WDOG_REMAIN : Fld := ⟨0, 24⟩
def SUP_WDOG_info : RegInfo := { rcl := 0xFFFF000000000000 }

/-! ### DBG -/

/-- `DBG.PEEK` (R536). -/
def DBG_PEEK : Nat := 0x60000
def DBG_PEEK_PEEK : Fld := ⟨0, 1⟩
def DBG_PEEK_info : RegInfo := { rw := 0x1 }

/-- `DBG.ATTACH` (R536). -/
def DBG_ATTACH : Nat := 0x60008
def DBG_ATTACH_REFUSED : Fld := ⟨8, 1⟩
def DBG_ATTACH_EMULATED : Fld := ⟨3, 1⟩
def DBG_ATTACH_EMU_SLEEP : Fld := ⟨2, 1⟩
def DBG_ATTACH_HOST : Fld := ⟨1, 1⟩
def DBG_ATTACH_JTAG : Fld := ⟨0, 1⟩
def DBG_ATTACH_info : RegInfo := { reset := 0x4, rw := 0x6, w1c := 0x100 }

/-- `DBG.CORE.CTL` (R537). -/
def DBG_CORE_CTL (c : Nat) : Nat := 0x60100 + 0x200 * c
def DBG_CORE_CTL_STEP : Fld := ⟨2, 1⟩
def DBG_CORE_CTL_RESUME : Fld := ⟨1, 1⟩
def DBG_CORE_CTL_HALT : Fld := ⟨0, 1⟩
def DBG_CORE_CTL_info : RegInfo := { wo := 0x7 }

/-- `DBG.CORE.STATUS` (R537). -/
def DBG_CORE_STATUS (c : Nat) : Nat := 0x60108 + 0x200 * c
def DBG_CORE_STATUS_PC : Fld := ⟨32, 32⟩
def DBG_CORE_STATUS_CMP : Fld := ⟨8, 3⟩
def DBG_CORE_STATUS_CAUSE : Fld := ⟨6, 2⟩
def DBG_CORE_STATUS_ACC_ERR : Fld := ⟨5, 1⟩
def DBG_CORE_STATUS_DIR_FAULT : Fld := ⟨4, 1⟩
def DBG_CORE_STATUS_DIR_BUSY : Fld := ⟨3, 1⟩
def DBG_CORE_STATUS_LOCK_BROKEN : Fld := ⟨2, 1⟩
def DBG_CORE_STATUS_LOCK_WAIT : Fld := ⟨1, 1⟩
def DBG_CORE_STATUS_HALTED : Fld := ⟨0, 1⟩
def DBG_CORE_STATUS_info : RegInfo := { w1c := 0x34 }

/-- `DBG.CORE.DIR` (R537). -/
def DBG_CORE_DIR (c : Nat) : Nat := 0x60110 + 0x200 * c
def DBG_CORE_DIR_INSTR : Fld := ⟨0, 32⟩
def DBG_CORE_DIR_info : RegInfo := { wo := 0xFFFFFFFF }

/-- `DBG.CORE.DDATA` (R537). -/
def DBG_CORE_DDATA (c : Nat) : Nat := 0x60118 + 0x200 * c
def DBG_CORE_DDATA_DATA : Fld := ⟨0, 32⟩
def DBG_CORE_DDATA_info : RegInfo := { rw := 0xFFFFFFFF }

/-- `DBG.CORE.ACC_ADDR` (R537). -/
def DBG_CORE_ACC_ADDR (c : Nat) : Nat := 0x60120 + 0x200 * c
def DBG_CORE_ACC_ADDR_SPACE : Fld := ⟨62, 2⟩
def DBG_CORE_ACC_ADDR_ADDR : Fld := ⟨0, 48⟩
def DBG_CORE_ACC_ADDR_info : RegInfo := { rw := 0xC000FFFFFFFFFFFF }

/-- `DBG.CORE.ACC_DATA` (R537). -/
def DBG_CORE_ACC_DATA (c : Nat) : Nat := 0x60128 + 0x200 * c
def DBG_CORE_ACC_DATA_DATA : Fld := ⟨0, 64⟩
def DBG_CORE_ACC_DATA_info : RegInfo := { rw := 0xFFFFFFFFFFFFFFFF }

/-- `DBG.CORE.VT_TO` (R537). -/
def DBG_CORE_VT_TO (c : Nat) : Nat := 0x60180 + 0x200 * c
def DBG_CORE_VT_TO_WORD : Fld := ⟨0, 32⟩
def DBG_CORE_VT_TO_info : RegInfo := { wo := 0xFFFFFFFF }

/-- `DBG.CORE.VT_FROM` (R537). -/
def DBG_CORE_VT_FROM (c : Nat) : Nat := 0x60188 + 0x200 * c
def DBG_CORE_VT_FROM_WORD : Fld := ⟨0, 32⟩
def DBG_CORE_VT_FROM_info : RegInfo := { }

/-- `DBG.CORE.VT_STATUS` (R537). -/
def DBG_CORE_VT_STATUS (c : Nat) : Nat := 0x60190 + 0x200 * c
def DBG_CORE_VT_STATUS_EVT : Fld := ⟨3, 1⟩
def DBG_CORE_VT_STATUS_OVERRUN : Fld := ⟨2, 1⟩
def DBG_CORE_VT_STATUS_FROM_FULL : Fld := ⟨1, 1⟩
def DBG_CORE_VT_STATUS_TO_FULL : Fld := ⟨0, 1⟩
def DBG_CORE_VT_STATUS_info : RegInfo := { rw := 0x8, w1c := 0x4 }

/-- `DBG.CORE.CMP` (R537). -/
def DBG_CORE_CMP (c : Nat) (k : Nat) : Nat := 0x60140 + 0x200 * c + 0x8 * k
def DBG_CORE_CMP_EN : Fld := ⟨63, 1⟩
def DBG_CORE_CMP_ACTION : Fld := ⟨61, 2⟩
def DBG_CORE_CMP_KIND : Fld := ⟨59, 2⟩
def DBG_CORE_CMP_IGNORE : Fld := ⟨32, 5⟩
def DBG_CORE_CMP_ADDR : Fld := ⟨0, 32⟩
def DBG_CORE_CMP_info : RegInfo := { rw := 0xF800001FFFFFFFFF }

/-- `DBG.CORE.PATCH` (R537). -/
def DBG_CORE_PATCH (c : Nat) (u : Nat) : Nat := 0x60200 + 0x200 * c + 0x8 * u
def DBG_CORE_PATCH_VALID : Fld := ⟨63, 1⟩
def DBG_CORE_PATCH_RAM_WORD : Fld := ⟨32, 12⟩
def DBG_CORE_PATCH_ROM_ADDR : Fld := ⟨0, 32⟩
def DBG_CORE_PATCH_info : RegInfo := { }

/-! ### QIF -/

/-- `QIF.JOURNAL` (R413). -/
def QIF_JOURNAL : Nat := 0x80000
def QIF_JOURNAL_PAGE : Fld := ⟨12, 52⟩
def QIF_JOURNAL_VALID : Fld := ⟨0, 1⟩
def QIF_JOURNAL_info : RegInfo := { rws := 0xFFFFFFFFFFFFF001 }

/-- `QIF.STATUS` (R413). -/
def QIF_STATUS : Nat := 0x80008
def QIF_STATUS_REASON : Fld := ⟨12, 4⟩
def QIF_STATUS_DB_ERR : Fld := ⟨9, 1⟩
def QIF_STATUS_REFUSED : Fld := ⟨8, 1⟩
def QIF_STATUS_STATE : Fld := ⟨0, 3⟩
def QIF_STATUS_info : RegInfo := { w1c := 0x300 }

/-- `QIF.BAR4_WIN` (R413). -/
def QIF_BAR4_WIN : Nat := 0x80010
def QIF_BAR4_WIN_SPACE : Fld := ⟨63, 1⟩
def QIF_BAR4_WIN_BASE : Fld := ⟨30, 11⟩
def QIF_BAR4_WIN_info : RegInfo := { rw := 0x800001FFC0000000 }

/-- `QIF.BAR4_ERR` (R413). -/
def QIF_BAR4_ERR : Nat := 0x80018
def QIF_BAR4_ERR_VALID : Fld := ⟨63, 1⟩
def QIF_BAR4_ERR_WRITE : Fld := ⟨62, 1⟩
def QIF_BAR4_ERR_STATUS : Fld := ⟨52, 4⟩
def QIF_BAR4_ERR_OFFSET : Fld := ⟨0, 41⟩
def QIF_BAR4_ERR_info : RegInfo := { w1c := 0x8000000000000000 }

/-- `QIF.RING.CB` (R414). -/
def QIF_RING_CB (r : Nat) : Nat := 0x81000 + 0x10 * r
def QIF_RING_CB_ADDR : Fld := ⟨7, 57⟩
def QIF_RING_CB_EN : Fld := ⟨0, 1⟩
def QIF_RING_CB_info : RegInfo := { rws := 0xFFFFFFFFFFFFFF81 }

/-- `QIF.RING.STATUS` (R414). -/
def QIF_RING_STATUS (r : Nat) : Nat := 0x81008 + 0x10 * r
def QIF_RING_STATUS_INFLIGHT : Fld := ⟨32, 32⟩
def QIF_RING_STATUS_REASON : Fld := ⟨8, 4⟩
def QIF_RING_STATUS_STATE : Fld := ⟨0, 3⟩
def QIF_RING_STATUS_info : RegInfo := { }

/-! ### SCH -/

/-- `SCH.STORE` (R438). -/
def SCH_STORE : Nat := 0xC0000
def SCH_STORE_LAYER : Fld := ⟨6, 1⟩
def SCH_STORE_GROUP : Fld := ⟨0, 6⟩
def SCH_STORE_info : RegInfo := { reset := 0x7F, rw := 0x7F }

/-- `SCH.SPILL` (R438). -/
def SCH_SPILL : Nat := 0xC0008
def SCH_SPILL_VALID : Fld := ⟨63, 1⟩
def SCH_SPILL_BASE : Fld := ⟨0, 21⟩
def SCH_SPILL_info : RegInfo := { rw := 0x80000000001FFFFF }

/-- `SCH.STATUS` (R438). -/
def SCH_STATUS : Nat := 0xC0010
def SCH_STATUS_TAGS : Fld := ⟨34, 18⟩
def SCH_STATUS_C0_TAGS : Fld := ⟨21, 13⟩
def SCH_STATUS_REASON : Fld := ⟨8, 4⟩
def SCH_STATUS_REFUSED : Fld := ⟨0, 1⟩
def SCH_STATUS_info : RegInfo := { w1c := 0x1 }

/-- `SCH.RECON` (R438). -/
def SCH_RECON : Nat := 0xC0018
def SCH_RECON_GEN : Fld := ⟨32, 32⟩
def SCH_RECON_STEP : Fld := ⟨16, 4⟩
def SCH_RECON_HANDED : Fld := ⟨1, 1⟩
def SCH_RECON_RETAINED : Fld := ⟨0, 1⟩
def SCH_RECON_info : RegInfo := { }

/-- `SCH.CNT_ACCEPT` (R438). -/
def SCH_CNT_ACCEPT : Nat := 0xC0020
def SCH_CNT_ACCEPT_ITEMS : Fld := ⟨0, 64⟩
def SCH_CNT_ACCEPT_info : RegInfo := { }

/-- `SCH.CNT_SPILL` (R438). -/
def SCH_CNT_SPILL : Nat := 0xC0028
def SCH_CNT_SPILL_SPILLED : Fld := ⟨32, 32⟩
def SCH_CNT_SPILL_REFETCHED : Fld := ⟨0, 32⟩
def SCH_CNT_SPILL_info : RegInfo := { rcl := 0xFFFFFFFFFFFFFFFF }

/-- `SCH.FLOW_SEL` (R438). -/
def SCH_FLOW_SEL : Nat := 0xC0030
def SCH_FLOW_SEL_FLOW : Fld := ⟨0, 16⟩
def SCH_FLOW_SEL_info : RegInfo := { rw := 0xFFFF }

/-- `SCH.FLOW_DATA` (R438). -/
def SCH_FLOW_DATA : Nat := 0xC0038
def SCH_FLOW_DATA_NEXT_SEQ : Fld := ⟨32, 32⟩
def SCH_FLOW_DATA_RELEASE_SEQ : Fld := ⟨0, 32⟩
def SCH_FLOW_DATA_info : RegInfo := { }

/-- `SCH.TP` (R439). -/
def SCH_TP (i : Nat) : Nat := 0xC1000 + 0x8 * i
def SCH_TP_STRAY : Fld := ⟨48, 16⟩
def SCH_TP_TASKNO : Fld := ⟨32, 16⟩
def SCH_TP_PENDING : Fld := ⟨7, 1⟩
def SCH_TP_CH : Fld := ⟨0, 6⟩
def SCH_TP_info : RegInfo := { rw := 0x3F, rcl := 0xFFFF000000000000 }

/-- `SCH.PLY.CFG` (R206). -/
def SCH_PLY_CFG (p : Nat) : Nat := 0xE0000 + 0x100 * p
def SCH_PLY_CFG_JWIN : Fld := ⟨40, 8⟩
def SCH_PLY_CFG_GAP_TAG : Fld := ⟨36, 2⟩
def SCH_PLY_CFG_PRIME : Fld := ⟨26, 5⟩
def SCH_PLY_CFG_UNDER : Fld := ⟨24, 2⟩
def SCH_PLY_CFG_BETWEEN : Fld := ⟨23, 1⟩
def SCH_PLY_CFG_OUT : Fld := ⟨22, 1⟩
def SCH_PLY_CFG_EN : Fld := ⟨0, 1⟩
def SCH_PLY_CFG_info : RegInfo := { reset := 0x100040000000, rw := 0xFF307FC00001 }

/-- `SCH.PLY.FEED` (R206). -/
def SCH_PLY_FEED (p : Nat) : Nat := 0xE0008 + 0x100 * p
def SCH_PLY_FEED_WIDTH : Fld := ⟨14, 2⟩
def SCH_PLY_FEED_BOUND : Fld := ⟨13, 1⟩
def SCH_PLY_FEED_LAYER : Fld := ⟨12, 1⟩
def SCH_PLY_FEED_CH : Fld := ⟨6, 6⟩
def SCH_PLY_FEED_GROUP : Fld := ⟨0, 6⟩
def SCH_PLY_FEED_info : RegInfo := { reset := 0xC000, rw := 0xFFFF }

/-- `SCH.PLY.FABRIC` (R206). -/
def SCH_PLY_FABRIC (p : Nat) : Nat := 0xE0010 + 0x100 * p
def SCH_PLY_FABRIC_BOUND : Fld := ⟨13, 1⟩
def SCH_PLY_FABRIC_TOP : Fld := ⟨12, 1⟩
def SCH_PLY_FABRIC_CH : Fld := ⟨6, 6⟩
def SCH_PLY_FABRIC_WELL : Fld := ⟨0, 6⟩
def SCH_PLY_FABRIC_info : RegInfo := { rw := 0x3FFF }

/-- `SCH.PLY.STATUS` (R207). -/
def SCH_PLY_STATUS (p : Nat) : Nat := 0xE0018 + 0x100 * p
def SCH_PLY_STATUS_TAG : Fld := ⟨40, 17⟩
def SCH_PLY_STATUS_LATE : Fld := ⟨15, 1⟩
def SCH_PLY_STATUS_UNDERRUN : Fld := ⟨14, 1⟩
def SCH_PLY_STATUS_CFG_REFUSED : Fld := ⟨13, 1⟩
def SCH_PLY_STATUS_REASON : Fld := ⟨8, 4⟩
def SCH_PLY_STATUS_STATE : Fld := ⟨0, 3⟩
def SCH_PLY_STATUS_info : RegInfo := { w1c := 0xE000 }

/-- `SCH.PLY.GAP_WORD` (R206). -/
def SCH_PLY_GAP_WORD (p : Nat) : Nat := 0xE0020 + 0x100 * p
def SCH_PLY_GAP_WORD_GRAIN : Fld := ⟨0, 64⟩
def SCH_PLY_GAP_WORD_info : RegInfo := { rw := 0xFFFFFFFFFFFFFFFF }

/-- `SCH.PLY.FRAMES` (R207). -/
def SCH_PLY_FRAMES (p : Nat) : Nat := 0xE0028 + 0x100 * p
def SCH_PLY_FRAMES_SENT : Fld := ⟨0, 64⟩
def SCH_PLY_FRAMES_info : RegInfo := { }

/-- `SCH.PLY.CNT_UNDER` (R207). -/
def SCH_PLY_CNT_UNDER (p : Nat) : Nat := 0xE0030 + 0x100 * p
def SCH_PLY_CNT_UNDER_JSTALL : Fld := ⟨48, 16⟩
def SCH_PLY_CNT_UNDER_CUT : Fld := ⟨32, 16⟩
def SCH_PLY_CNT_UNDER_FILL : Fld := ⟨0, 32⟩
def SCH_PLY_CNT_UNDER_info : RegInfo := { rcl := 0xFFFFFFFFFFFFFFFF }

/-- `SCH.PLY.START_ACT` (R207). -/
def SCH_PLY_START_ACT (p : Nat) : Nat := 0xE0038 + 0x100 * p
def SCH_PLY_START_ACT_STAMP : Fld := ⟨0, 64⟩
def SCH_PLY_START_ACT_info : RegInfo := { }

/-- `SCH.SGL.CFG` (R208). -/
def SCH_SGL_CFG (l : Nat) : Nat := 0xE4000 + 0x40 * l
def SCH_SGL_CFG_EN : Fld := ⟨16, 1⟩
def SCH_SGL_CFG_TICK : Fld := ⟨0, 14⟩
def SCH_SGL_CFG_info : RegInfo := { reset := 0x1, rw := 0x13FFF }

/-- `SCH.SGL.STATUS` (R208). -/
def SCH_SGL_STATUS (l : Nat) : Nat := 0xE4008 + 0x40 * l
def SCH_SGL_STATUS_RELEASED : Fld := ⟨32, 32⟩
def SCH_SGL_STATUS_LATE : Fld := ⟨16, 16⟩
def SCH_SGL_STATUS_HELD : Fld := ⟨0, 13⟩
def SCH_SGL_STATUS_info : RegInfo := { }

/-! ### RING -/

/-- `RING.CTL` (R384). -/
def RING_CTL : Nat := 0x100000
def RING_CTL_WAKE_TMO : Fld := ⟨20, 16⟩
def RING_CTL_RSV_DEPTH : Fld := ⟨16, 4⟩
def RING_CTL_W3 : Fld := ⟨8, 4⟩
def RING_CTL_W2 : Fld := ⟨4, 4⟩
def RING_CTL_W1 : Fld := ⟨0, 4⟩
def RING_CTL_info : RegInfo := { reset := 0x3E840124, rw := 0xFFFFF0FFF }

/-- `RING.TBL_CTL` (R384). -/
def RING_TBL_CTL : Nat := 0x100008
def RING_TBL_CTL_REFUSED : Fld := ⟨3, 1⟩
def RING_TBL_CTL_DRAINING : Fld := ⟨2, 1⟩
def RING_TBL_CTL_ACTIVE : Fld := ⟨1, 1⟩
def RING_TBL_CTL_SWITCH : Fld := ⟨0, 1⟩
def RING_TBL_CTL_info : RegInfo := { w1c := 0x8, wo := 0x1 }

/-- `RING.TBL_SEL` (R384). -/
def RING_TBL_SEL : Nat := 0x100010
def RING_TBL_SEL_BANK : Fld := ⟨10, 1⟩
def RING_TBL_SEL_PAIR : Fld := ⟨8, 2⟩
def RING_TBL_SEL_DEST : Fld := ⟨0, 8⟩
def RING_TBL_SEL_info : RegInfo := { rw := 0x7FF }

/-- `RING.TBL_DATA` (R384). -/
def RING_TBL_DATA : Nat := 0x100018
def RING_TBL_DATA_VALID : Fld := ⟨4, 1⟩
def RING_TBL_DATA_RISER : Fld := ⟨0, 4⟩
def RING_TBL_DATA_info : RegInfo := { rw := 0x1F }

/-- `RING.ERR` (R384). -/
def RING_ERR : Nat := 0x100200
def RING_ERR_MISROUTED : Fld := ⟨32, 32⟩
def RING_ERR_VALID : Fld := ⟨16, 1⟩
def RING_ERR_SRC : Fld := ⟨0, 10⟩
def RING_ERR_info : RegInfo := { w1c := 0x10000, rcl := 0xFFFFFFFF00000000 }

/-- `RING.STAT.FLITS` (R384). -/
def RING_STAT_FLITS (r : Nat) : Nat := 0x100100 + 0x20 * r
def RING_STAT_FLITS_FLITS : Fld := ⟨0, 64⟩
def RING_STAT_FLITS_info : RegInfo := { }

/-- `RING.STAT.C0_FLITS` (R384). -/
def RING_STAT_C0_FLITS (r : Nat) : Nat := 0x100108 + 0x20 * r
def RING_STAT_C0_FLITS_C0_FLITS : Fld := ⟨0, 64⟩
def RING_STAT_C0_FLITS_info : RegInfo := { }

/-- `RING.STAT.C0_MAXWAIT` (R384). -/
def RING_STAT_C0_MAXWAIT (r : Nat) : Nat := 0x100110 + 0x20 * r
def RING_STAT_C0_MAXWAIT_C0_MAXWAIT : Fld := ⟨0, 8⟩
def RING_STAT_C0_MAXWAIT_info : RegInfo := { rcl := 0xFF }

/-- `RING.STAT.CIRCLED` (R384). -/
def RING_STAT_CIRCLED (r : Nat) : Nat := 0x100118 + 0x20 * r
def RING_STAT_CIRCLED_CIRCLED : Fld := ⟨0, 64⟩
def RING_STAT_CIRCLED_info : RegInfo := { rcl := 0xFFFFFFFFFFFFFFFF }

/-! ### PRB -/

/-- `PRB.P.CFG` (R385). -/
def PRB_P_CFG (k : Nat) : Nat := 0x140000 + 0x40 * k
def PRB_P_CFG_ARANGE : Fld := ⟨13, 1⟩
def PRB_P_CFG_TRACE : Fld := ⟨12, 1⟩
def PRB_P_CFG_POINT : Fld := ⟨10, 2⟩
def PRB_P_CFG_PAIR : Fld := ⟨8, 2⟩
def PRB_P_CFG_ODD : Fld := ⟨7, 1⟩
def PRB_P_CFG_STOP : Fld := ⟨1, 6⟩
def PRB_P_CFG_EN : Fld := ⟨0, 1⟩
def PRB_P_CFG_info : RegInfo := { rw := 0x3FFF }

/-- `PRB.P.MATCH` (R385). -/
def PRB_P_MATCH (k : Nat) : Nat := 0x140008 + 0x40 * k
def PRB_P_MATCH_MATCH : Fld := ⟨0, 64⟩
def PRB_P_MATCH_info : RegInfo := { rw := 0xFFFFFFFFFFFFFFFF }

/-- `PRB.P.MASK` (R385). -/
def PRB_P_MASK (k : Nat) : Nat := 0x140010 + 0x40 * k
def PRB_P_MASK_MASK : Fld := ⟨0, 64⟩
def PRB_P_MASK_info : RegInfo := { rw := 0xFFFFFFFFFFFFFFFF }

/-- `PRB.P.ADDR_LO` (R385). -/
def PRB_P_ADDR_LO (k : Nat) : Nat := 0x140018 + 0x40 * k
def PRB_P_ADDR_LO_ADDR : Fld := ⟨0, 48⟩
def PRB_P_ADDR_LO_info : RegInfo := { rw := 0xFFFFFFFFFFFF }

/-- `PRB.P.ADDR_HI` (R385). -/
def PRB_P_ADDR_HI (k : Nat) : Nat := 0x140020 + 0x40 * k
def PRB_P_ADDR_HI_ADDR : Fld := ⟨0, 48⟩
def PRB_P_ADDR_HI_info : RegInfo := { rw := 0xFFFFFFFFFFFF }

/-- `PRB.P.CNT_PKT` (R385). -/
def PRB_P_CNT_PKT (k : Nat) : Nat := 0x140028 + 0x40 * k
def PRB_P_CNT_PKT_COUNT : Fld := ⟨0, 64⟩
def PRB_P_CNT_PKT_info : RegInfo := { }

/-- `PRB.P.CNT_FLIT` (R385). -/
def PRB_P_CNT_FLIT (k : Nat) : Nat := 0x140030 + 0x40 * k
def PRB_P_CNT_FLIT_COUNT : Fld := ⟨0, 64⟩
def PRB_P_CNT_FLIT_info : RegInfo := { }

/-- `PRB.P.CNT_WAIT` (R385). -/
def PRB_P_CNT_WAIT (k : Nat) : Nat := 0x140038 + 0x40 * k
def PRB_P_CNT_WAIT_COUNT : Fld := ⟨0, 64⟩
def PRB_P_CNT_WAIT_info : RegInfo := { }

/-- `PRB.CTL` (R385). -/
def PRB_CTL : Nat := 0x141000
def PRB_CTL_FREEZE : Fld := ⟨1, 1⟩
def PRB_CTL_CLEAR : Fld := ⟨0, 1⟩
def PRB_CTL_info : RegInfo := { rw := 0x2, wo := 0x1 }

/-- `PRB.TRACE_CTL` (R385). -/
def PRB_TRACE_CTL : Nat := 0x141008
def PRB_TRACE_CTL_TRIG : Fld := ⟨5, 6⟩
def PRB_TRACE_CTL_ARM : Fld := ⟨2, 1⟩
def PRB_TRACE_CTL_MODE : Fld := ⟨1, 1⟩
def PRB_TRACE_CTL_EN : Fld := ⟨0, 1⟩
def PRB_TRACE_CTL_info : RegInfo := { rw := 0x7E7 }

/-- `PRB.TRACE_PTR` (R385). -/
def PRB_TRACE_PTR : Nat := 0x141010
def PRB_TRACE_PTR_DROPPED : Fld := ⟨32, 32⟩
def PRB_TRACE_PTR_WRAPPED : Fld := ⟨12, 1⟩
def PRB_TRACE_PTR_NEXT : Fld := ⟨0, 11⟩
def PRB_TRACE_PTR_info : RegInfo := { rcl := 0xFFFFFFFF00000000 }

/-! ### CFG -/

/-- `CFG.STATUS` (R464). -/
def CFG_STATUS : Nat := 0x180000
def CFG_STATUS_CAUSE : Fld := ⟨48, 8⟩
def CFG_STATUS_LAST_STATUS : Fld := ⟨32, 16⟩
def CFG_STATUS_ENGINE : Fld := ⟨8, 4⟩
def CFG_STATUS_BOOT_SLOT : Fld := ⟨4, 2⟩
def CFG_STATUS_FALLBACK : Fld := ⟨3, 1⟩
def CFG_STATUS_ERR : Fld := ⟨1, 1⟩
def CFG_STATUS_DONE : Fld := ⟨0, 1⟩
def CFG_STATUS_info : RegInfo := { }

/-- `CFG.POLICY` (R464). -/
def CFG_POLICY : Nat := 0x180008
def CFG_POLICY_FALLBACK : Fld := ⟨1, 1⟩
def CFG_POLICY_PREFERRED : Fld := ⟨0, 1⟩
def CFG_POLICY_info : RegInfo := { reset := 0x2 }

/-- `CFG.STACK_SIG` (R464). -/
def CFG_STACK_SIG : Nat := 0x180010
def CFG_STACK_SIG_SIG : Fld := ⟨0, 64⟩
def CFG_STACK_SIG_info : RegInfo := { }

/-- `CFG.SCRUB` (R465). -/
def CFG_SCRUB : Nat := 0x180100
def CFG_SCRUB_PASSES : Fld := ⟨48, 16⟩
def CFG_SCRUB_CORR : Fld := ⟨24, 24⟩
def CFG_SCRUB_UNCORR : Fld := ⟨0, 24⟩
def CFG_SCRUB_info : RegInfo := { rcl := 0xFFFFFFFFFFFF }

/-- `CFG.SCRUB_LOG` (R465). -/
def CFG_SCRUB_LOG : Nat := 0x180108
def CFG_SCRUB_LOG_VALID : Fld := ⟨63, 1⟩
def CFG_SCRUB_LOG_WORD : Fld := ⟨32, 9⟩
def CFG_SCRUB_LOG_STAGING : Fld := ⟨19, 1⟩
def CFG_SCRUB_LOG_PLANE : Fld := ⟨16, 3⟩
def CFG_SCRUB_LOG_DUNE : Fld := ⟨0, 16⟩
def CFG_SCRUB_LOG_info : RegInfo := { w1c := 0x8000000000000000 }

/-- `CFG.SLOT.INFO` (R464). -/
def CFG_SLOT_INFO (t : Nat) : Nat := 0x180020 + 0x10 * t
def CFG_SLOT_INFO_CYCLES : Fld := ⟨18, 14⟩
def CFG_SLOT_INFO_EXHAUSTED : Fld := ⟨17, 1⟩
def CFG_SLOT_INFO_STATE : Fld := ⟨0, 3⟩
def CFG_SLOT_INFO_info : RegInfo := { }

/-- `CFG.SLOT.VER` (R464). -/
def CFG_SLOT_VER (t : Nat) : Nat := 0x180028 + 0x10 * t
def CFG_SLOT_VER_VERSION : Fld := ⟨32, 32⟩
def CFG_SLOT_VER_info : RegInfo := { }

/-! ### FAB -/

/-- `FAB.ERG.CTX` (R90). -/
def FAB_ERG_CTX (i : Nat) : Nat := 0x1C0000 + 0x40 * i
def FAB_ERG_CTX_REFUSED : Fld := ⟨15, 1⟩
def FAB_ERG_CTX_GO : Fld := ⟨11, 1⟩
def FAB_ERG_CTX_TARGET : Fld := ⟨8, 3⟩
def FAB_ERG_CTX_NONE : Fld := ⟨3, 1⟩
def FAB_ERG_CTX_ACTIVE : Fld := ⟨0, 3⟩
def FAB_ERG_CTX_info : RegInfo := { reset := 0x8, rw := 0x700, w1c := 0x8000, wo := 0x800 }

/-- `FAB.ERG.STATUS` (R91). -/
def FAB_ERG_STATUS (i : Nat) : Nat := 0x1C0008 + 0x40 * i
def FAB_ERG_STATUS_SWITCHES : Fld := ⟨32, 32⟩
def FAB_ERG_STATUS_SETTLE : Fld := ⟨24, 8⟩
def FAB_ERG_STATUS_LINK_DISCARD : Fld := ⟨16, 8⟩
def FAB_ERG_STATUS_RESERVED : Fld := ⟨11, 1⟩
def FAB_ERG_STATUS_LAST_SRC : Fld := ⟨8, 3⟩
def FAB_ERG_STATUS_HELD : Fld := ⟨2, 1⟩
def FAB_ERG_STATUS_ACTIVE_WRITE : Fld := ⟨1, 1⟩
def FAB_ERG_STATUS_ISOLATED : Fld := ⟨0, 1⟩
def FAB_ERG_STATUS_info : RegInfo := { }

/-- `FAB.ERG.PLANES` (R92). -/
def FAB_ERG_PLANES (i : Nat) : Nat := 0x1C0010 + 0x40 * i
def FAB_ERG_PLANES_STATE : Fld := ⟨0, 32⟩
def FAB_ERG_PLANES_info : RegInfo := { }

/-- `FAB.ERG.ISO` (R93). -/
def FAB_ERG_ISO (i : Nat) : Nat := 0x1C0018 + 0x40 * i
def FAB_ERG_ISO_RELEASE : Fld := ⟨9, 1⟩
def FAB_ERG_ISO_FORCE : Fld := ⟨8, 1⟩
def FAB_ERG_ISO_info : RegInfo := { rw := 0x100, wo := 0x200 }

/-- `FAB.ERG.SNAP` (R94). -/
def FAB_ERG_SNAP (i : Nat) : Nat := 0x1C0020 + 0x40 * i
def FAB_ERG_SNAP_CTX : Fld := ⟨16, 3⟩
def FAB_ERG_SNAP_SKIPPED : Fld := ⟨9, 1⟩
def FAB_ERG_SNAP_FULL : Fld := ⟨8, 1⟩
def FAB_ERG_SNAP_RESERVE : Fld := ⟨3, 1⟩
def FAB_ERG_SNAP_PLANE : Fld := ⟨0, 3⟩
def FAB_ERG_SNAP_info : RegInfo := { rw := 0xF, w1c := 0x300 }

/-- `FAB.ERG.LOCK` (R95). -/
def FAB_ERG_LOCK (i : Nat) : Nat := 0x1C0028 + 0x40 * i
def FAB_ERG_LOCK_PAIRED : Fld := ⟨11, 1⟩
def FAB_ERG_LOCK_SAFE_CTX : Fld := ⟨8, 3⟩
def FAB_ERG_LOCK_MISMATCH : Fld := ⟨4, 1⟩
def FAB_ERG_LOCK_ACTION : Fld := ⟨0, 2⟩
def FAB_ERG_LOCK_info : RegInfo := { rw := 0x703, w1c := 0x10 }

/-- `FAB.ERG.SHADE` (R363). -/
def FAB_ERG_SHADE (i : Nat) : Nat := 0x1C0030 + 0x40 * i
def FAB_ERG_SHADE_STRETCH : Fld := ⟨32, 8⟩
def FAB_ERG_SHADE_GATE_N : Fld := ⟨27, 5⟩
def FAB_ERG_SHADE_MEANS : Fld := ⟨24, 2⟩
def FAB_ERG_SHADE_RULE : Fld := ⟨22, 2⟩
def FAB_ERG_SHADE_EXEMPT : Fld := ⟨20, 1⟩
def FAB_ERG_SHADE_ACT : Fld := ⟨0, 11⟩
def FAB_ERG_SHADE_info : RegInfo := { rw := 0x100000 }

/-- `FAB.BM_PERR` (R57). -/
def FAB_BM_PERR : Nat := 0x1CE000
def FAB_BM_PERR_COUNT : Fld := ⟨32, 32⟩
def FAB_BM_PERR_ADDR : Fld := ⟨20, 12⟩
def FAB_BM_PERR_PORT : Fld := ⟨19, 1⟩
def FAB_BM_PERR_MEM : Fld := ⟨17, 2⟩
def FAB_BM_PERR_VALID : Fld := ⟨16, 1⟩
def FAB_BM_PERR_DUNE : Fld := ⟨0, 16⟩
def FAB_BM_PERR_info : RegInfo := { w1c := 0x10000 }

/-- `FAB.ILLOP` (R58). -/
def FAB_ILLOP : Nat := 0x1CE008
def FAB_ILLOP_CTX : Fld := ⟨29, 3⟩
def FAB_ILLOP_CELL : Fld := ⟨23, 6⟩
def FAB_ILLOP_VALID : Fld := ⟨16, 1⟩
def FAB_ILLOP_DUNE : Fld := ⟨0, 16⟩
def FAB_ILLOP_info : RegInfo := { w1c := 0x10000 }

/-- `FAB.DIR_PERR` (R96). -/
def FAB_DIR_PERR : Nat := 0x1CE010
def FAB_DIR_PERR_COUNT : Fld := ⟨32, 32⟩
def FAB_DIR_PERR_VALID : Fld := ⟨16, 1⟩
def FAB_DIR_PERR_KIND : Fld := ⟨14, 2⟩
def FAB_DIR_PERR_WHERE : Fld := ⟨0, 14⟩
def FAB_DIR_PERR_info : RegInfo := { w1c := 0x10000 }

/-- `FAB.SNAP_CTL` (R97). -/
def FAB_SNAP_CTL : Nat := 0x1CE100
def FAB_SNAP_CTL_BUSY : Fld := ⟨16, 1⟩
def FAB_SNAP_CTL_TRIG : Fld := ⟨8, 6⟩
def FAB_SNAP_CTL_ARM : Fld := ⟨1, 1⟩
def FAB_SNAP_CTL_GO : Fld := ⟨0, 1⟩
def FAB_SNAP_CTL_info : RegInfo := { rw := 0x3F02, wo := 0x1 }

/-- `FAB.SNAP_TIME` (R97). -/
def FAB_SNAP_TIME : Nat := 0x1CE118
def FAB_SNAP_TIME_STAMP : Fld := ⟨0, 64⟩
def FAB_SNAP_TIME_info : RegInfo := { }

/-- `FAB.SNAP_MASK` (R97). -/
def FAB_SNAP_MASK (m : Nat) : Nat := 0x1CE108 + 0x8 * m
def FAB_SNAP_MASK_ERGS : Fld := ⟨0, 64⟩
def FAB_SNAP_MASK_info : RegInfo := { rw := 0xFFFFFFFFFFFFFFFF }

/-! ### WELL -/

/-- `WELL.CTL` (R343). -/
def WELL_CTL : Nat := 0x200000
def WELL_CTL_FAIL_THR : Fld := ⟨0, 16⟩
def WELL_CTL_info : RegInfo := { reset := 0x10, rw := 0xFFFF }

/-- `WELL.MAP_GEN` (R343). -/
def WELL_MAP_GEN : Nat := 0x200008
def WELL_MAP_GEN_GEN : Fld := ⟨0, 32⟩
def WELL_MAP_GEN_info : RegInfo := { }

/-- `WELL.SEL` (R343). -/
def WELL_SEL : Nat := 0x200010
def WELL_SEL_CROSSING : Fld := ⟨3, 11⟩
def WELL_SEL_BOND : Fld := ⟨0, 3⟩
def WELL_SEL_info : RegInfo := { reset := 0x1, rw := 0x3FFF }

/-- `WELL.XDATA` (R343). -/
def WELL_XDATA : Nat := 0x200018
def WELL_XDATA_DETOUR_WELL : Fld := ⟨42, 6⟩
def WELL_XDATA_EXPOSED_LANE : Fld := ⟨35, 7⟩
def WELL_XDATA_SPARE_FAILED : Fld := ⟨31, 4⟩
def WELL_XDATA_SPARE_USED : Fld := ⟨27, 4⟩
def WELL_XDATA_STATE : Fld := ⟨0, 3⟩
def WELL_XDATA_info : RegInfo := { }

/-- `WELL.ERR` (R343). -/
def WELL_ERR : Nat := 0x200020
def WELL_ERR_CORR : Fld := ⟨32, 32⟩
def WELL_ERR_UNCORR : Fld := ⟨0, 32⟩
def WELL_ERR_info : RegInfo := { rcl := 0xFFFFFFFFFFFFFFFF }

/-- `WELL.REPLAY` (R343). -/
def WELL_REPLAY : Nat := 0x200028
def WELL_REPLAY_RESENT : Fld := ⟨0, 32⟩
def WELL_REPLAY_info : RegInfo := { rcl := 0xFFFFFFFF }

/-! ### OAS -/

/-- `OAS.G.CTL` (R268). -/
def OAS_G_CTL (i : Nat) : Nat := 0x240000 + 0x40 * i
def OAS_G_CTL_TEST : Fld := ⟨0, 1⟩
def OAS_G_CTL_info : RegInfo := { rw := 0x1 }

/-- `OAS.G.FPORT` (R268). -/
def OAS_G_FPORT (i : Nat) : Nat := 0x240008 + 0x40 * i
def OAS_G_FPORT_BOUND : Fld := ⟨13, 1⟩
def OAS_G_FPORT_TOP : Fld := ⟨12, 1⟩
def OAS_G_FPORT_CH : Fld := ⟨6, 6⟩
def OAS_G_FPORT_info : RegInfo := { rw := 0x3FC0 }

/-- `OAS.G.STATUS` (R268). -/
def OAS_G_STATUS (i : Nat) : Nat := 0x240010 + 0x40 * i
def OAS_G_STATUS_REFUSED : Fld := ⟨8, 1⟩
def OAS_G_STATUS_REASON : Fld := ⟨4, 4⟩
def OAS_G_STATUS_FAILED : Fld := ⟨3, 1⟩
def OAS_G_STATUS_EXHAUSTED : Fld := ⟨2, 1⟩
def OAS_G_STATUS_CLEARING : Fld := ⟨1, 1⟩
def OAS_G_STATUS_info : RegInfo := { reset := 0x2, w1c := 0x100 }

/-- `OAS.G.ERR` (R268). -/
def OAS_G_ERR (i : Nat) : Nat := 0x240018 + 0x40 * i
def OAS_G_ERR_CORR : Fld := ⟨32, 32⟩
def OAS_G_ERR_UNCORR : Fld := ⟨0, 32⟩
def OAS_G_ERR_info : RegInfo := { rcl := 0xFFFFFFFFFFFFFFFF }

/-- `OAS.G.ERR_LOG` (R268). -/
def OAS_G_ERR_LOG (i : Nat) : Nat := 0x240020 + 0x40 * i
def OAS_G_ERR_LOG_VALID : Fld := ⟨63, 1⟩
def OAS_G_ERR_LOG_REQ : Fld := ⟨50, 6⟩
def OAS_G_ERR_LOG_OFFSET : Fld := ⟨0, 24⟩
def OAS_G_ERR_LOG_info : RegInfo := { w1c := 0x8000000000000000 }

/-- `OAS.RMP_SEL` (R269). -/
def OAS_RMP_SEL : Nat := 0x242000
def OAS_RMP_SEL_SEL : Fld := ⟨0, 16⟩
def OAS_RMP_SEL_info : RegInfo := { rw := 0xFFC7 }

/-- `OAS.RMP_DATA` (R269). -/
def OAS_RMP_DATA : Nat := 0x242008
def OAS_RMP_DATA_VALID : Fld := ⟨63, 1⟩
def OAS_RMP_DATA_POISON : Fld := ⟨62, 1⟩
def OAS_RMP_DATA_SOURCE : Fld := ⟨61, 1⟩
def OAS_RMP_DATA_ROW : Fld := ⟨0, 18⟩
def OAS_RMP_DATA_info : RegInfo := { }

/-- `OAS.CONF_SEL` (R269). -/
def OAS_CONF_SEL : Nat := 0x242010
def OAS_CONF_SEL_SEL : Fld := ⟨0, 16⟩
def OAS_CONF_SEL_info : RegInfo := { rw := 0xFFFF }

/-- `OAS.CONF_DATA` (R269). -/
def OAS_CONF_DATA : Nat := 0x242018
def OAS_CONF_DATA_CYCLES : Fld := ⟨0, 32⟩
def OAS_CONF_DATA_info : RegInfo := { }

/-- `OAS.CONF_CTL` (R269). -/
def OAS_CONF_CTL : Nat := 0x242020
def OAS_CONF_CTL_CLEAR : Fld := ⟨0, 1⟩
def OAS_CONF_CTL_info : RegInfo := { wo := 0x1 }

/-- `OAS.TEST_ADDR` (R269). -/
def OAS_TEST_ADDR : Nat := 0x242080
def OAS_TEST_ADDR_GROUP : Fld := ⟨24, 7⟩
def OAS_TEST_ADDR_WORD : Fld := ⟨3, 21⟩
def OAS_TEST_ADDR_info : RegInfo := { rw := 0x7FFFFFF8 }

/-- `OAS.TEST_DATA` (R269). -/
def OAS_TEST_DATA : Nat := 0x242088
def OAS_TEST_DATA_DATA : Fld := ⟨0, 64⟩
def OAS_TEST_DATA_info : RegInfo := { rw := 0xFFFFFFFFFFFFFFFF }

/-- `OAS.TEST_CHECK` (R269). -/
def OAS_TEST_CHECK : Nat := 0x242090
def OAS_TEST_CHECK_SYNDROME : Fld := ⟨8, 7⟩
def OAS_TEST_CHECK_CHECK : Fld := ⟨0, 8⟩
def OAS_TEST_CHECK_info : RegInfo := { rw := 0xFF }

/-- `OAS.TEST_CTL` (R269). -/
def OAS_TEST_CTL : Nat := 0x242098
def OAS_TEST_CTL_RESULT : Fld := ⟨4, 2⟩
def OAS_TEST_CTL_READ : Fld := ⟨2, 1⟩
def OAS_TEST_CTL_WRITE : Fld := ⟨1, 1⟩
def OAS_TEST_CTL_SPLIT : Fld := ⟨0, 1⟩
def OAS_TEST_CTL_info : RegInfo := { rw := 0x1, wo := 0x6 }

/-- `OAS.BIST` (R269). -/
def OAS_BIST (L : Nat) : Nat := 0x242040 + 0x8 * L
def OAS_BIST_REMAPPED : Fld := ⟨32, 16⟩
def OAS_BIST_FAILED : Fld := ⟨24, 8⟩
def OAS_BIST_DONE : Fld := ⟨1, 1⟩
def OAS_BIST_PASS : Fld := ⟨0, 1⟩
def OAS_BIST_info : RegInfo := { }

/-! ### DRMC -/

/-- `DRMC.CTL` (R298). -/
def DRMC_CTL (p : Nat) : Nat := 0x280000 + 0x1000 * p
def DRMC_CTL_RETRAIN : Fld := ⟨48, 16⟩
def DRMC_CTL_PATROL : Fld := ⟨40, 8⟩
def DRMC_CTL_PRESET : Fld := ⟨32, 2⟩
def DRMC_CTL_info : RegInfo := { reset := 0x3E8180000000000, rw := 0xFFFFFF0300000000 }

/-- `DRMC.STATUS` (R298). -/
def DRMC_STATUS (p : Nat) : Nat := 0x280008 + 0x1000 * p
def DRMC_STATUS_REASON : Fld := ⟨28, 4⟩
def DRMC_STATUS_REFUSED : Fld := ⟨24, 1⟩
def DRMC_STATUS_RETRAINING : Fld := ⟨20, 4⟩
def DRMC_STATUS_CH_FAILED : Fld := ⟨16, 4⟩
def DRMC_STATUS_KEPT : Fld := ⟨5, 1⟩
def DRMC_STATUS_EXHAUSTED : Fld := ⟨4, 1⟩
def DRMC_STATUS_STATE : Fld := ⟨0, 3⟩
def DRMC_STATUS_info : RegInfo := { w1c := 0x1000000 }

/-- `DRMC.GEOM` (R298). -/
def DRMC_GEOM (p : Nat) : Nat := 0x280010 + 0x1000 * p
def DRMC_GEOM_SPR : Fld := ⟨48, 16⟩
def DRMC_GEOM_RANKS : Fld := ⟨24, 4⟩
def DRMC_GEOM_RESERVED_MIB : Fld := ⟨16, 8⟩
def DRMC_GEOM_USABLE_MIB : Fld := ⟨0, 16⟩
def DRMC_GEOM_info : RegInfo := { }

/-- `DRMC.RH` (R299). -/
def DRMC_RH (p : Nat) : Nat := 0x280018 + 0x1000 * p
def DRMC_RH_HOLD : Fld := ⟨32, 16⟩
def DRMC_RH_DELAY : Fld := ⟨16, 8⟩
def DRMC_RH_THR : Fld := ⟨0, 16⟩
def DRMC_RH_info : RegInfo := { reset := 0x6400320100, rw := 0xFFFF00FFFFFF }

/-- `DRMC.RH_LOG` (R299). -/
def DRMC_RH_LOG (p : Nat) : Nat := 0x280020 + 0x1000 * p
def DRMC_RH_LOG_THROTTLES : Fld := ⟨32, 32⟩
def DRMC_RH_LOG_VALID : Fld := ⟨31, 1⟩
def DRMC_RH_LOG_CH : Fld := ⟨16, 2⟩
def DRMC_RH_LOG_BANK : Fld := ⟨11, 5⟩
def DRMC_RH_LOG_REQ : Fld := ⟨0, 6⟩
def DRMC_RH_LOG_info : RegInfo := { w1c := 0x80000000, rcl := 0xFFFFFFFF00000000 }

/-- `DRMC.ERR` (R299). -/
def DRMC_ERR (p : Nat) : Nat := 0x280028 + 0x1000 * p
def DRMC_ERR_CORR : Fld := ⟨32, 32⟩
def DRMC_ERR_UNCORR : Fld := ⟨0, 32⟩
def DRMC_ERR_info : RegInfo := { rcl := 0xFFFFFFFFFFFFFFFF }

/-- `DRMC.ERR2` (R299). -/
def DRMC_ERR2 (p : Nat) : Nat := 0x280030 + 0x1000 * p
def DRMC_ERR2_LINK : Fld := ⟨32, 32⟩
def DRMC_ERR2_REPLAY : Fld := ⟨0, 32⟩
def DRMC_ERR2_info : RegInfo := { rcl := 0xFFFFFFFFFFFFFFFF }

/-- `DRMC.ERR_LOG` (R299). -/
def DRMC_ERR_LOG (p : Nat) : Nat := 0x280038 + 0x1000 * p
def DRMC_ERR_LOG_VALID : Fld := ⟨63, 1⟩
def DRMC_ERR_LOG_SOURCE : Fld := ⟨61, 2⟩
def DRMC_ERR_LOG_REQ : Fld := ⟨52, 6⟩
def DRMC_ERR_LOG_LINE : Fld := ⟨0, 30⟩
def DRMC_ERR_LOG_info : RegInfo := { w1c := 0x8000000000000000 }

/-- `DRMC.REMAP_SEL` (R299). -/
def DRMC_REMAP_SEL (p : Nat) : Nat := 0x280040 + 0x1000 * p
def DRMC_REMAP_SEL_ENTRY : Fld := ⟨0, 4⟩
def DRMC_REMAP_SEL_info : RegInfo := { rw := 0xF }

/-- `DRMC.REMAP_DATA` (R299). -/
def DRMC_REMAP_DATA (p : Nat) : Nat := 0x280048 + 0x1000 * p
def DRMC_REMAP_DATA_VALID : Fld := ⟨63, 1⟩
def DRMC_REMAP_DATA_POISON : Fld := ⟨62, 1⟩
def DRMC_REMAP_DATA_CAUSE : Fld := ⟨61, 1⟩
def DRMC_REMAP_DATA_LINE : Fld := ⟨0, 30⟩
def DRMC_REMAP_DATA_info : RegInfo := { }

/-- `DRMC.SCRUB` (R299). -/
def DRMC_SCRUB (p : Nat) : Nat := 0x280050 + 0x1000 * p
def DRMC_SCRUB_PASSES : Fld := ⟨32, 32⟩
def DRMC_SCRUB_NEXT : Fld := ⟨0, 30⟩
def DRMC_SCRUB_info : RegInfo := { }

/-- `DRMC.CMD` (R299). -/
def DRMC_CMD (p : Nat) : Nat := 0x280058 + 0x1000 * p
def DRMC_CMD_CLR_CNT : Fld := ⟨4, 1⟩
def DRMC_CMD_RETRAIN : Fld := ⟨0, 4⟩
def DRMC_CMD_info : RegInfo := { wo := 0x1F }

/-- `DRMC.CNT_RD` (R299). -/
def DRMC_CNT_RD (p : Nat) : Nat := 0x280060 + 0x1000 * p
def DRMC_CNT_RD_LINES : Fld := ⟨0, 64⟩
def DRMC_CNT_RD_info : RegInfo := { }

/-- `DRMC.CNT_WR` (R299). -/
def DRMC_CNT_WR (p : Nat) : Nat := 0x280068 + 0x1000 * p
def DRMC_CNT_WR_LINES : Fld := ⟨0, 64⟩
def DRMC_CNT_WR_info : RegInfo := { }

/-- `DRMC.WIN.CFG` (R300). -/
def DRMC_WIN_CFG (w : Nat) : Nat := 0x2A0000 + 0x10 * w
def DRMC_WIN_CFG_VALID : Fld := ⟨63, 1⟩
def DRMC_WIN_CFG_GRAIN : Fld := ⟨60, 3⟩
def DRMC_WIN_CFG_LOCAL : Fld := ⟨42, 16⟩
def DRMC_WIN_CFG_SIZE : Fld := ⟨21, 21⟩
def DRMC_WIN_CFG_BASE : Fld := ⟨0, 21⟩
def DRMC_WIN_CFG_info : RegInfo := { rw := 0xF3FFFFFFFFFFFFFF }

/-- `DRMC.WIN.MASK` (R300). -/
def DRMC_WIN_MASK (w : Nat) : Nat := 0x2A0008 + 0x10 * w
def DRMC_WIN_MASK_CTRL : Fld := ⟨0, 32⟩
def DRMC_WIN_MASK_info : RegInfo := { rw := 0xFFFFFFFF }

/-- `DRMC.MAP_STATUS` (R300). -/
def DRMC_MAP_STATUS : Nat := 0x2A0100
def DRMC_MAP_STATUS_WIN : Fld := ⟨8, 4⟩
def DRMC_MAP_STATUS_REASON : Fld := ⟨4, 4⟩
def DRMC_MAP_STATUS_REFUSED : Fld := ⟨0, 1⟩
def DRMC_MAP_STATUS_info : RegInfo := { w1c := 0x1 }

/-! ### CRY -/

/-- `CRY.DOM.CFG` (R325). -/
def CRY_DOM_CFG (d : Nat) : Nat := 0x300000 + 0x40 * d
def CRY_DOM_CFG_VALID : Fld := ⟨63, 1⟩
def CRY_DOM_CFG_BLANK_OK : Fld := ⟨62, 1⟩
def CRY_DOM_CFG_SIZE : Fld := ⟨21, 21⟩
def CRY_DOM_CFG_BASE : Fld := ⟨0, 21⟩
def CRY_DOM_CFG_info : RegInfo := { rwa := 0xC00003FFFFFFFFFF }

/-- `CRY.DOM.KEY` (R325). -/
def CRY_DOM_KEY (d : Nat) : Nat := 0x300008 + 0x40 * d
def CRY_DOM_KEY_KEY_VALID : Fld := ⟨63, 1⟩
def CRY_DOM_KEY_NEW_VALID : Fld := ⟨62, 1⟩
def CRY_DOM_KEY_NEW_EPOCH : Fld := ⟨40, 8⟩
def CRY_DOM_KEY_EPOCH : Fld := ⟨32, 8⟩
def CRY_DOM_KEY_NEW_KCV : Fld := ⟨16, 16⟩
def CRY_DOM_KEY_KCV : Fld := ⟨0, 16⟩
def CRY_DOM_KEY_info : RegInfo := { }

/-- `CRY.DOM.STATUS` (R325). -/
def CRY_DOM_STATUS (d : Nat) : Nat := 0x300020 + 0x40 * d
def CRY_DOM_STATUS_INTEG : Fld := ⟨32, 32⟩
def CRY_DOM_STATUS_DENIED : Fld := ⟨0, 32⟩
def CRY_DOM_STATUS_info : RegInfo := { rcl := 0xFFFFFFFFFFFFFFFF }

/-- `CRY.DOM.RIGHTS` (R325). -/
def CRY_DOM_RIGHTS (d : Nat) (k : Nat) : Nat := 0x300010 + 0x40 * d + 0x8 * k
def CRY_DOM_RIGHTS_RIGHTS : Fld := ⟨0, 64⟩
def CRY_DOM_RIGHTS_info : RegInfo := { rwa := 0xFFFFFFFFFFFFFFFF }

/-- `CRY.STRICT.CFG` (R326). -/
def CRY_STRICT_CFG (t : Nat) : Nat := 0x300400 + 0x10 * t
def CRY_STRICT_CFG_VALID : Fld := ⟨63, 1⟩
def CRY_STRICT_CFG_SIZE : Fld := ⟨29, 25⟩
def CRY_STRICT_CFG_BASE : Fld := ⟨0, 25⟩
def CRY_STRICT_CFG_info : RegInfo := { rwa := 0x803FFFFFE1FFFFFF }

/-- `CRY.STRICT.WRAPS` (R326). -/
def CRY_STRICT_WRAPS (t : Nat) : Nat := 0x300408 + 0x10 * t
def CRY_STRICT_WRAPS_WRAPS : Fld := ⟨0, 32⟩
def CRY_STRICT_WRAPS_info : RegInfo := { rcl := 0xFFFFFFFF }

/-- `CRY.OAS_RIGHTS` (R327). -/
def CRY_OAS_RIGHTS (k : Nat) : Nat := 0x300500 + 0x8 * k
def CRY_OAS_RIGHTS_RIGHTS : Fld := ⟨0, 64⟩
def CRY_OAS_RIGHTS_info : RegInfo := { rwa := 0xFFFFFFFFFFFFFFFF }

/-- `CRY.DRIFT.CTL` (R326). -/
def CRY_DRIFT_CTL : Nat := 0x300600
def CRY_DRIFT_CTL_DOMAIN : Fld := ⟨8, 4⟩
def CRY_DRIFT_CTL_PAUSE : Fld := ⟨7, 1⟩
def CRY_DRIFT_CTL_RATE : Fld := ⟨0, 7⟩
def CRY_DRIFT_CTL_info : RegInfo := { reset := 0xA, rw := 0xFF }

/-- `CRY.DRIFT.STATUS` (R326). -/
def CRY_DRIFT_STATUS : Nat := 0x300608
def CRY_DRIFT_STATUS_SKIPPED : Fld := ⟨32, 32⟩
def CRY_DRIFT_STATUS_STATE : Fld := ⟨0, 3⟩
def CRY_DRIFT_STATUS_info : RegInfo := { }

/-- `CRY.DRIFT.BOUNDARY` (R326). -/
def CRY_DRIFT_BOUNDARY : Nat := 0x300610
def CRY_DRIFT_BOUNDARY_LINE : Fld := ⟨6, 35⟩
def CRY_DRIFT_BOUNDARY_info : RegInfo := { }

/-- `CRY.DRIFT.CHECKPOINT` (R326). -/
def CRY_DRIFT_CHECKPOINT : Nat := 0x300618
def CRY_DRIFT_CHECKPOINT_LINE : Fld := ⟨6, 35⟩
def CRY_DRIFT_CHECKPOINT_info : RegInfo := { }

/-- `CRY.ERR_LOG` (R327). -/
def CRY_ERR_LOG : Nat := 0x300700
def CRY_ERR_LOG_VALID : Fld := ⟨63, 1⟩
def CRY_ERR_LOG_KIND : Fld := ⟨60, 3⟩
def CRY_ERR_LOG_REQ : Fld := ⟨52, 6⟩
def CRY_ERR_LOG_DOMAIN : Fld := ⟨48, 4⟩
def CRY_ERR_LOG_ADDR : Fld := ⟨0, 41⟩
def CRY_ERR_LOG_info : RegInfo := { w1c := 0x8000000000000000 }

/-- `CRY.CMD_STATUS` (R327). -/
def CRY_CMD_STATUS : Nat := 0x300708
def CRY_CMD_STATUS_REASON : Fld := ⟨4, 4⟩
def CRY_CMD_STATUS_REFUSED : Fld := ⟨0, 1⟩
def CRY_CMD_STATUS_info : RegInfo := { w1c := 0x1 }

/-! ### LANE -/

/-- `LANE.CFG` (R128). -/
def LANE_CFG (n : Nat) : Nat := 0x340000 + 0x800 * n
def LANE_CFG_FILL_TAG : Fld := ⟨27, 2⟩
def LANE_CFG_TX_FEC : Fld := ⟨26, 1⟩
def LANE_CFG_TX_MODE : Fld := ⟨23, 3⟩
def LANE_CFG_TX_SRC : Fld := ⟨21, 2⟩
def LANE_CFG_TX_IDLE : Fld := ⟨20, 1⟩
def LANE_CFG_TX_INVERT : Fld := ⟨19, 1⟩
def LANE_CFG_TX_PRECODE : Fld := ⟨18, 1⟩
def LANE_CFG_TX_PAM4 : Fld := ⟨17, 1⟩
def LANE_CFG_TX_EN : Fld := ⟨16, 1⟩
def LANE_CFG_RX_FEC : Fld := ⟨8, 2⟩
def LANE_CFG_RX_MODE : Fld := ⟨5, 3⟩
def LANE_CFG_RX_SSC : Fld := ⟨4, 1⟩
def LANE_CFG_RX_INVERT : Fld := ⟨3, 1⟩
def LANE_CFG_RX_PRECODE : Fld := ⟨2, 1⟩
def LANE_CFG_RX_PAM4 : Fld := ⟨1, 1⟩
def LANE_CFG_RX_EN : Fld := ⟨0, 1⟩
def LANE_CFG_info : RegInfo := { rw := 0x1FFF03FF }

/-- `LANE.RATE` (R129). -/
def LANE_RATE (n : Nat) : Nat := 0x340008 + 0x800 * n
def LANE_RATE_TX_KBD : Fld := ⟨32, 27⟩
def LANE_RATE_RX_KBD : Fld := ⟨0, 27⟩
def LANE_RATE_info : RegInfo := { rw := 0x7FFFFFF07FFFFFF }

/-- `LANE.PORT` (R130). -/
def LANE_PORT (n : Nat) : Nat := 0x340010 + 0x800 * n
def LANE_PORT_TX_LEAD : Fld := ⟨32, 5⟩
def LANE_PORT_TX_BOUND : Fld := ⟨29, 1⟩
def LANE_PORT_TX_TOP : Fld := ⟨28, 1⟩
def LANE_PORT_TX_CH : Fld := ⟨22, 6⟩
def LANE_PORT_TX_WELL : Fld := ⟨16, 6⟩
def LANE_PORT_RX_BOUND : Fld := ⟨13, 1⟩
def LANE_PORT_RX_TOP : Fld := ⟨12, 1⟩
def LANE_PORT_RX_CH : Fld := ⟨6, 6⟩
def LANE_PORT_RX_WELL : Fld := ⟨0, 6⟩
def LANE_PORT_info : RegInfo := { reset := 0x400000000, rw := 0x1F3FFF3FFF }

/-- `LANE.STATUS` (R131). -/
def LANE_STATUS (n : Nat) : Nat := 0x340018 + 0x800 * n
def LANE_STATUS_LOCK_LOST : Fld := ⟨22, 1⟩
def LANE_STATUS_PORT_REFUSED : Fld := ⟨21, 1⟩
def LANE_STATUS_CFG_REFUSED : Fld := ⟨20, 1⟩
def LANE_STATUS_REASON : Fld := ⟨16, 4⟩
def LANE_STATUS_SIGDET : Fld := ⟨8, 1⟩
def LANE_STATUS_TX_STATE : Fld := ⟨4, 4⟩
def LANE_STATUS_RX_STATE : Fld := ⟨0, 4⟩
def LANE_STATUS_info : RegInfo := { w1c := 0x700000 }

/-- `LANE.EQ_SET` (R132). -/
def LANE_EQ_SET (n : Nat) : Nat := 0x340020 + 0x800 * n
def LANE_EQ_SET_TX_VALID : Fld := ⟨7, 1⟩
def LANE_EQ_SET_TX_ENTRY : Fld := ⟨4, 3⟩
def LANE_EQ_SET_RX_VALID : Fld := ⟨3, 1⟩
def LANE_EQ_SET_RX_ENTRY : Fld := ⟨0, 3⟩
def LANE_EQ_SET_info : RegInfo := { }

/-- `LANE.ERRCNT` (R132). -/
def LANE_ERRCNT (n : Nat) : Nat := 0x340028 + 0x800 * n
def LANE_ERRCNT_SYNC_ERR : Fld := ⟨32, 32⟩
def LANE_ERRCNT_UNDERRUN : Fld := ⟨16, 16⟩
def LANE_ERRCNT_OVERRUN : Fld := ⟨0, 16⟩
def LANE_ERRCNT_info : RegInfo := { rcl := 0xFFFFFFFFFFFFFFFF }

/-- `LANE.TX_FILL` (R132). -/
def LANE_TX_FILL (n : Nat) : Nat := 0x340030 + 0x800 * n
def LANE_TX_FILL_FILL : Fld := ⟨0, 64⟩
def LANE_TX_FILL_info : RegInfo := { rw := 0xFFFFFFFFFFFFFFFF }

/-- `LANE.ALIGN` (R132). -/
def LANE_ALIGN (n : Nat) : Nat := 0x340038 + 0x800 * n
def LANE_ALIGN_PATTERN : Fld := ⟨0, 64⟩
def LANE_ALIGN_info : RegInfo := { rw := 0xFFFFFFFFFFFFFFFF }

/-- `LANE.ALIGN_CTL` (R132). -/
def LANE_ALIGN_CTL (n : Nat) : Nat := 0x340040 + 0x800 * n
def LANE_ALIGN_CTL_WIDTH : Fld := ⟨17, 3⟩
def LANE_ALIGN_CTL_OS_GRAINS : Fld := ⟨14, 3⟩
def LANE_ALIGN_CTL_AM_PERIOD : Fld := ⟨0, 14⟩
def LANE_ALIGN_CTL_info : RegInfo := { reset := 0x1, rw := 0xFFFFF }

/-- `LANE.MARGIN` (R134). -/
def LANE_MARGIN (n : Nat) : Nat := 0x340048 + 0x800 * n
def LANE_MARGIN_OWNED : Fld := ⟨33, 1⟩
def LANE_MARGIN_ENGINE : Fld := ⟨28, 5⟩
def LANE_MARGIN_DWELL : Fld := ⟨20, 6⟩
def LANE_MARGIN_EYE : Fld := ⟨18, 2⟩
def LANE_MARGIN_VOLT : Fld := ⟨10, 8⟩
def LANE_MARGIN_PHASE : Fld := ⟨4, 6⟩
def LANE_MARGIN_BUSY : Fld := ⟨1, 1⟩
def LANE_MARGIN_GO : Fld := ⟨0, 1⟩
def LANE_MARGIN_info : RegInfo := { reset := 0xA40000, rw := 0x3FFFFF0, wo := 0x1 }

/-- `LANE.MARGIN_RES` (R134). -/
def LANE_MARGIN_RES (n : Nat) : Nat := 0x340050 + 0x800 * n
def LANE_MARGIN_RES_VALID : Fld := ⟨63, 1⟩
def LANE_MARGIN_RES_ABORTED : Fld := ⟨62, 1⟩
def LANE_MARGIN_RES_ERRORS : Fld := ⟨0, 41⟩
def LANE_MARGIN_RES_info : RegInfo := { }

/-- `LANE.WAKE` (R132). -/
def LANE_WAKE (n : Nat) : Nat := 0x340058 + 0x800 * n
def LANE_WAKE_SEEN : Fld := ⟨1, 1⟩
def LANE_WAKE_EN : Fld := ⟨0, 1⟩
def LANE_WAKE_info : RegInfo := { w1c := 0x2, rws := 0x1 }

/-- `LANE.WAKE_PAT0` (R132). -/
def LANE_WAKE_PAT0 (n : Nat) : Nat := 0x340060 + 0x800 * n
def LANE_WAKE_PAT0_SYMBOLS : Fld := ⟨0, 64⟩
def LANE_WAKE_PAT0_info : RegInfo := { reset := 0x9C3AE1472BD865F0, rws := 0xFFFFFFFFFFFFFFFF }

/-- `LANE.WAKE_PAT1` (R132). -/
def LANE_WAKE_PAT1 (n : Nat) : Nat := 0x340068 + 0x800 * n
def LANE_WAKE_PAT1_SYMBOLS : Fld := ⟨0, 64⟩
def LANE_WAKE_PAT1_info : RegInfo := { reset := 0x4E1DB8720FA5C396, rws := 0xFFFFFFFFFFFFFFFF }

/-- `LANE.EQ_KEY` (R133). -/
def LANE_EQ_KEY (n : Nat) (k : Nat) : Nat := 0x340100 + 0x800 * n + 0x18 * k
def LANE_EQ_KEY_VALID : Fld := ⟨63, 1⟩
def LANE_EQ_KEY_MOD : Fld := ⟨62, 1⟩
def LANE_EQ_KEY_MAX_KBD : Fld := ⟨27, 27⟩
def LANE_EQ_KEY_MIN_KBD : Fld := ⟨0, 27⟩
def LANE_EQ_KEY_info : RegInfo := { rw := 0xC03FFFFFFFFFFFFF }

/-- `LANE.EQ_TX` (R133). -/
def LANE_EQ_TX (n : Nat) (k : Nat) : Nat := 0x340108 + 0x800 * n + 0x18 * k
def LANE_EQ_TX_PRE2 : Fld := ⟨40, 8⟩
def LANE_EQ_TX_PRE1 : Fld := ⟨32, 8⟩
def LANE_EQ_TX_MAIN : Fld := ⟨24, 8⟩
def LANE_EQ_TX_POST1 : Fld := ⟨16, 8⟩
def LANE_EQ_TX_POST2 : Fld := ⟨8, 8⟩
def LANE_EQ_TX_AMP : Fld := ⟨0, 6⟩
def LANE_EQ_TX_info : RegInfo := { rw := 0xFFFFFFFFFF3F }

/-- `LANE.EQ_RX` (R133). -/
def LANE_EQ_RX (n : Nat) (k : Nat) : Nat := 0x340110 + 0x800 * n + 0x18 * k
def LANE_EQ_RX_DFE : Fld := ⟨16, 48⟩
def LANE_EQ_RX_PEAK : Fld := ⟨11, 5⟩
def LANE_EQ_RX_GAIN : Fld := ⟨7, 4⟩
def LANE_EQ_RX_info : RegInfo := { rw := 0xFFFFFFFFFFFFFF80 }

/-! ### FEC -/

/-- `FEC.CTL` (R135). -/
def FEC_CTL (q : Nat) : Nat := 0x380000 + 0x100 * q
def FEC_CTL_THR : Fld := ⟨8, 4⟩
def FEC_CTL_CLEAR : Fld := ⟨1, 1⟩
def FEC_CTL_LATCH : Fld := ⟨0, 1⟩
def FEC_CTL_info : RegInfo := { reset := 0x800, rw := 0xF00, wo := 0x3 }

/-- `FEC.CW` (R135). -/
def FEC_CW (q : Nat) (k : Nat) : Nat := 0x380020 + 0x100 * q + 0x8 * k
def FEC_CW_COUNT : Fld := ⟨0, 64⟩
def FEC_CW_info : RegInfo := { }

/-- `FEC.CORR` (R135). -/
def FEC_CORR (q : Nat) (k : Nat) : Nat := 0x380040 + 0x100 * q + 0x8 * k
def FEC_CORR_COUNT : Fld := ⟨0, 64⟩
def FEC_CORR_info : RegInfo := { }

/-- `FEC.UNCORR` (R135). -/
def FEC_UNCORR (q : Nat) (k : Nat) : Nat := 0x380060 + 0x100 * q + 0x8 * k
def FEC_UNCORR_UNCORR : Fld := ⟨32, 32⟩
def FEC_UNCORR_THR_CNT : Fld := ⟨0, 32⟩
def FEC_UNCORR_info : RegInfo := { }

/-! ### TSU -/

/-- `TSU.CTL` (R227). -/
def TSU_CTL : Nat := 0x3A0000
def TSU_CTL_EPOCH : Fld := ⟨2, 1⟩
def TSU_CTL_SET : Fld := ⟨1, 1⟩
def TSU_CTL_info : RegInfo := { wo := 0x6 }

/-- `TSU.STATUS` (R227). -/
def TSU_STATUS : Nat := 0x3A0008
def TSU_STATUS_REASON : Fld := ⟨12, 4⟩
def TSU_STATUS_REFUSED : Fld := ⟨8, 1⟩
def TSU_STATUS_WRAPPED : Fld := ⟨5, 1⟩
def TSU_STATUS_SYNC_SEEN : Fld := ⟨4, 1⟩
def TSU_STATUS_FALLBACK : Fld := ⟨3, 1⟩
def TSU_STATUS_BRIDGED : Fld := ⟨2, 1⟩
def TSU_STATUS_HOLDOVER : Fld := ⟨1, 1⟩
def TSU_STATUS_LOCKED : Fld := ⟨0, 1⟩
def TSU_STATUS_info : RegInfo := { w1c := 0x130 }

/-- `TSU.NOW_NS` (R227). -/
def TSU_NOW_NS : Nat := 0x3A0010
def TSU_NOW_NS_NS : Fld := ⟨16, 30⟩
def TSU_NOW_NS_FRAC : Fld := ⟨0, 16⟩
def TSU_NOW_NS_info : RegInfo := { }

/-- `TSU.NOW_SEC` (R227). -/
def TSU_NOW_SEC : Nat := 0x3A0018
def TSU_NOW_SEC_SEC : Fld := ⟨0, 48⟩
def TSU_NOW_SEC_info : RegInfo := { }

/-- `TSU.NOW_STAMP` (R227). -/
def TSU_NOW_STAMP : Nat := 0x3A0020
def TSU_NOW_STAMP_STAMP : Fld := ⟨0, 64⟩
def TSU_NOW_STAMP_info : RegInfo := { }

/-- `TSU.SET_NS` (R227). -/
def TSU_SET_NS : Nat := 0x3A0028
def TSU_SET_NS_NS : Fld := ⟨16, 30⟩
def TSU_SET_NS_FRAC : Fld := ⟨0, 16⟩
def TSU_SET_NS_info : RegInfo := { rw := 0x3FFFFFFFFFFF }

/-- `TSU.SET_SEC` (R227). -/
def TSU_SET_SEC : Nat := 0x3A0030
def TSU_SET_SEC_SEC : Fld := ⟨0, 48⟩
def TSU_SET_SEC_info : RegInfo := { rw := 0xFFFFFFFFFFFF }

/-- `TSU.EPOCH_NS` (R227). -/
def TSU_EPOCH_NS : Nat := 0x3A0038
def TSU_EPOCH_NS_NS : Fld := ⟨16, 30⟩
def TSU_EPOCH_NS_FRAC : Fld := ⟨0, 16⟩
def TSU_EPOCH_NS_info : RegInfo := { }

/-- `TSU.EPOCH_SEC` (R227). -/
def TSU_EPOCH_SEC : Nat := 0x3A0040
def TSU_EPOCH_SEC_SEC : Fld := ⟨0, 48⟩
def TSU_EPOCH_SEC_info : RegInfo := { }

/-- `TSU.SYNC_IN` (R227). -/
def TSU_SYNC_IN : Nat := 0x3A0048
def TSU_SYNC_IN_EPOCH : Fld := ⟨34, 1⟩
def TSU_SYNC_IN_LOAD : Fld := ⟨33, 1⟩
def TSU_SYNC_IN_ARM : Fld := ⟨32, 1⟩
def TSU_SYNC_IN_COMP : Fld := ⟨0, 32⟩
def TSU_SYNC_IN_info : RegInfo := { rw := 0x7FFFFFFFF }

/-- `TSU.SYNC_LOAD_NS` (R227). -/
def TSU_SYNC_LOAD_NS : Nat := 0x3A0050
def TSU_SYNC_LOAD_NS_NS : Fld := ⟨16, 30⟩
def TSU_SYNC_LOAD_NS_FRAC : Fld := ⟨0, 16⟩
def TSU_SYNC_LOAD_NS_info : RegInfo := { rw := 0x3FFFFFFFFFFF }

/-- `TSU.SYNC_LOAD_SEC` (R227). -/
def TSU_SYNC_LOAD_SEC : Nat := 0x3A0058
def TSU_SYNC_LOAD_SEC_SEC : Fld := ⟨0, 48⟩
def TSU_SYNC_LOAD_SEC_info : RegInfo := { rw := 0xFFFFFFFFFFFF }

/-- `TSU.SYNC_STAMP` (R227). -/
def TSU_SYNC_STAMP : Nat := 0x3A0060
def TSU_SYNC_STAMP_STAMP : Fld := ⟨0, 64⟩
def TSU_SYNC_STAMP_info : RegInfo := { }

/-- `TSU.SYNC_OUT` (R227). -/
def TSU_SYNC_OUT : Nat := 0x3A0068
def TSU_SYNC_OUT_EN : Fld := ⟨63, 1⟩
def TSU_SYNC_OUT_PERIOD : Fld := ⟨32, 30⟩
def TSU_SYNC_OUT_WIDTH : Fld := ⟨24, 8⟩
def TSU_SYNC_OUT_COMP : Fld := ⟨0, 24⟩
def TSU_SYNC_OUT_info : RegInfo := { reset := 0x4000000, rw := 0xBFFFFFFFFFFFFFFF }

/-- `TSU.SYNC_OUT_NS` (R227). -/
def TSU_SYNC_OUT_NS : Nat := 0x3A0070
def TSU_SYNC_OUT_NS_NS : Fld := ⟨16, 30⟩
def TSU_SYNC_OUT_NS_FRAC : Fld := ⟨0, 16⟩
def TSU_SYNC_OUT_NS_info : RegInfo := { rw := 0x3FFFFFFFFFFF }

/-- `TSU.SYNC_OUT_SEC` (R227). -/
def TSU_SYNC_OUT_SEC : Nat := 0x3A0078
def TSU_SYNC_OUT_SEC_SEC : Fld := ⟨0, 48⟩
def TSU_SYNC_OUT_SEC_info : RegInfo := { rw := 0xFFFFFFFFFFFF }

/-- `TSU.HOLD` (R227). -/
def TSU_HOLD : Nat := 0x3A0100
def TSU_HOLD_ELAPSED : Fld := ⟨0, 64⟩
def TSU_HOLD_info : RegInfo := { }

/-- `TSU.BRIDGE` (R227). -/
def TSU_BRIDGE : Nat := 0x3A0108
def TSU_BRIDGE_HOLD : Fld := ⟨32, 16⟩
def TSU_BRIDGE_XTAL : Fld := ⟨16, 10⟩
def TSU_BRIDGE_END : Fld := ⟨0, 1⟩
def TSU_BRIDGE_info : RegInfo := { reset := 0x1F40000, rw := 0xFFFF00000000, wo := 0x1, rws := 0x3FF0000 }

/-- `TSU.BRIDGE_RATIO` (R227). -/
def TSU_BRIDGE_RATIO : Nat := 0x3A0110
def TSU_BRIDGE_RATIO_VALID : Fld := ⟨63, 1⟩
def TSU_BRIDGE_RATIO_RATIO : Fld := ⟨0, 48⟩
def TSU_BRIDGE_RATIO_info : RegInfo := { }

/-- `TSU.BRIDGE_INT` (R227). -/
def TSU_BRIDGE_INT : Nat := 0x3A0118
def TSU_BRIDGE_INT_NS : Fld := ⟨0, 64⟩
def TSU_BRIDGE_INT_info : RegInfo := { }

/-- `TSU.BRIDGE_UNC` (R227). -/
def TSU_BRIDGE_UNC : Nat := 0x3A0120
def TSU_BRIDGE_UNC_NS : Fld := ⟨0, 64⟩
def TSU_BRIDGE_UNC_info : RegInfo := { }

/-- `TSU.CMP.CTL` (R227). -/
def TSU_CMP_CTL (k : Nat) : Nat := 0x3A0080 + 0x20 * k
def TSU_CMP_CTL_EN : Fld := ⟨63, 1⟩
def TSU_CMP_CTL_PERIOD : Fld := ⟨32, 30⟩
def TSU_CMP_CTL_info : RegInfo := { rw := 0xBFFFFFFF00000000 }

/-- `TSU.CMP.NS` (R227). -/
def TSU_CMP_NS (k : Nat) : Nat := 0x3A0088 + 0x20 * k
def TSU_CMP_NS_NS : Fld := ⟨16, 30⟩
def TSU_CMP_NS_FRAC : Fld := ⟨0, 16⟩
def TSU_CMP_NS_info : RegInfo := { rw := 0x3FFFFFFFFFFF }

/-- `TSU.CMP.SEC` (R227). -/
def TSU_CMP_SEC (k : Nat) : Nat := 0x3A0090 + 0x20 * k
def TSU_CMP_SEC_SEC : Fld := ⟨0, 48⟩
def TSU_CMP_SEC_info : RegInfo := { rw := 0xFFFFFFFFFFFF }

/-! ### MEA -/

/-- `MEA.CTL` (R247). -/
def MEA_CTL (e : Nat) : Nat := 0x3C0000 + 0x100 * e
def MEA_CTL_STEP : Fld := ⟨4, 1⟩
def MEA_CTL_RESUME : Fld := ⟨3, 1⟩
def MEA_CTL_ABORT : Fld := ⟨2, 1⟩
def MEA_CTL_CLEAR : Fld := ⟨1, 1⟩
def MEA_CTL_EN : Fld := ⟨0, 1⟩
def MEA_CTL_info : RegInfo := { rw := 0x1, wo := 0x1E }

/-- `MEA.STATUS` (R247). -/
def MEA_STATUS (e : Nat) : Nat := 0x3C0008 + 0x100 * e
def MEA_STATUS_PC : Fld := ⟨16, 12⟩
def MEA_STATUS_DMA_BUSY : Fld := ⟨13, 1⟩
def MEA_STATUS_MPEND : Fld := ⟨12, 1⟩
def MEA_STATUS_CFG_REFUSED : Fld := ⟨8, 1⟩
def MEA_STATUS_CAUSE : Fld := ⟨4, 4⟩
def MEA_STATUS_STATE : Fld := ⟨0, 3⟩
def MEA_STATUS_info : RegInfo := { w1c := 0x100 }

/-- `MEA.PROG_ADDR` (R247). -/
def MEA_PROG_ADDR (e : Nat) : Nat := 0x3C0020 + 0x100 * e
def MEA_PROG_ADDR_ADDR : Fld := ⟨0, 12⟩
def MEA_PROG_ADDR_info : RegInfo := { rw := 0xFFF }

/-- `MEA.PROG_DATA` (R247). -/
def MEA_PROG_DATA (e : Nat) : Nat := 0x3C0028 + 0x100 * e
def MEA_PROG_DATA_INSTR : Fld := ⟨0, 32⟩
def MEA_PROG_DATA_info : RegInfo := { rw := 0xFFFFFFFF }

/-- `MEA.MEM_ADDR` (R247). -/
def MEA_MEM_ADDR (e : Nat) : Nat := 0x3C0030 + 0x100 * e
def MEA_MEM_ADDR_ADDR : Fld := ⟨3, 13⟩
def MEA_MEM_ADDR_info : RegInfo := { rw := 0xFFF8 }

/-- `MEA.MEM_DATA` (R247). -/
def MEA_MEM_DATA (e : Nat) : Nat := 0x3C0038 + 0x100 * e
def MEA_MEM_DATA_DATA : Fld := ⟨0, 64⟩
def MEA_MEM_DATA_info : RegInfo := { rw := 0xFFFFFFFFFFFFFFFF }

/-- `MEA.LFLAG` (R247). -/
def MEA_LFLAG (e : Nat) : Nat := 0x3C0040 + 0x100 * e
def MEA_LFLAG_DZ : Fld := ⟨16, 16⟩
def MEA_LFLAG_P : Fld := ⟨0, 16⟩
def MEA_LFLAG_info : RegInfo := { w1c := 0xFFFF0000 }

/-- `MEA.MAP` (R247). -/
def MEA_MAP (e : Nat) (m : Nat) : Nat := 0x3C0010 + 0x100 * e + 0x8 * m
def MEA_MAP_BIND : Fld := ⟨0, 64⟩
def MEA_MAP_info : RegInfo := { rw := 0xFFFFFFFFFFFFFFFF }

/-- `MEA.DBGC` (R247). -/
def MEA_DBGC (e : Nat) (k : Nat) : Nat := 0x3C0048 + 0x100 * e + 0x8 * k
def MEA_DBGC_EN : Fld := ⟨63, 1⟩
def MEA_DBGC_ACTION : Fld := ⟨61, 2⟩
def MEA_DBGC_TRIG : Fld := ⟨58, 3⟩
def MEA_DBGC_MASK : Fld := ⟨12, 12⟩
def MEA_DBGC_ADDR : Fld := ⟨0, 12⟩
def MEA_DBGC_info : RegInfo := { rw := 0xFC00000000FFFFFF }

/-- `MEA.TRIG_EN` (R247). -/
def MEA_TRIG_EN (k : Nat) : Nat := 0x3C2000 + 0x8 * k
def MEA_TRIG_EN_ENGINES : Fld := ⟨0, 24⟩
def MEA_TRIG_EN_info : RegInfo := { rw := 0xFFFFFF }

/-! ### CAP -/

/-- `CAP.Q.CTL` (R173). -/
def CAP_Q_CTL (q : Nat) : Nat := 0x3E0000 + 0x80 * q
def CAP_Q_CTL_POST : Fld := ⟨48, 16⟩
def CAP_Q_CTL_SLICE : Fld := ⟨25, 11⟩
def CAP_Q_CTL_TAIL : Fld := ⟨11, 14⟩
def CAP_Q_CTL_BURST : Fld := ⟨9, 2⟩
def CAP_Q_CTL_AUTOSTART : Fld := ⟨8, 1⟩
def CAP_Q_CTL_MODE : Fld := ⟨4, 2⟩
def CAP_Q_CTL_EN : Fld := ⟨0, 1⟩
def CAP_Q_CTL_info : RegInfo := { reset := 0x32600, rw := 0xFFFF000FFFFFFF31 }

/-- `CAP.Q.RING` (R174). -/
def CAP_Q_RING (q : Nat) : Nat := 0x3E0008 + 0x80 * q
def CAP_Q_RING_SIZE : Fld := ⟨16, 9⟩
def CAP_Q_RING_BASE : Fld := ⟨8, 8⟩
def CAP_Q_RING_LAYER : Fld := ⟨7, 1⟩
def CAP_Q_RING_GROUP : Fld := ⟨0, 6⟩
def CAP_Q_RING_info : RegInfo := { reset := 0x20000, rw := 0x1FFFFBF }

/-- `CAP.Q.PORT` (R174). -/
def CAP_Q_PORT (q : Nat) : Nat := 0x3E0010 + 0x80 * q
def CAP_Q_PORT_BOUND : Fld := ⟨13, 1⟩
def CAP_Q_PORT_TOP : Fld := ⟨12, 1⟩
def CAP_Q_PORT_CH : Fld := ⟨6, 6⟩
def CAP_Q_PORT_info : RegInfo := { rw := 0x3FC0 }

/-- `CAP.Q.DRAIN` (R174). -/
def CAP_Q_DRAIN (q : Nat) : Nat := 0x3E0018 + 0x80 * q
def CAP_Q_DRAIN_REGION : Fld := ⟨16, 6⟩
def CAP_Q_DRAIN_WIDTH : Fld := ⟨12, 2⟩
def CAP_Q_DRAIN_CH : Fld := ⟨6, 6⟩
def CAP_Q_DRAIN_info : RegInfo := { reset := 0x3000, rw := 0x3F3FC0 }

/-- `CAP.Q.STATUS` (R175). -/
def CAP_Q_STATUS (q : Nat) : Nat := 0x3E0020 + 0x80 * q
def CAP_Q_STATUS_UNCORR : Fld := ⟨15, 1⟩
def CAP_Q_STATUS_EMPTY : Fld := ⟨14, 1⟩
def CAP_Q_STATUS_OPEN : Fld := ⟨13, 1⟩
def CAP_Q_STATUS_RD_LOST : Fld := ⟨11, 1⟩
def CAP_Q_STATUS_OVF : Fld := ⟨10, 1⟩
def CAP_Q_STATUS_CFG_REFUSED : Fld := ⟨9, 1⟩
def CAP_Q_STATUS_REASON : Fld := ⟨4, 4⟩
def CAP_Q_STATUS_STATE : Fld := ⟨0, 3⟩
def CAP_Q_STATUS_info : RegInfo := { reset := 0x4000, w1c := 0x8E00 }

/-- `CAP.Q.WR` (R176). -/
def CAP_Q_WR (q : Nat) : Nat := 0x3E0028 + 0x80 * q
def CAP_Q_WR_OFFSET : Fld := ⟨0, 24⟩
def CAP_Q_WR_info : RegInfo := { }

/-- `CAP.Q.RD` (R176). -/
def CAP_Q_RD (q : Nat) : Nat := 0x3E0030 + 0x80 * q
def CAP_Q_RD_OFFSET : Fld := ⟨0, 24⟩
def CAP_Q_RD_info : RegInfo := { rw := 0xFFFFFF }

/-- `CAP.Q.CMD` (R176). -/
def CAP_Q_CMD (q : Nat) : Nat := 0x3E0038 + 0x80 * q
def CAP_Q_CMD_REARM : Fld := ⟨4, 1⟩
def CAP_Q_CMD_FREEZE : Fld := ⟨3, 1⟩
def CAP_Q_CMD_STOP : Fld := ⟨2, 1⟩
def CAP_Q_CMD_START : Fld := ⟨1, 1⟩
def CAP_Q_CMD_DROP_REM : Fld := ⟨0, 1⟩
def CAP_Q_CMD_info : RegInfo := { wo := 0x1F }

/-- `CAP.Q.CNT_REC` (R176). -/
def CAP_Q_CNT_REC (q : Nat) : Nat := 0x3E0040 + 0x80 * q
def CAP_Q_CNT_REC_RECORDS : Fld := ⟨0, 64⟩
def CAP_Q_CNT_REC_info : RegInfo := { }

/-- `CAP.Q.CNT_LOSS` (R176). -/
def CAP_Q_CNT_LOSS (q : Nat) : Nat := 0x3E0048 + 0x80 * q
def CAP_Q_CNT_LOSS_LOST : Fld := ⟨32, 32⟩
def CAP_Q_CNT_LOSS_OVERFLOW : Fld := ⟨0, 32⟩
def CAP_Q_CNT_LOSS_info : RegInfo := { rcl := 0xFFFFFFFFFFFFFFFF }

/-- `CAP.Q.CNT_ECC` (R176). -/
def CAP_Q_CNT_ECC (q : Nat) : Nat := 0x3E0050 + 0x80 * q
def CAP_Q_CNT_ECC_CORR : Fld := ⟨32, 32⟩
def CAP_Q_CNT_ECC_UNCORR : Fld := ⟨0, 32⟩
def CAP_Q_CNT_ECC_info : RegInfo := { rcl := 0xFFFFFFFFFFFFFFFF }

/-- `CAP.Q.CNT_DROP` (R176). -/
def CAP_Q_CNT_DROP (q : Nat) : Nat := 0x3E0058 + 0x80 * q
def CAP_Q_CNT_DROP_PROTO : Fld := ⟨48, 16⟩
def CAP_Q_CNT_DROP_DEV : Fld := ⟨32, 16⟩
def CAP_Q_CNT_DROP_DISCARD : Fld := ⟨0, 32⟩
def CAP_Q_CNT_DROP_info : RegInfo := { rcl := 0xFFFFFFFFFFFFFFFF }

/-- `CAP.Q.CNT_FAB` (R176). -/
def CAP_Q_CNT_FAB (q : Nat) : Nat := 0x3E0060 + 0x80 * q
def CAP_Q_CNT_FAB_DROPPED : Fld := ⟨0, 64⟩
def CAP_Q_CNT_FAB_info : RegInfo := { rcl := 0xFFFFFFFFFFFFFFFF }

/-- `CAP.REGION.CFG` (R177). -/
def CAP_REGION_CFG (g : Nat) : Nat := 0x3E8000 + 0x40 * g
def CAP_REGION_CFG_VALID : Fld := ⟨63, 1⟩
def CAP_REGION_CFG_MODE : Fld := ⟨61, 2⟩
def CAP_REGION_CFG_SIZE : Fld := ⟨21, 21⟩
def CAP_REGION_CFG_BASE : Fld := ⟨0, 21⟩
def CAP_REGION_CFG_info : RegInfo := { rw := 0xE00003FFFFFFFFFF }

/-- `CAP.REGION.WR` (R177). -/
def CAP_REGION_WR (g : Nat) : Nat := 0x3E8008 + 0x40 * g
def CAP_REGION_WR_OFFSET : Fld := ⟨0, 41⟩
def CAP_REGION_WR_info : RegInfo := { }

/-- `CAP.REGION.RD` (R177). -/
def CAP_REGION_RD (g : Nat) : Nat := 0x3E8010 + 0x40 * g
def CAP_REGION_RD_OFFSET : Fld := ⟨0, 41⟩
def CAP_REGION_RD_info : RegInfo := { rw := 0x1FFFFFFFFFF }

/-- `CAP.REGION.OLDEST` (R177). -/
def CAP_REGION_OLDEST (g : Nat) : Nat := 0x3E8018 + 0x40 * g
def CAP_REGION_OLDEST_OFFSET : Fld := ⟨0, 41⟩
def CAP_REGION_OLDEST_info : RegInfo := { }

/-- `CAP.REGION.STATUS` (R177). -/
def CAP_REGION_STATUS (g : Nat) : Nat := 0x3E8020 + 0x40 * g
def CAP_REGION_STATUS_WRAPS : Fld := ⟨32, 32⟩
def CAP_REGION_STATUS_FULL : Fld := ⟨1, 1⟩
def CAP_REGION_STATUS_OWNED : Fld := ⟨0, 1⟩
def CAP_REGION_STATUS_info : RegInfo := { }

/-- `CAP.SEQ.CTL` (R178). -/
def CAP_SEQ_CTL : Nat := 0x3EA000
def CAP_SEQ_CTL_ACT_EN : Fld := ⟨23, 1⟩
def CAP_SEQ_CTL_ACT_TOP : Fld := ⟨22, 1⟩
def CAP_SEQ_CTL_ACT_WELL : Fld := ⟨16, 6⟩
def CAP_SEQ_CTL_ACT_CH : Fld := ⟨10, 6⟩
def CAP_SEQ_CTL_START : Fld := ⟨2, 4⟩
def CAP_SEQ_CTL_SWTRIG : Fld := ⟨1, 1⟩
def CAP_SEQ_CTL_RUN : Fld := ⟨0, 1⟩
def CAP_SEQ_CTL_info : RegInfo := { rw := 0xFFFC3D, wo := 0x2 }

/-- `CAP.SEQ.STATE` (R178). -/
def CAP_SEQ_STATE : Nat := 0x3EA008
def CAP_SEQ_STATE_TRANSITIONS : Fld := ⟨32, 32⟩
def CAP_SEQ_STATE_LAST_RULE : Fld := ⟨5, 1⟩
def CAP_SEQ_STATE_CURRENT : Fld := ⟨0, 4⟩
def CAP_SEQ_STATE_info : RegInfo := { }

/-- `CAP.SEQ.LINES` (R178). -/
def CAP_SEQ_LINES : Nat := 0x3EA010
def CAP_SEQ_LINES_LINES : Fld := ⟨0, 64⟩
def CAP_SEQ_LINES_info : RegInfo := { }

/-- `CAP.TRIG_PORT` (R178). -/
def CAP_TRIG_PORT (p : Nat) : Nat := 0x3EA020 + 0x8 * p
def CAP_TRIG_PORT_EN : Fld := ⟨13, 1⟩
def CAP_TRIG_PORT_TOP : Fld := ⟨12, 1⟩
def CAP_TRIG_PORT_WELL : Fld := ⟨6, 6⟩
def CAP_TRIG_PORT_CH : Fld := ⟨0, 6⟩
def CAP_TRIG_PORT_info : RegInfo := { rw := 0x3FFF }

/-- `CAP.TRIG_LANE` (R178). -/
def CAP_TRIG_LANE (k : Nat) : Nat := 0x3EA040 + 0x8 * k
def CAP_TRIG_LANE_EN : Fld := ⟨9, 1⟩
def CAP_TRIG_LANE_EVENT : Fld := ⟨6, 3⟩
def CAP_TRIG_LANE_LANE : Fld := ⟨0, 6⟩
def CAP_TRIG_LANE_info : RegInfo := { rw := 0x3FF }

/-- `CAP.TRIG_Q` (R178). -/
def CAP_TRIG_Q (k : Nat) : Nat := 0x3EA0A0 + 0x8 * k
def CAP_TRIG_Q_EN : Fld := ⟨11, 1⟩
def CAP_TRIG_Q_COND : Fld := ⟨8, 3⟩
def CAP_TRIG_Q_QUEUE : Fld := ⟨0, 8⟩
def CAP_TRIG_Q_info : RegInfo := { rw := 0xFFF }

/-- `CAP.CNT.CFG` (R180). -/
def CAP_CNT_CFG (c : Nat) : Nat := 0x3EA100 + 0x10 * c
def CAP_CNT_CFG_LIMIT : Fld := ⟨32, 32⟩
def CAP_CNT_CFG_STATES : Fld := ⟨16, 16⟩
def CAP_CNT_CFG_MODE : Fld := ⟨7, 1⟩
def CAP_CNT_CFG_LINE : Fld := ⟨0, 6⟩
def CAP_CNT_CFG_info : RegInfo := { rw := 0xFFFFFFFFFFFF00BF }

/-- `CAP.CNT.VALUE` (R180). -/
def CAP_CNT_VALUE (c : Nat) : Nat := 0x3EA108 + 0x10 * c
def CAP_CNT_VALUE_COUNT : Fld := ⟨0, 32⟩
def CAP_CNT_VALUE_info : RegInfo := { }

/-- `CAP.TMR.CFG` (R180). -/
def CAP_TMR_CFG (c : Nat) : Nat := 0x3EA140 + 0x10 * c
def CAP_TMR_CFG_LIMIT : Fld := ⟨24, 40⟩
def CAP_TMR_CFG_STATES : Fld := ⟨0, 16⟩
def CAP_TMR_CFG_info : RegInfo := { rw := 0xFFFFFFFFFF00FFFF }

/-- `CAP.TMR.VALUE` (R180). -/
def CAP_TMR_VALUE (c : Nat) : Nat := 0x3EA148 + 0x10 * c
def CAP_TMR_VALUE_COUNT : Fld := ⟨0, 40⟩
def CAP_TMR_VALUE_info : RegInfo := { }

/-- `CAP.SEQ.GROUP` (R178). -/
def CAP_SEQ_GROUP (g : Nat) (w : Nat) : Nat := 0x3EA200 + 0x20 * g + 0x8 * w
def CAP_SEQ_GROUP_QUEUES : Fld := ⟨0, 64⟩
def CAP_SEQ_GROUP_info : RegInfo := { rw := 0xFFFFFFFFFFFFFFFF }

/-- `CAP.RULE.MASK` (R179). -/
def CAP_RULE_MASK (t : Nat) (k : Nat) : Nat := 0x3EA400 + 0x40 * t + 0x20 * k
def CAP_RULE_MASK_MASK : Fld := ⟨0, 64⟩
def CAP_RULE_MASK_info : RegInfo := { rw := 0xFFFFFFFFFFFFFFFF }

/-- `CAP.RULE.CTL` (R179). -/
def CAP_RULE_CTL (t : Nat) (k : Nat) : Nat := 0x3EA408 + 0x40 * t + 0x20 * k
def CAP_RULE_CTL_GROUP : Fld := ⟨30, 2⟩
def CAP_RULE_CTL_TRST : Fld := ⟨26, 4⟩
def CAP_RULE_CTL_CRST : Fld := ⟨22, 4⟩
def CAP_RULE_CTL_ACT : Fld := ⟨18, 4⟩
def CAP_RULE_CTL_EVT : Fld := ⟨17, 1⟩
def CAP_RULE_CTL_TREC : Fld := ⟨16, 1⟩
def CAP_RULE_CTL_STOP : Fld := ⟨15, 1⟩
def CAP_RULE_CTL_START : Fld := ⟨14, 1⟩
def CAP_RULE_CTL_FREEZE : Fld := ⟨13, 1⟩
def CAP_RULE_CTL_EN : Fld := ⟨12, 1⟩
def CAP_RULE_CTL_NEXT : Fld := ⟨8, 4⟩
def CAP_RULE_CTL_EVENT : Fld := ⟨4, 4⟩
def CAP_RULE_CTL_MODE : Fld := ⟨0, 2⟩
def CAP_RULE_CTL_info : RegInfo := { rw := 0xFFFFFFF3 }

/-! ### THM -/

/-- `THM.CTL` (R361). -/
def THM_CTL : Nat := 0x400000
def THM_CTL_TARGET : Fld := ⟨32, 8⟩
def THM_CTL_HOT : Fld := ⟨12, 11⟩
def THM_CTL_HOLD : Fld := ⟨1, 11⟩
def THM_CTL_EN : Fld := ⟨0, 1⟩
def THM_CTL_info : RegInfo := { reset := 0x5F00200065, rw := 0xFF007FFFFF }

/-- `THM.BUDGET` (R361). -/
def THM_BUDGET : Nat := 0x400008
def THM_BUDGET_LAYER_B : Fld := ⟨16, 16⟩
def THM_BUDGET_LAYER_A : Fld := ⟨0, 16⟩
def THM_BUDGET_info : RegInfo := { reset := 0x3840384, rw := 0xFFFFFFFF }

/-- `THM.POWER` (R361). -/
def THM_POWER : Nat := 0x400010
def THM_POWER_LAYER_B : Fld := ⟨16, 16⟩
def THM_POWER_LAYER_A : Fld := ⟨0, 16⟩
def THM_POWER_info : RegInfo := { }

/-- `THM.STATUS` (R361). -/
def THM_STATUS : Nat := 0x400018
def THM_STATUS_LIMIT : Fld := ⟨3, 1⟩
def THM_STATUS_THROTTLE : Fld := ⟨2, 1⟩
def THM_STATUS_OVER : Fld := ⟨1, 1⟩
def THM_STATUS_ACTIVE : Fld := ⟨0, 1⟩
def THM_STATUS_info : RegInfo := { w1c := 0xE }

/-- `THM.WEAR_CTL` (R362). -/
def THM_WEAR_CTL : Nat := 0x400020
def THM_WEAR_CTL_WORST : Fld := ⟨16, 3⟩
def THM_WEAR_CTL_NARROW : Fld := ⟨12, 4⟩
def THM_WEAR_CTL_MARGIN : Fld := ⟨0, 8⟩
def THM_WEAR_CTL_info : RegInfo := { reset := 0xA, rws := 0xFF }

/-- `THM.WEAR` (R362). -/
def THM_WEAR (j : Nat) : Nat := 0x400100 + 0x8 * j
def THM_WEAR_CYCLES : Fld := ⟨40, 24⟩
def THM_WEAR_CONSUMED : Fld := ⟨0, 40⟩
def THM_WEAR_info : RegInfo := { }

/-- `THM.LIFE` (R362). -/
def THM_LIFE (j : Nat) : Nat := 0x400140 + 0x8 * j
def THM_LIFE_RATE : Fld := ⟨32, 32⟩
def THM_LIFE_REMAIN : Fld := ⟨0, 32⟩
def THM_LIFE_info : RegInfo := { }

/-- `THM.SENS` (R362). -/
def THM_SENS (k : Nat) : Nat := 0x401000 + 0x8 * k
def THM_SENS_FAILED : Fld := ⟨17, 1⟩
def THM_SENS_VALID : Fld := ⟨16, 1⟩
def THM_SENS_TEMP : Fld := ⟨0, 16⟩
def THM_SENS_info : RegInfo := { }

/-! ### GIO -/

/-- `GIO.CFG` (R136). -/
def GIO_CFG (k : Nat) : Nat := 0x440000 + 0x8 * k
def GIO_CFG_INVERT : Fld := ⟨17, 1⟩
def GIO_CFG_IDELAY : Fld := ⟨11, 6⟩
def GIO_CFG_DRIVE : Fld := ⟨9, 2⟩
def GIO_CFG_ODT : Fld := ⟨8, 1⟩
def GIO_CFG_PULL : Fld := ⟨7, 1⟩
def GIO_CFG_DYN_OE : Fld := ⟨6, 1⟩
def GIO_CFG_RATE : Fld := ⟨4, 2⟩
def GIO_CFG_MODE : Fld := ⟨0, 3⟩
def GIO_CFG_info : RegInfo := { reset := 0x80, rw := 0x3FFF7 }

/-- `GIO.WAKE_EN` (R136). -/
def GIO_WAKE_EN : Nat := 0x440200
def GIO_WAKE_EN_PINS : Fld := ⟨0, 64⟩
def GIO_WAKE_EN_info : RegInfo := { rws := 0xFFFFFFFFFFFFFFFF }

/-- `GIO.WAKE_POL` (R136). -/
def GIO_WAKE_POL : Nat := 0x440208
def GIO_WAKE_POL_PINS : Fld := ⟨0, 64⟩
def GIO_WAKE_POL_info : RegInfo := { rws := 0xFFFFFFFFFFFFFFFF }

/-! ### EVT -/

/-- `EVT.BASE` (R415). -/
def EVT_BASE : Nat := 0x480000
def EVT_BASE_ADDR : Fld := ⟨12, 52⟩
def EVT_BASE_EN : Fld := ⟨0, 1⟩
def EVT_BASE_info : RegInfo := { rw := 0xFFFFFFFFFFFFF001 }

/-- `EVT.CFG` (R415). -/
def EVT_CFG : Nat := 0x480008
def EVT_CFG_VECTOR : Fld := ⟨16, 9⟩
def EVT_CFG_SIZE : Fld := ⟨0, 4⟩
def EVT_CFG_info : RegInfo := { rw := 0x1FF000F }

/-- `EVT.HEAD` (R415). -/
def EVT_HEAD : Nat := 0x480010
def EVT_HEAD_COUNT : Fld := ⟨0, 64⟩
def EVT_HEAD_info : RegInfo := { rw := 0xFFFFFFFFFFFFFFFF }

/-- `EVT.TAIL` (R415). -/
def EVT_TAIL : Nat := 0x480018
def EVT_TAIL_COUNT : Fld := ⟨0, 64⟩
def EVT_TAIL_info : RegInfo := { }

/-- `EVT.LOST` (R415). -/
def EVT_LOST : Nat := 0x480020
def EVT_LOST_COUNT : Fld := ⟨0, 32⟩
def EVT_LOST_info : RegInfo := { rcl := 0xFFFFFFFF }

/-- The registers of block GLB by offset from BAR0 (R540). -/
def regInfoGLB (o : Nat) : Option RegInfo :=
  if o = 0x0 then some GLB_ID_info else
  if o = 0x8 then some GLB_FEATURE_info else
  if o = 0x10 then some GLB_CAPACITY_info else
  if o = 0x18 then some GLB_STATUS_info else
  if o = 0x20 then some GLB_SCRATCH_info else
  none

/-- The registers of block CLK by offset from BAR0 (R540). -/
def regInfoCLK (o : Nat) : Option RegInfo :=
  if o = 0x10000 then some CLK_STATUS_info else
  if o = 0x10008 then some CLK_GATE_SEL_info else
  if o = 0x10010 then some CLK_GATE_info else
  if o = 0x10018 then some CLK_FMETER_CTL_info else
  if o = 0x10020 then some CLK_FMETER_RES_info else
  none

/-- The registers of block PWR by offset from BAR0 (R540). -/
def regInfoPWR (o : Nat) : Option RegInfo :=
  if o = 0x20000 then some PWR_CTL_info else
  if o = 0x20008 then some PWR_STATUS_info else
  if o = 0x20010 then some PWR_WAKE_EN_info else
  if o = 0x20018 then some PWR_WAKE_CAUSE_info else
  if o = 0x20020 then some PWR_WAKE_TIME_info else
  if o = 0x20028 then some PWR_AON_COUNT_info else
  if o = 0x20030 then some PWR_DOM_SEL_info else
  if o = 0x20038 then some PWR_DOM_CTL_info else
  none

/-- The registers of block RST by offset from BAR0 (R540). -/
def regInfoRST (o : Nat) : Option RegInfo :=
  if o = 0x30000 then some RST_CTL_info else
  if o = 0x30008 then some RST_DOM_info else
  if o = 0x30010 then some RST_STATUS_info else
  if o = 0x30018 then some RST_CAUSE_info else
  none

/-- The registers of block SEC by offset from BAR0 (R540). -/
def regInfoSEC (o : Nat) : Option RegInfo :=
  if o = 0x40000 then some SEC_STATUS_info else
  if o = 0x40008 then some SEC_SERIAL_LO_info else
  if o = 0x40010 then some SEC_SERIAL_HI_info else
  if o = 0x40018 then some SEC_DEBUG_info else
  if 0x40100 ≤ o ∧ o < 0x40180 then
    let k := (o - 0x40100) % 0x8
    if k = 0x0 then some SEC_SLOT_info else
    none
  else
  none

/-- The registers of block SUP by offset from BAR0 (R540). -/
def regInfoSUP (o : Nat) : Option RegInfo :=
  if o = 0x50000 then some SUP_STATUS_info else
  if o = 0x50008 then some SUP_RECOVERY_info else
  if o = 0x50010 then some SUP_RECOVERY_TARGET_info else
  if 0x50020 ≤ o ∧ o < 0x50038 then
    let k := (o - 0x50020) % 0x8
    if k = 0x0 then some SUP_WDOG_info else
    none
  else
  none

/-- The registers of block DBG by offset from BAR0 (R540). -/
def regInfoDBG (o : Nat) : Option RegInfo :=
  if o = 0x60000 then some DBG_PEEK_info else
  if o = 0x60008 then some DBG_ATTACH_info else
  if 0x60100 ≤ o ∧ o < 0x60700 then
    let k := (o - 0x60100) % 0x200
    if k = 0x0 then some DBG_CORE_CTL_info else
    if k = 0x8 then some DBG_CORE_STATUS_info else
    if k = 0x10 then some DBG_CORE_DIR_info else
    if k = 0x18 then some DBG_CORE_DDATA_info else
    if k = 0x20 then some DBG_CORE_ACC_ADDR_info else
    if k = 0x28 then some DBG_CORE_ACC_DATA_info else
    if k = 0x80 then some DBG_CORE_VT_TO_info else
    if k = 0x88 then some DBG_CORE_VT_FROM_info else
    if k = 0x90 then some DBG_CORE_VT_STATUS_info else
    if 0x40 ≤ k ∧ k < 0x80 ∧ (k - 0x40) % 0x8 = 0 then some DBG_CORE_CMP_info else
    if 0x100 ≤ k ∧ k < 0x180 ∧ (k - 0x100) % 0x8 = 0 then some DBG_CORE_PATCH_info else
    none
  else
  none

/-- The registers of block QIF by offset from BAR0 (R540). -/
def regInfoQIF (o : Nat) : Option RegInfo :=
  if o = 0x80000 then some QIF_JOURNAL_info else
  if o = 0x80008 then some QIF_STATUS_info else
  if o = 0x80010 then some QIF_BAR4_WIN_info else
  if o = 0x80018 then some QIF_BAR4_ERR_info else
  if 0x81000 ≤ o ∧ o < 0x82000 then
    let k := (o - 0x81000) % 0x10
    if k = 0x0 then some QIF_RING_CB_info else
    if k = 0x8 then some QIF_RING_STATUS_info else
    none
  else
  none

/-- The registers of block SCH by offset from BAR0 (R540). -/
def regInfoSCH (o : Nat) : Option RegInfo :=
  if o = 0xC0000 then some SCH_STORE_info else
  if o = 0xC0008 then some SCH_SPILL_info else
  if o = 0xC0010 then some SCH_STATUS_info else
  if o = 0xC0018 then some SCH_RECON_info else
  if o = 0xC0020 then some SCH_CNT_ACCEPT_info else
  if o = 0xC0028 then some SCH_CNT_SPILL_info else
  if o = 0xC0030 then some SCH_FLOW_SEL_info else
  if o = 0xC0038 then some SCH_FLOW_DATA_info else
  if 0xC1000 ≤ o ∧ o < 0xC1400 then
    let k := (o - 0xC1000) % 0x8
    if k = 0x0 then some SCH_TP_info else
    none
  else
  if 0xE0000 ≤ o ∧ o < 0xE3000 then
    let k := (o - 0xE0000) % 0x100
    if k = 0x0 then some SCH_PLY_CFG_info else
    if k = 0x8 then some SCH_PLY_FEED_info else
    if k = 0x10 then some SCH_PLY_FABRIC_info else
    if k = 0x18 then some SCH_PLY_STATUS_info else
    if k = 0x20 then some SCH_PLY_GAP_WORD_info else
    if k = 0x28 then some SCH_PLY_FRAMES_info else
    if k = 0x30 then some SCH_PLY_CNT_UNDER_info else
    if k = 0x38 then some SCH_PLY_START_ACT_info else
    none
  else
  if 0xE4000 ≤ o ∧ o < 0xE4200 then
    let k := (o - 0xE4000) % 0x40
    if k = 0x0 then some SCH_SGL_CFG_info else
    if k = 0x8 then some SCH_SGL_STATUS_info else
    none
  else
  none

/-- The registers of block RING by offset from BAR0 (R540). -/
def regInfoRING (o : Nat) : Option RegInfo :=
  if o = 0x100000 then some RING_CTL_info else
  if o = 0x100008 then some RING_TBL_CTL_info else
  if o = 0x100010 then some RING_TBL_SEL_info else
  if o = 0x100018 then some RING_TBL_DATA_info else
  if o = 0x100200 then some RING_ERR_info else
  if 0x100100 ≤ o ∧ o < 0x1001C0 then
    let k := (o - 0x100100) % 0x20
    if k = 0x0 then some RING_STAT_FLITS_info else
    if k = 0x8 then some RING_STAT_C0_FLITS_info else
    if k = 0x10 then some RING_STAT_C0_MAXWAIT_info else
    if k = 0x18 then some RING_STAT_CIRCLED_info else
    none
  else
  none

/-- The registers of block PRB by offset from BAR0 (R540). -/
def regInfoPRB (o : Nat) : Option RegInfo :=
  if o = 0x141000 then some PRB_CTL_info else
  if o = 0x141008 then some PRB_TRACE_CTL_info else
  if o = 0x141010 then some PRB_TRACE_PTR_info else
  if 0x140000 ≤ o ∧ o < 0x140400 then
    let k := (o - 0x140000) % 0x40
    if k = 0x0 then some PRB_P_CFG_info else
    if k = 0x8 then some PRB_P_MATCH_info else
    if k = 0x10 then some PRB_P_MASK_info else
    if k = 0x18 then some PRB_P_ADDR_LO_info else
    if k = 0x20 then some PRB_P_ADDR_HI_info else
    if k = 0x28 then some PRB_P_CNT_PKT_info else
    if k = 0x30 then some PRB_P_CNT_FLIT_info else
    if k = 0x38 then some PRB_P_CNT_WAIT_info else
    none
  else
  none

/-- The registers of block CFG by offset from BAR0 (R540). -/
def regInfoCFG (o : Nat) : Option RegInfo :=
  if o = 0x180000 then some CFG_STATUS_info else
  if o = 0x180008 then some CFG_POLICY_info else
  if o = 0x180010 then some CFG_STACK_SIG_info else
  if o = 0x180100 then some CFG_SCRUB_info else
  if o = 0x180108 then some CFG_SCRUB_LOG_info else
  if 0x180020 ≤ o ∧ o < 0x180060 then
    let k := (o - 0x180020) % 0x10
    if k = 0x0 then some CFG_SLOT_INFO_info else
    if k = 0x8 then some CFG_SLOT_VER_info else
    none
  else
  none

/-- The registers of block FAB by offset from BAR0 (R540). -/
def regInfoFAB (o : Nat) : Option RegInfo :=
  if o = 0x1CE000 then some FAB_BM_PERR_info else
  if o = 0x1CE008 then some FAB_ILLOP_info else
  if o = 0x1CE010 then some FAB_DIR_PERR_info else
  if o = 0x1CE100 then some FAB_SNAP_CTL_info else
  if o = 0x1CE118 then some FAB_SNAP_TIME_info else
  if 0x1C0000 ≤ o ∧ o < 0x1C2000 then
    let k := (o - 0x1C0000) % 0x40
    if k = 0x0 then some FAB_ERG_CTX_info else
    if k = 0x8 then some FAB_ERG_STATUS_info else
    if k = 0x10 then some FAB_ERG_PLANES_info else
    if k = 0x18 then some FAB_ERG_ISO_info else
    if k = 0x20 then some FAB_ERG_SNAP_info else
    if k = 0x28 then some FAB_ERG_LOCK_info else
    if k = 0x30 then some FAB_ERG_SHADE_info else
    none
  else
  if 0x1CE108 ≤ o ∧ o < 0x1CE118 then
    let k := (o - 0x1CE108) % 0x8
    if k = 0x0 then some FAB_SNAP_MASK_info else
    none
  else
  none

/-- The registers of block WELL by offset from BAR0 (R540). -/
def regInfoWELL (o : Nat) : Option RegInfo :=
  if o = 0x200000 then some WELL_CTL_info else
  if o = 0x200008 then some WELL_MAP_GEN_info else
  if o = 0x200010 then some WELL_SEL_info else
  if o = 0x200018 then some WELL_XDATA_info else
  if o = 0x200020 then some WELL_ERR_info else
  if o = 0x200028 then some WELL_REPLAY_info else
  none

/-- The registers of block OAS by offset from BAR0 (R540). -/
def regInfoOAS (o : Nat) : Option RegInfo :=
  if o = 0x242000 then some OAS_RMP_SEL_info else
  if o = 0x242008 then some OAS_RMP_DATA_info else
  if o = 0x242010 then some OAS_CONF_SEL_info else
  if o = 0x242018 then some OAS_CONF_DATA_info else
  if o = 0x242020 then some OAS_CONF_CTL_info else
  if o = 0x242080 then some OAS_TEST_ADDR_info else
  if o = 0x242088 then some OAS_TEST_DATA_info else
  if o = 0x242090 then some OAS_TEST_CHECK_info else
  if o = 0x242098 then some OAS_TEST_CTL_info else
  if 0x240000 ≤ o ∧ o < 0x242000 then
    let k := (o - 0x240000) % 0x40
    if k = 0x0 then some OAS_G_CTL_info else
    if k = 0x8 then some OAS_G_FPORT_info else
    if k = 0x10 then some OAS_G_STATUS_info else
    if k = 0x18 then some OAS_G_ERR_info else
    if k = 0x20 then some OAS_G_ERR_LOG_info else
    none
  else
  if 0x242040 ≤ o ∧ o < 0x242050 then
    let k := (o - 0x242040) % 0x8
    if k = 0x0 then some OAS_BIST_info else
    none
  else
  none

/-- The registers of block DRMC by offset from BAR0 (R540). -/
def regInfoDRMC (o : Nat) : Option RegInfo :=
  if o = 0x2A0100 then some DRMC_MAP_STATUS_info else
  if 0x280000 ≤ o ∧ o < 0x2A0000 then
    let k := (o - 0x280000) % 0x1000
    if k = 0x0 then some DRMC_CTL_info else
    if k = 0x8 then some DRMC_STATUS_info else
    if k = 0x10 then some DRMC_GEOM_info else
    if k = 0x18 then some DRMC_RH_info else
    if k = 0x20 then some DRMC_RH_LOG_info else
    if k = 0x28 then some DRMC_ERR_info else
    if k = 0x30 then some DRMC_ERR2_info else
    if k = 0x38 then some DRMC_ERR_LOG_info else
    if k = 0x40 then some DRMC_REMAP_SEL_info else
    if k = 0x48 then some DRMC_REMAP_DATA_info else
    if k = 0x50 then some DRMC_SCRUB_info else
    if k = 0x58 then some DRMC_CMD_info else
    if k = 0x60 then some DRMC_CNT_RD_info else
    if k = 0x68 then some DRMC_CNT_WR_info else
    none
  else
  if 0x2A0000 ≤ o ∧ o < 0x2A0100 then
    let k := (o - 0x2A0000) % 0x10
    if k = 0x0 then some DRMC_WIN_CFG_info else
    if k = 0x8 then some DRMC_WIN_MASK_info else
    none
  else
  none

/-- The registers of block CRY by offset from BAR0 (R540). -/
def regInfoCRY (o : Nat) : Option RegInfo :=
  if o = 0x300600 then some CRY_DRIFT_CTL_info else
  if o = 0x300608 then some CRY_DRIFT_STATUS_info else
  if o = 0x300610 then some CRY_DRIFT_BOUNDARY_info else
  if o = 0x300618 then some CRY_DRIFT_CHECKPOINT_info else
  if o = 0x300700 then some CRY_ERR_LOG_info else
  if o = 0x300708 then some CRY_CMD_STATUS_info else
  if 0x300000 ≤ o ∧ o < 0x300400 then
    let k := (o - 0x300000) % 0x40
    if k = 0x0 then some CRY_DOM_CFG_info else
    if k = 0x8 then some CRY_DOM_KEY_info else
    if k = 0x20 then some CRY_DOM_STATUS_info else
    if 0x10 ≤ k ∧ k < 0x20 ∧ (k - 0x10) % 0x8 = 0 then some CRY_DOM_RIGHTS_info else
    none
  else
  if 0x300400 ≤ o ∧ o < 0x300480 then
    let k := (o - 0x300400) % 0x10
    if k = 0x0 then some CRY_STRICT_CFG_info else
    if k = 0x8 then some CRY_STRICT_WRAPS_info else
    none
  else
  if 0x300500 ≤ o ∧ o < 0x300510 then
    let k := (o - 0x300500) % 0x8
    if k = 0x0 then some CRY_OAS_RIGHTS_info else
    none
  else
  none

/-- The registers of block LANE by offset from BAR0 (R540). -/
def regInfoLANE (o : Nat) : Option RegInfo :=
  if 0x340000 ≤ o ∧ o < 0x358000 then
    let k := (o - 0x340000) % 0x800
    if k = 0x0 then some LANE_CFG_info else
    if k = 0x8 then some LANE_RATE_info else
    if k = 0x10 then some LANE_PORT_info else
    if k = 0x18 then some LANE_STATUS_info else
    if k = 0x20 then some LANE_EQ_SET_info else
    if k = 0x28 then some LANE_ERRCNT_info else
    if k = 0x30 then some LANE_TX_FILL_info else
    if k = 0x38 then some LANE_ALIGN_info else
    if k = 0x40 then some LANE_ALIGN_CTL_info else
    if k = 0x48 then some LANE_MARGIN_info else
    if k = 0x50 then some LANE_MARGIN_RES_info else
    if k = 0x58 then some LANE_WAKE_info else
    if k = 0x60 then some LANE_WAKE_PAT0_info else
    if k = 0x68 then some LANE_WAKE_PAT1_info else
    if 0x100 ≤ k ∧ k < 0x1C0 ∧ (k - 0x100) % 0x18 = 0 then some LANE_EQ_KEY_info else
    if 0x108 ≤ k ∧ k < 0x1C8 ∧ (k - 0x108) % 0x18 = 0 then some LANE_EQ_TX_info else
    if 0x110 ≤ k ∧ k < 0x1D0 ∧ (k - 0x110) % 0x18 = 0 then some LANE_EQ_RX_info else
    none
  else
  none

/-- The registers of block FEC by offset from BAR0 (R540). -/
def regInfoFEC (o : Nat) : Option RegInfo :=
  if 0x380000 ≤ o ∧ o < 0x380C00 then
    let k := (o - 0x380000) % 0x100
    if k = 0x0 then some FEC_CTL_info else
    if 0x20 ≤ k ∧ k < 0x40 ∧ (k - 0x20) % 0x8 = 0 then some FEC_CW_info else
    if 0x40 ≤ k ∧ k < 0x60 ∧ (k - 0x40) % 0x8 = 0 then some FEC_CORR_info else
    if 0x60 ≤ k ∧ k < 0x80 ∧ (k - 0x60) % 0x8 = 0 then some FEC_UNCORR_info else
    none
  else
  none

/-- The registers of block TSU by offset from BAR0 (R540). -/
def regInfoTSU (o : Nat) : Option RegInfo :=
  if o = 0x3A0000 then some TSU_CTL_info else
  if o = 0x3A0008 then some TSU_STATUS_info else
  if o = 0x3A0010 then some TSU_NOW_NS_info else
  if o = 0x3A0018 then some TSU_NOW_SEC_info else
  if o = 0x3A0020 then some TSU_NOW_STAMP_info else
  if o = 0x3A0028 then some TSU_SET_NS_info else
  if o = 0x3A0030 then some TSU_SET_SEC_info else
  if o = 0x3A0038 then some TSU_EPOCH_NS_info else
  if o = 0x3A0040 then some TSU_EPOCH_SEC_info else
  if o = 0x3A0048 then some TSU_SYNC_IN_info else
  if o = 0x3A0050 then some TSU_SYNC_LOAD_NS_info else
  if o = 0x3A0058 then some TSU_SYNC_LOAD_SEC_info else
  if o = 0x3A0060 then some TSU_SYNC_STAMP_info else
  if o = 0x3A0068 then some TSU_SYNC_OUT_info else
  if o = 0x3A0070 then some TSU_SYNC_OUT_NS_info else
  if o = 0x3A0078 then some TSU_SYNC_OUT_SEC_info else
  if o = 0x3A0100 then some TSU_HOLD_info else
  if o = 0x3A0108 then some TSU_BRIDGE_info else
  if o = 0x3A0110 then some TSU_BRIDGE_RATIO_info else
  if o = 0x3A0118 then some TSU_BRIDGE_INT_info else
  if o = 0x3A0120 then some TSU_BRIDGE_UNC_info else
  if 0x3A0080 ≤ o ∧ o < 0x3A0100 then
    let k := (o - 0x3A0080) % 0x20
    if k = 0x0 then some TSU_CMP_CTL_info else
    if k = 0x8 then some TSU_CMP_NS_info else
    if k = 0x10 then some TSU_CMP_SEC_info else
    none
  else
  none

/-- The registers of block MEA by offset from BAR0 (R540). -/
def regInfoMEA (o : Nat) : Option RegInfo :=
  if 0x3C0000 ≤ o ∧ o < 0x3C1800 then
    let k := (o - 0x3C0000) % 0x100
    if k = 0x0 then some MEA_CTL_info else
    if k = 0x8 then some MEA_STATUS_info else
    if k = 0x20 then some MEA_PROG_ADDR_info else
    if k = 0x28 then some MEA_PROG_DATA_info else
    if k = 0x30 then some MEA_MEM_ADDR_info else
    if k = 0x38 then some MEA_MEM_DATA_info else
    if k = 0x40 then some MEA_LFLAG_info else
    if 0x10 ≤ k ∧ k < 0x20 ∧ (k - 0x10) % 0x8 = 0 then some MEA_MAP_info else
    if 0x48 ≤ k ∧ k < 0x58 ∧ (k - 0x48) % 0x8 = 0 then some MEA_DBGC_info else
    none
  else
  if 0x3C2000 ≤ o ∧ o < 0x3C2040 then
    let k := (o - 0x3C2000) % 0x8
    if k = 0x0 then some MEA_TRIG_EN_info else
    none
  else
  none

/-- The registers of block CAP by offset from BAR0 (R540). -/
def regInfoCAP (o : Nat) : Option RegInfo :=
  if o = 0x3EA000 then some CAP_SEQ_CTL_info else
  if o = 0x3EA008 then some CAP_SEQ_STATE_info else
  if o = 0x3EA010 then some CAP_SEQ_LINES_info else
  if 0x3E0000 ≤ o ∧ o < 0x3E8000 then
    let k := (o - 0x3E0000) % 0x80
    if k = 0x0 then some CAP_Q_CTL_info else
    if k = 0x8 then some CAP_Q_RING_info else
    if k = 0x10 then some CAP_Q_PORT_info else
    if k = 0x18 then some CAP_Q_DRAIN_info else
    if k = 0x20 then some CAP_Q_STATUS_info else
    if k = 0x28 then some CAP_Q_WR_info else
    if k = 0x30 then some CAP_Q_RD_info else
    if k = 0x38 then some CAP_Q_CMD_info else
    if k = 0x40 then some CAP_Q_CNT_REC_info else
    if k = 0x48 then some CAP_Q_CNT_LOSS_info else
    if k = 0x50 then some CAP_Q_CNT_ECC_info else
    if k = 0x58 then some CAP_Q_CNT_DROP_info else
    if k = 0x60 then some CAP_Q_CNT_FAB_info else
    none
  else
  if 0x3E8000 ≤ o ∧ o < 0x3E9000 then
    let k := (o - 0x3E8000) % 0x40
    if k = 0x0 then some CAP_REGION_CFG_info else
    if k = 0x8 then some CAP_REGION_WR_info else
    if k = 0x10 then some CAP_REGION_RD_info else
    if k = 0x18 then some CAP_REGION_OLDEST_info else
    if k = 0x20 then some CAP_REGION_STATUS_info else
    none
  else
  if 0x3EA020 ≤ o ∧ o < 0x3EA040 then
    let k := (o - 0x3EA020) % 0x8
    if k = 0x0 then some CAP_TRIG_PORT_info else
    none
  else
  if 0x3EA040 ≤ o ∧ o < 0x3EA0A0 then
    let k := (o - 0x3EA040) % 0x8
    if k = 0x0 then some CAP_TRIG_LANE_info else
    none
  else
  if 0x3EA0A0 ≤ o ∧ o < 0x3EA0C0 then
    let k := (o - 0x3EA0A0) % 0x8
    if k = 0x0 then some CAP_TRIG_Q_info else
    none
  else
  if 0x3EA100 ≤ o ∧ o < 0x3EA140 then
    let k := (o - 0x3EA100) % 0x10
    if k = 0x0 then some CAP_CNT_CFG_info else
    if k = 0x8 then some CAP_CNT_VALUE_info else
    none
  else
  if 0x3EA140 ≤ o ∧ o < 0x3EA180 then
    let k := (o - 0x3EA140) % 0x10
    if k = 0x0 then some CAP_TMR_CFG_info else
    if k = 0x8 then some CAP_TMR_VALUE_info else
    none
  else
  if 0x3EA200 ≤ o ∧ o < 0x3EA280 then
    let k := (o - 0x3EA200) % 0x20
    if 0x0 ≤ k ∧ k < 0x20 ∧ (k - 0x0) % 0x8 = 0 then some CAP_SEQ_GROUP_info else
    none
  else
  if 0x3EA400 ≤ o ∧ o < 0x3EA800 then
    let k := (o - 0x3EA400) % 0x40
    if 0x0 ≤ k ∧ k < 0x40 ∧ (k - 0x0) % 0x20 = 0 then some CAP_RULE_MASK_info else
    if 0x8 ≤ k ∧ k < 0x48 ∧ (k - 0x8) % 0x20 = 0 then some CAP_RULE_CTL_info else
    none
  else
  none

/-- The registers of block THM by offset from BAR0 (R540). -/
def regInfoTHM (o : Nat) : Option RegInfo :=
  if o = 0x400000 then some THM_CTL_info else
  if o = 0x400008 then some THM_BUDGET_info else
  if o = 0x400010 then some THM_POWER_info else
  if o = 0x400018 then some THM_STATUS_info else
  if o = 0x400020 then some THM_WEAR_CTL_info else
  if 0x400100 ≤ o ∧ o < 0x400138 then
    let k := (o - 0x400100) % 0x8
    if k = 0x0 then some THM_WEAR_info else
    none
  else
  if 0x400140 ≤ o ∧ o < 0x400178 then
    let k := (o - 0x400140) % 0x8
    if k = 0x0 then some THM_LIFE_info else
    none
  else
  if 0x401000 ≤ o ∧ o < 0x401800 then
    let k := (o - 0x401000) % 0x8
    if k = 0x0 then some THM_SENS_info else
    none
  else
  none

/-- The registers of block GIO by offset from BAR0 (R540). -/
def regInfoGIO (o : Nat) : Option RegInfo :=
  if o = 0x440200 then some GIO_WAKE_EN_info else
  if o = 0x440208 then some GIO_WAKE_POL_info else
  if 0x440000 ≤ o ∧ o < 0x440200 then
    let k := (o - 0x440000) % 0x8
    if k = 0x0 then some GIO_CFG_info else
    none
  else
  none

/-- The registers of block EVT by offset from BAR0 (R540). -/
def regInfoEVT (o : Nat) : Option RegInfo :=
  if o = 0x480000 then some EVT_BASE_info else
  if o = 0x480008 then some EVT_CFG_info else
  if o = 0x480010 then some EVT_HEAD_info else
  if o = 0x480018 then some EVT_TAIL_info else
  if o = 0x480020 then some EVT_LOST_info else
  none

/-- What stands at a BAR0 offset: the register there, or none (R539). The comparators of core 2 are two, and its VT registers
do not exist (R537). -/
def regInfo (o : Nat) : Option RegInfo :=
  if o % 8 ≠ 0 then none else
  if (DBG_CORE_CMP 2 2 ≤ o ∧ o < DBG_CORE_CMP 2 8) ∨ (DBG_CORE_VT_TO 2 ≤ o ∧ o ≤ DBG_CORE_VT_STATUS 2) then none else
  if o < 0x10000 then regInfoGLB o else
  if o < 0x20000 then regInfoCLK o else
  if o < 0x30000 then regInfoPWR o else
  if o < 0x40000 then regInfoRST o else
  if o < 0x50000 then regInfoSEC o else
  if o < 0x60000 then regInfoSUP o else
  if o < 0x80000 then regInfoDBG o else
  if o < 0xC0000 then regInfoQIF o else
  if o < 0x100000 then regInfoSCH o else
  if o < 0x140000 then regInfoRING o else
  if o < 0x180000 then regInfoPRB o else
  if o < 0x1C0000 then regInfoCFG o else
  if o < 0x200000 then regInfoFAB o else
  if o < 0x240000 then regInfoWELL o else
  if o < 0x280000 then regInfoOAS o else
  if o < 0x300000 then regInfoDRMC o else
  if o < 0x340000 then regInfoCRY o else
  if o < 0x380000 then regInfoLANE o else
  if o < 0x3A0000 then regInfoFEC o else
  if o < 0x3C0000 then regInfoTSU o else
  if o < 0x3E0000 then regInfoMEA o else
  if o < 0x400000 then regInfoCAP o else
  if o < 0x440000 then regInfoTHM o else
  if o < 0x480000 then regInfoGIO o else
  if o < 0x4C0000 then regInfoEVT o else
  none

/-- The value of the register at a BAR0 offset after power-on reset, by the field tables (fused, stored and computed fields are 0 here). Slot 0 holds the transport
key of manufacture, its last accepted value one below the ceiling 4,096 (R466, R474, R475). -/
def regReset (o : Nat) : Data :=
  if o = SEC_SLOT 0 then 0x4000000000000FFF else
  match regInfo o with
  | some r => BitVec.ofNat 64 r.reset
  | none => 0

/-- Whether an offset lies in a block of class X (R538). -/
def classX (o : Nat) : Bool :=
  (0xC0000 ≤ o && o < 0x180000) || (0x1C0000 ≤ o && o < 0x480000)

end Sys2Proof.Machine
end

