-- ==== Sys2Proof/Machine/SMap.lean ====
section
/-!
DEFINITION. Sparse storage: a list of (key, value) pairs in one canonical form. Keys rise strictly and no entry equals what an
unlisted key reads as, so that equal contents are equal data. `d` is what an unlisted key reads as.
-/
namespace Sys2Proof.Machine

/-- A sparse map from numbers. -/
structure SMap (α : Type) where
  cells : List (Nat × α) := []
deriving DecidableEq, Repr

variable {α : Type}

/-- The value listed for a key. -/
def SMap.findCell (k : Nat) : List (Nat × α) → Option α
  | [] => none
  | (j, v) :: r => if j = k then some v else SMap.findCell k r

/-- The cells with a key's entry replaced or put in its place. -/
def SMap.insertCell (k : Nat) (v : α) : List (Nat × α) → List (Nat × α)
  | [] => [(k, v)]
  | (j, w) :: r => if k < j then (k, v) :: (j, w) :: r else if j = k then (k, v) :: r else (j, w) :: SMap.insertCell k v r

/-- The cells without a key's entry. -/
def SMap.eraseCell (k : Nat) : List (Nat × α) → List (Nat × α)
  | [] => []
  | (j, w) :: r => if j = k then SMap.eraseCell k r else (j, w) :: SMap.eraseCell k r

/-- Read a key. -/
def SMap.get (m : SMap α) (d : Nat → α) (k : Nat) : α := (SMap.findCell k m.cells).getD (d k)

/-- Write a key; writing what an unlisted key reads as removes the entry. -/
def SMap.set [DecidableEq α] (m : SMap α) (d : Nat → α) (k : Nat) (v : α) : SMap α :=
  if v = d k then { cells := SMap.eraseCell k m.cells } else { cells := SMap.insertCell k v m.cells }

/-- Change the value of a key. -/
def SMap.upd [DecidableEq α] (m : SMap α) (d : Nat → α) (k : Nat) (f : α → α) : SMap α := m.set d k (f (m.get d k))

/-- Whether the keys of a list of cells rise strictly from above a bound. -/
def SMap.rising : List (Nat × α) → Bool
  | [] => true
  | (j, _) :: r => r.all (fun c => decide (j < c.1)) && SMap.rising r

/-- The canonical form. -/
def SMap.wf [DecidableEq α] (m : SMap α) (d : Nat → α) : Bool :=
  SMap.rising m.cells && m.cells.all (fun c => decide (c.2 ≠ d c.1))

/-- The map of the first `n` keys given by a function. -/
def SMap.tab [DecidableEq α] (n : Nat) (d : Nat → α) (f : Nat → α) : SMap α :=
  { cells := (List.range n).filterMap (fun k => let v := f k; if v = d k then none else some (k, v)) }

/-- The keys listed. -/
def SMap.keys (m : SMap α) : List Nat := m.cells.map (·.1)

/-- A map without the entries whose keys lie in a range. -/
def SMap.dropRange (m : SMap α) (lo len : Nat) : SMap α :=
  { cells := m.cells.filter (fun c => !(decide (lo ≤ c.1) && decide (c.1 < lo + len))) }

/-- Every listed value changed by a function, in the canonical form of a map whose unlisted keys read as `d`. -/
def SMap.mapVals [DecidableEq α] (m : SMap α) (d : α) (f : α → α) : SMap α :=
  { cells := m.cells.filterMap (fun (c : Nat × α) => let v := f c.2; if v = d then none else some (c.1, v)) }

end Sys2Proof.Machine
end

