-- ==== Sys2Proof/Machine/StCap.lean ====
section
/-!
DEFINITION. What the capture queues, regions and the trigger sequencer hold beside their registers (chapter 05).
-/
namespace Sys2Proof.Machine

/-- Marks of a stamp (R170): time spent in holdover, and the bridged interval with its uncertainty. -/
structure TimeMark where
  hold : Option Nat := none
  bridge : Option (Nat × Nat) := none
deriving DecidableEq, Repr

/-- A record open at a port (R148): what its first beat gave, the payload stored, and the length offered. -/
structure OpenRec where
  stamp : BitVec 64
  source : Nat
  user : Bool
  err : Bool
  mark : TimeMark
  bytes : List Byte := []
  offered : Nat := 0
  /-- Records the producer has dropped since its previous record (R146). -/
  drops : Nat := 0
deriving DecidableEq, Repr

/-- A committed record in the ring: its place in the stream of bytes written since enable, its length, whether it is a data record,
and whether the drain found it damaged. -/
structure RingRec where
  pos : Nat
  len : Nat
  isData : Bool
  damaged : Bool := false
deriving DecidableEq, Repr

/-- A device record raised and not yet placed (R144, R152): its kind, stamp, marks and payload. -/
structure DevRec where
  kind : Nat
  stamp : BitVec 64
  mark : TimeMark
  payload : List Byte
deriving DecidableEq, Repr

/-- A drain burst on its way to the region (R155, R160): the bytes taken from the ring, those written with any pad, whether they end
the tail with a pad, and the status of the write. -/
structure Burst where
  taken : Nat
  bytes : List Byte
  padded : Bool
  status : Nat
deriving DecidableEq, Repr

/-- A capture queue. Positions count bytes since the ring was emptied; the ring offset is the position modulo the ring's size. -/
structure CapQSt where
  wr : Nat := 0
  rd : Nat := 0
  recs : List RingRec := []
  open_ : Option OpenRec := none
  /-- The open record's later beats are refused: it was discarded for lack of space (R153). -/
  spill : Bool := false
  seq : Nat := 0
  lost : Nat := 0
  dev : List DevRec := []
  devBytes : Nat := 0
  post : Nat := 0
  burst : Option Burst := none
  /-- FCK count plus one of the last beat taken, and of the last action of the sequencer applied. -/
  beatAt : Nat := 0
  actAt : Nat := 0
deriving DecidableEq, Repr

/-- A capture region (R159, R160): the stream position written and the record starts still held, oldest first, and bytes written
that do not yet make a whole record. -/
structure RegionSt where
  written : Nat := 0
  whole : Nat := 0
  rdPos : Nat := 0
  starts : List Nat := []
  queue : Option Nat := none
deriving DecidableEq, Repr

/-- A queue action under way (R167): the FCK count at which it takes effect on each layer, the queues as a mask, what it does, and
the trigger record raised. -/
structure QAction where
  atA : Nat
  atB : Nat
  doneA : Bool := false
  doneB : Bool := false
  queues : BitVec 256
  freeze : Bool
  start : Bool
  stop : Bool
  trec : Option DevRec
deriving DecidableEq, Repr

/-- The trigger matrix and the sequencer (R162 to R167), newest edge first: `lines` the line values of the last edges, `srcs` the
sources of the lines that come two cycles late. `pulses` are sources that occurred since the last edge; `expired` the counters (bits
0 to 3) and timers (bits 4 to 7) known to have expired; `ran` is one more than the FCK count from which RUN acts. -/
structure SeqSt where
  lines : List (BitVec 64) := []
  srcs : List (BitVec 64) := []
  pulses : BitVec 64 := 0
  swtrig : Bool := false
  expired : Nat := 0
  actions : List QAction := []
  actWord : BitVec 32 := 0
  ran : Nat := 0
deriving DecidableEq, Repr

/-- The capture unit. -/
structure CapSt where
  qs : SMap CapQSt := {}
  regions : SMap RegionSt := {}
  seq : SeqSt := {}
deriving DecidableEq, Repr

end Sys2Proof.Machine
end

