-- ==== Sys2Proof/Machine/StFabric.lean ====
section
/-!
DEFINITION. What the fabric holds beside its registers: cells, dunes, contexts, planes, the switch machinery of an erg, the
values on the well channels, the table of claims (chapters 02, 03, 12).
-/
namespace Sys2Proof.Machine

/-- A latency-2 operation between its two stages (R40, R42, R62): a product on its way to ACC, or a block-memory word on its way
to the output register, with the instruction word that took its operands. -/
inductive Pipe where
  | mac (p : BitVec 48) (ins : BitVec 48)
  | bm (word : BitVec 32) (perr : Bool) (ins : BitVec 48)
deriving DecidableEq, Repr

/-- A cell's user state (R30) and its second-stage pipeline register (R62). -/
structure CellSt where
  q : BitVec 32 := 0
  f : Bool := false
  l0 : BitVec 32 := 0
  l1 : BitVec 32 := 0
  l2 : BitVec 32 := 0
  l3 : BitVec 32 := 0
  acc : BitVec 48 := 0
  pipe : Option Pipe := none
deriving DecidableEq, Repr

/-- A word with its parity flag, as a block-memory output register holds it (R42, R47). -/
structure BmOut where
  word : BitVec 32 := 0
  perr : Bool := false
deriving DecidableEq, Repr

/-- A dune's context state (R62): cells, block-memory output registers by 2m + p, port-0 reads in flight by m, track outputs by
4s + t, well outputs by j. -/
structure DuneSt where
  cells : SMap CellSt := {}
  bmOut : SMap BmOut := {}
  bmPipe : SMap (Option BmOut) := {}
  trk : SMap (BitVec 32) := {}
  well : SMap (BitVec 32) := {}
deriving DecidableEq, Repr

/-- A frame's payload of 2,560 bytes, byte 0 in bits 7:0 (R446, R447). -/
abbrev Payload := BitVec 20480

/-- The direction fields of a channel's 16 data lanes on one bond (R80): lane j's field in bits 3j + 1:3j, its even-parity bit in
bit 3j + 2. -/
abbrev DirWord := BitVec 48

/-- A plane (R59): the payload of each of its 16 dunes, the image it came from, the saved state of its context or a snapshot
with what R83 records beside it. `dirs` holds its direction fields of well lanes by bond × 64 + channel, `pinDir` the field of its
GIO pin (R80). Its state code stands in FAB.ERG[i].PLANES. -/
structure PlaneSt where
  frames : SMap Payload := {}
  dirs : SMap DirWord := {}
  pinDir : BitVec 3 := 0
  imageId : BitVec 64 := 0
  mapGen : BitVec 32 := 0
  saved : SMap DuneSt := {}
  snapIso : Bool := false
  snapSettle : Nat := 0
  /-- It uses moved channels and becomes STALE when it is switched out (R337). -/
  staleDue : Bool := false
  /-- The active plane holds an uncorrectable word: it becomes INVALID when it is switched out (R463). -/
  badDue : Bool := false
deriving DecidableEq, Repr

/-- The source of a switch request (R65, R91). -/
inductive SwSrc where
  | register
  | dispatch
  | flag
  | link
  | lockstep
deriving DecidableEq, Repr

/-- A switch request: its source, its target context and the ungated edges left to its switch edge (R65). -/
structure SwReq where
  src : SwSrc
  target : Nat
  left : Nat
deriving DecidableEq, Repr

/-- Settling after a switch (R71): none, a number of isolated edges left, or until the ready cell writes F = 1. -/
inductive Settle where
  | none
  | count (left : Nat)
  | ready
deriving DecidableEq, Repr

/-- Memory frames staged for one context of an erg (R449): part payloads of 512 words by dune × 32 + memory × 8 + part. -/
structure Staging where
  ctx : Nat
  parts : SMap (Option (BitVec 16384)) := {}
deriving DecidableEq, Repr

/-- An erg. `expIn` is keyed by dune × 4 + side, `wellIn` by dune × 8 + input. -/
structure ErgSt where
  planes : SMap PlaneSt := {}
  live : SMap DuneSt := {}
  expIn : SMap (BitVec 32) := {}
  wellIn : SMap (BitVec 32) := {}
  staging : Option Staging := none
  pend : List SwReq := []
  held : Option SwReq := none
  due : Option SwReq := none
  settle : Settle := .none
  /-- ISO.FORCE has been cleared and the edge E of R562 has not passed. -/
  forceEnd : Bool := false
  /-- RELEASE has been written while new content waits: it starts without settling (R72, R76). -/
  relEnd : Bool := false
  /-- The engine writes, or has failed to write, the active plane: the clock is gated (R76, R560). -/
  loadGate : Bool := false
  /-- New content of the active plane waits for the first edge after FORCE is cleared (R76). -/
  newContent : Bool := false
  /-- The FCK count of the last switch edge and the context it left (R84). -/
  swAt : Nat := 0
  swFrom : Option Nat := none
  /-- Cells and contexts already detected under R38, as dune × 512 + cell × 8 + context. -/
  illop : List Nat := []
  /-- The CRCs of the last edges of a lockstep erg, newest first (R89). -/
  crcs : List (BitVec 32) := []
  /-- What a twin's isolation registers would hold if it wrote them as its primary does (R88, R89, log entry 116). -/
  shadow : SMap DuneSt := {}
  /-- Ready cell has written F = 1 at the last edge (R71). -/
  readySeen : Bool := false
deriving DecidableEq, Repr

/-- A value launched onto a channel at one edge: how far it is bound (die code) and the bits that errors flip beyond a bond. -/
structure ChanVal where
  v : BitVec 32 := 0
  far : Nat := 0
  errs : List (Nat × BitVec 32) := []
deriving DecidableEq, Repr

/-- Who holds a claim (R77, R79). -/
inductive Claimant where
  | ctx (erg : Nat) (ctx : Nat) (dune : Nat)
  | laneRx (n : Nat)
  | laneTx (n : Nat)
  | playerFeed (p : Nat)
  | playerFabric (p : Nat)
  | oasis (g : Nat)
  | gio (k : Nat)
  | actionWord
  | queuePort (q : Nat)
  | queueDrain (q : Nat)
  | taskPort (i : Nat)
deriving DecidableEq, Repr

/-- A claim: a channel of a well on bonds `lo` to `hi`, or a GIO pin (R77). -/
inductive Claimed where
  | chan (well ch lo hi : Nat)
  | pin (k : Nat)
deriving DecidableEq, Repr

/-- An accepted claim (R78). -/
structure Claim where
  who : Claimant
  what : Claimed
deriving DecidableEq, Repr

/-- A bundle crossing (R331 to R336): its XDATA, the home of its state, the swap in progress as (failing lane, spare), lanes
waiting for it, and the FCK edge at which a detour took the channels. -/
structure CrossSt where
  xdata : BitVec 64 := 0
  swap : Option (Nat × Nat) := none
  waiting : List Nat := []
  movedAt : Nat := 0
  /-- Lane carried by spare s, by s. -/
  carries : SMap Nat := {}
  /-- The corrections of the last 2^20 beats, as (lane of the word, upwards, beat) (R331). -/
  corrs : List (Nat × Bool × Nat) := []
deriving DecidableEq, Repr

/-- One direction of a riser crossing (R340): the transfers not yet acknowledged with their numbers, and the next number each
side uses, and what has been delivered and not yet taken. -/
structure RiserSt where
  nextSend : Nat := 0
  replay : List (Nat × List Byte) := []
  expected : Nat := 0
  delivered : List (List Byte) := []
deriving DecidableEq, Repr

/-- A well lane disabled by a direction-parity fault (R81): well, bundle, bond and lane. -/
structure DirOff where
  well : Nat
  bundle : Nat
  bond : Nat
  lane : Nat
deriving DecidableEq, Repr

/-- Direction fields copied into a well stop, with the erg they came from (R80). -/
structure StopDir where
  owner : Nat := 0
  word : DirWord := 0
deriving DecidableEq, Repr

/-- A GIO pin's direction field in the pad ring, with the erg it came from (R80). -/
structure PadDir where
  owner : Nat := 0
  field : BitVec 3 := 0
deriving DecidableEq, Repr

/-- The fabric. `dirs` holds the direction fields in the stops by (well × 8 + bond) × 64 + channel, `padDirs` those of the pad ring by
pin. `bm` holds block-memory words with their parity by dune × 16,384 + memory × 4,096 + address; `chan` the last
values launched on a channel, newest first, by channel key; `cross` the bundle crossings by well × 256 + bundle × 8 + bond. -/
structure FabSt where
  ergs : SMap ErgSt := {}
  bm : SMap (BitVec 36) := {}
  chan : SMap (List ChanVal) := {}
  claims : List Claim := []
  dirs : SMap StopDir := {}
  padDirs : SMap PadDir := {}
  dirOff : List DirOff := []
  gioOff : List Nat := []
  cross : SMap CrossSt := {}
  risers : SMap RiserSt := {}
  /-- Crossing states not yet written to the stack repair record (R335). -/
  repairDue : List Nat := []
  /-- A snapshot pending: the edges within which it is taken, and whether it is taken at the last of them (R83). -/
  snap : Option (Nat × Bool) := none
deriving DecidableEq, Repr

end Sys2Proof.Machine
end

