-- ==== Sys2Proof/Machine/StHost.lean ====
section
/-!
DEFINITION. Host memory and link, rings, work items, the scheduler, the journal and the events (chapters 15, 16, 20).
-/
namespace Sys2Proof.Machine

/-- A transfer to the host held while the link is down, oldest first (R410): a write of bytes, or a message of a vector. -/
inductive HeldOp where
  | write (addr : Nat) (bytes : List Byte)
  | message (vector : Nat)
deriving DecidableEq, Repr

/-- The host side (R389 to R392, R410). `msix` holds the MSI-X table's 64-bit words by entry × 2 + half, `pba` the pending bits
by vector; `sent` the vectors signalled, newest first; `answer` what the last read of a BAR or a data window returned, none for
Completer Abort. -/
structure HostSt where
  mem : SMap Byte := {}
  linkUp : Bool := true
  present : Bool := true
  busMaster : Bool := true
  /-- log2 of BAR4's size in bytes, 30 to 36: 64 GiB unless the host resizes it in configuration space (R389; log entry 48). -/
  bar4 : Nat := 36
  held : List HeldOp := []
  msix : SMap Data := {}
  pba : SMap Bool := {}
  sent : List Nat := []
  answer : Option (List Byte) := some []
  aer : Nat := 0
deriving DecidableEq, Repr

/-- An event as the store's event log keeps it (R409). -/
structure EventRec where
  stamp : BitVec 64
  code : Nat
  die : Nat
  sev : Nat
  seq : Nat
  data : BitVec 128
deriving DecidableEq, Repr

/-- The events: the number of the next one, whether events were lost for lack of room since the last record, and the event log
of the configuration store, newest first (R409). -/
structure EvtSt where
  next : Nat := 0
  loss : Bool := false
  log : List EventRec := []
deriving DecidableEq, Repr

/-- How an item ended (R406, R407). -/
structure Result where
  status : Nat
  detail : Nat := 0
  count : Nat := 0
deriving DecidableEq, Repr

/-- An accepted item (R396, R399): its ring and WSN, its descriptor and extension as written by the host (byte 0 in bits 7:0), its
flow sequence, its tag, its entry into the ready stage and the flags its completion will carry (R405). `settled` is the result
that reconciliation gave it without performing it. -/
structure Item where
  ring : Nat
  wsn : Nat
  desc : BitVec 512
  ext : Option (BitVec 512) := none
  flowSeq : Nat := 0
  tag : Nat := 0
  readyNo : Nat := 0
  late : Bool := false
  resumed : Bool := false
  handed : Bool := false
  /-- Delivered to another erg's port by a move of the shade planner (R425). -/
  movedTo : Option Nat := none
  settled : Option Result := none
  /-- An item's authentication has been verified (R404). -/
  verified : Bool := false
  /-- One more than the device time, in ns, at which a sandglass item reached its list, and the device time from which the boundaries count
  for it: it was inserted then, or device time was moved to then (R195, R197). -/
  reach : Nat := 0
  since : Nat := 0
  /-- Its write to the spill region was refused or failed: it is read again from the submission ring (R420). -/
  spillBad : Bool := false
  /-- Its release time in ns, fixed when it is inserted (R401). -/
  rel : Nat := 0
  /-- The FCK count at which it became ready (R350). -/
  readyAt : Nat := 0
deriving DecidableEq, Repr

/-- Where an item stands with its executor (R433). -/
inductive JPhase where
  | fresh
  | reading
  | effective
deriving DecidableEq, Repr

/-- The item an executor performs. `step` is the executor's own progress, `cancel` a stop asked for by CANCEL (R407). -/
structure Running where
  item : Item
  phase : JPhase := .fresh
  result : Option Result := none
  step : Nat := 0
  cancel : Bool := false
deriving DecidableEq, Repr

/-- An executor instance: its ready queue, in order, and the item it performs (R416). -/
structure ExecSt where
  queue : List Item := []
  cur : Option Running := none
deriving DecidableEq, Repr

/-- A completion waiting in the reorder store under its tag (R418, R426). -/
structure Finished where
  item : Item
  res : Result
  released : Bool := false
deriving DecidableEq, Repr

/-- A flow's next flow sequence and next release sequence (R427). -/
structure FlowSt where
  next : Nat := 0
  release : Nat := 0
deriving DecidableEq, Repr

/-- The scheduler (R416 to R427). `tags` are the tags in use; tags below 4,096 are those reserved for class 0. `held` is by
sandglass list and sorted (R195). -/
structure SchedSt where
  /-- Items that an executor was performing when it was reset, by executor, until reconciliation settles them (R429, R434). -/
  lost : List (Nat × Running) := []
  /-- The scheduler store has been cleared since the journal was last valid with it (R430). -/
  storeLost : Bool := false
  c0 : List Item := []
  ready : List Item := []
  readyNo : Nat := 0
  held : SMap (List Item) := {}
  execs : SMap ExecSt := {}
  reorder : SMap (Option Finished) := {}
  tags : List Nat := []
  flows : SMap FlowSt := {}
  taskReply : SMap Nat := {}
deriving DecidableEq, Repr

/-- A ring pair beside its registers (R393 to R399, R408): the cached control block, the device words, the doorbells acted on and
recorded, the descriptor queue and spilled items, the WSNs accepted and not released (with their number of entries), those
accepted and not consumed, the tags awaiting confirmation, and interrupt moderation. -/
structure RingSt where
  sqBase : Nat := 0
  sqLog2 : Nat := 0
  cqLog2 : Nat := 0
  vector : Nat := 0
  modUs : Nat := 0
  cqBase : Nat := 0
  accept : Nat := 0
  done : Nat := 0
  cqCount : Nat := 0
  confirmed : Nat := 0
  lastTail : Nat := 0
  lastHead : Nat := 0
  recTail : Option Nat := none
  recHead : Option Nat := none
  queue : List Item := []
  spilled : List Item := []
  order : List (Nat × Nat) := []
  unconsumed : List Nat := []
  /-- The completion number of the first of `unconsumed`. -/
  unBase : Nat := 0
  confirming : List Nat := []
  modRun : Bool := false
  modPend : Bool := false
  /-- A read of the control block is outstanding (R395, R426). -/
  cbRead : Bool := false
  /-- The block was read at enabling with ACCEPT not zero: its words wait to be adopted (R395, R435). -/
  adopted : Bool := false
deriving DecidableEq, Repr

/-- A journal entry (R432): bytes 16 to 63 stand in `body`, byte 16 in bits 7:0. -/
structure JEntry where
  wsn : Nat := 0
  ring : Nat := 0
  state : Nat := 0
  opc : Nat := 0
  writes : Nat := 0
  body : BitVec 384 := 0
deriving DecidableEq, Repr

/-- The ring words of the retained journal (R430). -/
structure RetRing where
  accept : Nat := 0
  done : Nat := 0
  cqCount : Nat := 0
  confirmed : Nat := 0
  lastTail : Nat := 0
deriving DecidableEq, Repr

/-- The retained journal (R430) and the departure in progress (R411). -/
structure JournalSt where
  valid : Bool := false
  entries : SMap JEntry := {}
  rings : SMap RetRing := {}
  /-- Entries written at departure, when its journal read is outstanding. -/
  departing : Option Nat := none
  /-- A departure is owed once the recovery step in progress completes, or after a reset (R412). -/
  departDue : Bool := false
deriving DecidableEq, Repr

end Sys2Proof.Machine
end

