-- ==== Sys2Proof/Machine/StLanes.lean ====
section
/-!
DEFINITION. What a port lane, an FEC block and a GIO pin hold beside their registers (chapter 04).
-/
namespace Sys2Proof.Machine

/-- A grain with its tag and its error mark (R109, R110). -/
structure Grain where
  data : BitVec 64 := 0
  tag : Nat := 0
  err : Bool := false
deriving DecidableEq, Repr

/-- A received grain on its way to the base-die stop: the FCK count from which it may be written there, its ARRIVAL (R110, R113)
and the codeword it belongs to. -/
structure RxGrain where
  due : Nat
  g : Grain
  arrival : Nat
  cw : Nat := 0
deriving DecidableEq, Repr

/-- The framing state of a receiver (R115, R117), fed one bit at a time. `win` holds the last 64 bits (the newest on top), `acc`
the bits of the grain or codeword being formed, `pos` how many of them there are. -/
structure RxFrame where
  win : BitVec 64 := 0
  acc : Nat := 0
  pos : Nat := 0
  hdr : Nat := 0
  /-- Lock counting: consecutive good blocks or matches; headers of the last 64 blocks that were invalid; consecutive misses. -/
  good : Nat := 0
  bad : List Bool := []
  misses : Nat := 0
  /-- The lock rule is met (R117). -/
  sync : Bool := false
  /-- The loss rule has been met since (R117). -/
  lost : Bool := false
  /-- Codewords since the last marker, and the number of the codeword. -/
  cwIdx : Nat := 0
  cwNo : Nat := 0
  /-- Grains left of an ordered set, and the grain's place in its flit. -/
  osLeft : Nat := 0
  flitPos : Nat := 0
  started : Bool := false
deriving DecidableEq, Repr

/-- What a transmitter will send in a cycle: grains demanded by the pace word of TX_LEAD cycles before, or nothing demanded yet
(R111, R563). -/
inductive TxDemand where
  | demanded (n : Nat)
  | starting
deriving DecidableEq, Repr

/-- A margin point (R120, R134, R238): the engine and MAC lane that started it, or none for MARGIN.GO, the power of two of UI it runs, the
eye it samples, and its signed offsets as their fields hold them. -/
structure MargRun where
  owner : Option (Nat × Nat) := none
  dwell : Nat := 10
  eye : Nat := 1
  volt : Nat := 0
  phase : Nat := 0
deriving DecidableEq, Repr

/-- The transmit pins (R104): electrical idle, the levels driven in the last cycle, or high impedance. -/
inductive TxPins where
  | idle
  | levels (l : List Nat)
  | highZ
deriving DecidableEq, Repr

/-- A lane. Counts named run* are the running FEC counters of R119. -/
structure LaneSt where
  /-- The equalisation settings copied at enable (R106): the KEY, TX and RX registers of the chosen entry. -/
  rxEq : Option (BitVec 64 × BitVec 64 × BitVec 64) := none
  txEq : Option (BitVec 64 × BitVec 64 × BitVec 64) := none
  /-- P of the last symbol (R101). -/
  rxP : Nat := 0
  txP : Nat := 0
  fr : RxFrame := {}
  rxQ : List RxGrain := []
  /-- Bits on their way to the pins, by the FCK count at which they reach them, and bits there that wait for their UI. -/
  txWait : List (Nat × List Bool) := []
  txBits : List Bool := []
  pins : TxPins := .idle
  /-- Remainders of the grain demand and of the symbols sent, and the demands made and not yet met, oldest first. -/
  demandAcc : Nat := 0
  symAcc : Nat := 0
  demands : List TxDemand := []
  /-- Place in the transmit block structure, and the bits of the message so far (R116). -/
  txPos : Nat := 0
  txMsg : List Bool := []
  /-- The margin point in progress. -/
  margin : Option MargRun := none
  runCw : Nat := 0
  runCorr : Nat := 0
  runUncorr : Nat := 0
  /-- An uncorrectable codeword ended at the last edge (R178). -/
  badCw : Bool := false
  runThr : Nat := 0
deriving DecidableEq, Repr

/-- A GIO pin (R125): bits of the input group being sampled, groups on their way to the stop, the group being sent and its
driver, groups on their way to the pin, and the level at the pin. -/
structure GioSt where
  inAcc : List Bool := []
  inQ : List (Nat × BitVec 8) := []
  inWord : BitVec 8 := 0
  outQ : List (Nat × BitVec 8 × Bool) := []
  outGroup : BitVec 8 := 0
  driving : Bool := false
  level : Bool := false
deriving DecidableEq, Repr

end Sys2Proof.Machine
end

