-- ==== Sys2Proof/Machine/StMem.lean ====
section
/-!
DEFINITION. What the oases, the memory controllers and the encryption engine hold beside their registers (chapters 09, 10, 11).
-/
namespace Sys2Proof.Machine

/-- An entry of an oasis bank's remap table with the spare word behind it (R262): row, poison, found by the self-test, and 72 stored
bits. -/
structure OasSpare where
  row : Nat
  poison : Bool
  selfTest : Bool
  word : BitVec 72
deriving DecidableEq, Repr

/-- A command taken at a fabric port (R259): the FCK count at which it is answered, data and status. -/
structure OasAnswer where
  due : Nat
  data : BitVec 64
  status : Nat
deriving DecidableEq, Repr

/-- A ring access that waits for its group (R266, R380). -/
structure HeldAcc where
  id : Nat
  req : Nat
  off : Nat
  acc : MemAcc
deriving DecidableEq, Repr

/-- An oasis group (R248 to R262). Spares are keyed by bank × 8 + entry; `wbs` are words whose corrected value waits for a free
slot, as (word number, corrected 72 bits). -/
structure OasGrp where
  spares : SMap (Option OasSpare) := {}
  answers : List OasAnswer := []
  wbs : List (Nat × BitVec 72) := []
  held : List HeldAcc := []
  /-- FCK count plus one of the last edge whose port command was taken. -/
  cmdAt : Nat := 0
  /-- FCK count plus one of the cycle of the last accesses; in that cycle, the slots asked for, as (bank, requester, write), and the
  read-modify-writes, as (word, the word written) (R253, R255). -/
  usedAt : Nat := 0
  used : List (Nat × Nat × Bool) := []
  rmws : List (Nat × BitVec 72) := []
  /-- Spare words that the self-test found bad, as bank × 8 + entry (R266). -/
  badSpares : List Nat := []
deriving DecidableEq, Repr

/-- The oases: words with their check bits by group × 2^21 + word number, conflict counters by (group × 8 + bank) × 64 + requester. -/
structure OasSt where
  words : SMap (BitVec 72) := {}
  grps : SMap OasGrp := {}
  conf : SMap Nat := {}
deriving DecidableEq, Repr

/-- A line of DRAM: its stored bytes and its metadata entry (R279, R280). -/
structure DramLine where
  data : BitVec 512 := 0
  ent : BitVec 64 := 0
deriving DecidableEq, Repr

/-- What a line request does: a read, or a write with a mask of the bytes written. -/
inductive LineOp where
  | read
  | write (data : BitVec 512) (mask : BitVec 64)
deriving DecidableEq, Repr

/-- A translated request waiting at a controller (R274, R303): its number, requester, key domain, address in the DRAM address space,
local line, and whether the requester reads plaintext. -/
structure DramReq where
  id : Nat
  req : Nat
  dom : Nat
  addr : Nat
  line : Nat
  plain : Bool
  op : LineOp
deriving DecidableEq, Repr

/-- The answer of a request that was put as a command of its own. -/
structure MemAns where
  id : Nat
  status : Nat
  bytes : List Byte := []
deriving DecidableEq, Repr

/-- A remap entry of a controller with its spare line (R288). -/
structure DramSpare where
  line : Nat
  poison : Bool
  /-- 0 uncorrectable read, 1 write-back not clean. -/
  cause : Nat
  val : DramLine
deriving DecidableEq, Repr

/-- A controller (R273, R283 to R293). `acts` counts activations by requester × 32 + bank + 128 × 32 × channel … as `actKey` says;
`openRow` is by channel and bank; `throttled` lists (requester, bank); `refDue` the banks owed a refresh-management command;
`retrain` the channels retraining or waiting for it, the first in progress; `fails` the failures of a channel's retraining in a row;
`rate` the last refresh-rate report by channel; `cache` the metadata lines that a channel's cache holds, each with its set. -/
structure CtlSt where
  lines : SMap DramLine := {}
  queue : List DramReq := []
  spares : SMap (Option DramSpare) := {}
  /-- Spare lines that failed themselves (R290). -/
  dead : List Nat := []
  wbs : List (Nat × DramLine) := []
  acts : SMap Nat := {}
  openRow : SMap (Option Nat) := {}
  throttled : List (Nat × Nat) := []
  refDue : List Nat := []
  cache : SMap (List (Nat × BitVec 512)) := {}
  retrain : List Nat := []
  fails : SMap Nat := {}
  rate : SMap (Option Nat) := {}
  /-- Contents are kept over the training in progress (R295). -/
  keep : Bool := false
  /-- The state from which a domain reset took the controller (R296), or in which it was parked when that was training or clearing. -/
  resetFrom : Nat := 0
  /-- How the controller's next reads of lines fare on the link, where their command does not say (R272, R287). -/
  linkErrs : List ReadErrs := []
deriving DecidableEq, Repr

/-- What memory as a whole holds beside the registers: the number of the next request, the last answers, whether the set-up of window 0
and key domain 0 is still to follow training (R277, R307), the drift's uncertain zone (R321), and the checkpoint it waits for (R320). -/
structure MemSt where
  nextId : Nat := 0
  answers : List MemAns := []
  setUp : Bool := true
  setKeys : Bool := true
  zone : Bool := false
  /-- A checkpoint recorded and not yet confirmed; the wait exceeds 1 ms. -/
  ckpt : Option Bool := none
  /-- The core whose access of a ring address waits, and its byte within the line (R526). -/
  dbgCore : Nat := 0
  dbgOff : Nat := 0
deriving DecidableEq, Repr

end Sys2Proof.Machine
end

