-- ==== Sys2Proof/Machine/StPlay.lean ====
section
/-!
DEFINITION. What a pattern player and a measurement engine hold beside their registers (chapters 06 and 08).
-/
namespace Sys2Proof.Machine

/-- A place in the walk of a segment list (R186): the entry, further repetitions of it (none where it has not begun), the grain within
it, the four loop counters (none is idle), the pass, the entries walked since a data grain, and whether a frame is open. -/
structure WalkPos where
  entry : Nat := 0
  rep : Option Nat := none
  grain : Nat := 0
  lvl : List (Option Nat) := [none, none, none, none]
  pass : Nat := 0
  barren : Nat := 0
  inFrame : Bool := false
deriving DecidableEq, Repr

/-- What stands in a player's buffer (R184, R186): a data grain with its tag, whether it begins a frame and, where it ends one, the
place at which the walk goes on; gap grains; the end of a frame whose last grain has left the buffer; a read's error or a pattern
fault where the walk met it; the end of the item. -/
inductive BufGrain where
  | data (g : BitVec 64) (tag : Nat) (first : Bool) (last : Option WalkPos)
  | gap (n : Nat)
  | endFrame (next : WalkPos)
  | err (status : Nat)
  | fault
  | done
deriving DecidableEq, Repr

/-- A play item at a player (R181, R190, R201). `fetch` is the place up to which the item is fetched, with the entry last read and its
index; `next` is where frame SENT + CUT + 1 begins. `limit` is the limit in force, `limitAsked` one whose journal read is outstanding;
`begun` says that its first grain has left. -/
structure PlayItem where
  item : Item
  fetch : WalkPos := {}
  ent : Option (Nat × Nat) := none
  fetched : Bool := false
  buf : List BufGrain := []
  next : WalkPos := {}
  sent : Nat := 0
  cut : Nat := 0
  inFrame : Bool := false
  primed : Bool := false
  begun : Bool := false
  limit : Nat := 0
  limitAsked : Option Nat := none
  underrun : Bool := false
  stalled : Bool := false
  resumed : Bool := false
  late : Bool := false
  /-- Its first journal read failed while it stood behind another item (R202). -/
  failed : Bool := false
deriving DecidableEq, Repr

/-- A player: its current item, the item fetched behind it, a frame end not yet recorded, the demand words of the last edges (newest
first), the result (status, REASON) with which the item ends once the frame in progress has ended, and whether EJECT# stops it. -/
structure PlySt where
  cur : Option PlayItem := none
  behind : Option PlayItem := none
  endDue : Bool := false
  asks : List Nat := []
  ending : Option (Nat × Nat) := none
  ejected : Bool := false
deriving DecidableEq, Repr

/-- An open loop level (R237): its first instruction, the one after its last, and repetitions left. -/
structure LoopLvl where
  first : Nat
  stop : Nat
  left : Nat
deriving DecidableEq, Repr

/-- A transfer of one line (R233): from memory to a row or back, the address and the row. -/
structure XferLine where
  load : Bool
  addr : Nat
  row : Nat
deriving DecidableEq, Repr

/-- A margin point of a MAC lane (R238): the row of its parameters. -/
structure MargPt where
  row : Nat
deriving DecidableEq, Repr

/-- A measurement engine (R228). Accumulators by lane × 4 + d; `mem` holds the operand memory's rows as 512-bit numbers. -/
structure EngSt where
  acc : SMap (BitVec 56) := {}
  x : SMap Nat := {}
  b : SMap (BitVec 64) := {}
  loops : List LoopLvl := []
  prog : SMap (BitVec 32) := {}
  mem : SMap (BitVec 512) := {}
  xfers : List XferLine := []
  pts : SMap (Option MargPt) := {}
  /-- The comparators have acted on the instruction at the PC, and execution may pass it. -/
  passed : Bool := false
  /-- CTL.STEP has been written and its instruction, a WAIT, has not ended (R246). -/
  stepping : Bool := false
deriving DecidableEq, Repr

end Sys2Proof.Machine
end

