-- ==== Sys2Proof/Machine/StRing.lean ====
section
/-!
DEFINITION. What the rings hold beside the RING and PRB registers (chapter 14).
-/
namespace Sys2Proof.Machine

/-- A flit on a ring: its header, its payload, the stop at which it was injected on this ring (R369). -/
structure RFlit where
  hdr : BitVec 128
  body : List (BitVec 8) := []
  start : Nat
deriving DecidableEq, Repr

/-- A buffer that holds a request until its response has been injected (R377): the header of its first flit, its payload, the domain it
waits for (R380), the status that the router answers it with (R379). -/
structure RBuf where
  hdr : BitVec 128
  body : List (BitVec 8) := []
  wait : Option Nat := none
  status : Option Nat := none
deriving DecidableEq, Repr

/-- The rings. `flits` is by ring, oldest first; `tbl` the routing tables by (bank × 4 + pair) × 256 + destination; `markers` the rings whose
drain marker circulates; `grants` the buffers granted and not used, and `held` the grants that have reached their requester, by
(destination × 4 + class) × 1,024 + requester; `waiting` the unanswered reserve packets as such keys; `owed` packets a router or a
destination has still to inject; `asked` the requests without a response, as (requester, tag, destination, class); `got` the last
responses received, as (requester, tag, status), newest first; the trace buffer, and whether tracing runs. -/
structure RingNet where
  flits : SMap (List RFlit) := {}
  tbl : SMap Nat := {}
  markers : List Nat := []
  grants : SMap Nat := {}
  held : SMap Nat := {}
  waiting : List Nat := []
  bufs : List RBuf := []
  owed : List (BitVec 128) := []
  asked : List (Nat × Nat × Nat × Nat) := []
  got : List (Nat × Nat × Nat) := []
  trace : SMap (BitVec 256) := {}
  traceOn : Bool := false
deriving DecidableEq, Repr

end Sys2Proof.Machine
end

