-- ==== Sys2Proof/Machine/StSec.lean ====
section
/-!
DEFINITION. The security controller and the configuration store beside their registers (chapters 17, 18).
-/
namespace Sys2Proof.Machine

/-- Values fixed in the module at manufacture: the serial, the silicon stepping, the stack signature (byte k for die code k), the
layers' static power in 1/10 W units of THM.POWER. -/
structure FuseSt where
  serial : BitVec 128 := 0
  stepping : BitVec 8 := 0
  stackSig : BitVec 64 := 0
  staticA : Nat := 0
  staticB : Nat := 0
deriving DecidableEq, Repr

/-- A key slot beside SEC.SLOT: its key, the ring and WSN recorded with the last accepted counter, the ceiling P of the store, and
the items waiting for the ceiling's write, oldest first (R472 to R474). -/
structure SlotKey where
  key : BitVec 384 := 0
  by_ : Option (Nat × Nat) := none
  ceiling : Nat := 4096
  waiting : List Item := []
deriving DecidableEq, Repr

/-- The security controller (R466 to R481). -/
structure SecSt where
  slots : SMap SlotKey := {}
  ownerCert : List Byte := []
  unlockForever : Bool := false
  haltEver : Bool := false
  fwHash : BitVec 384 := 0
  imageHash : BitVec 384 := 0
  domKeys : SMap (BitVec 256) := {}
  newKeys : SMap (BitVec 256) := {}
deriving DecidableEq, Repr

/-- Where a load takes its file from (R451, R458). -/
inductive LoadSrc where
  | host (addr : Nat)
  | dram (addr : Nat)
  | slot (k : Nat)
deriving DecidableEq, Repr

/-- A load in progress (R451, R567): its source and length, the target (0 planes, 1 or 2 a slot), its flags and ergs, the
manifest with the signature block, the index of the next frame, what has been hashed (newest frame first), the planes written as
erg × 8 + context, the memory parts seen, and the order key of the last frame. -/
structure LoadSt where
  src : LoadSrc
  len : Nat
  target : Nat := 0
  flags : Nat := 0
  ergs : BitVec 128 := 0
  manifest : List Byte := []
  sigLen : Nat := 0
  next : Nat := 0
  frames : List (List Byte) := []
  planes : List Nat := []
  carried : List Nat := []
  memCtx : SMap (Option Nat) := {}
  lastKey : Nat := 0
  duneSeen : List Nat := []
  powerUp : Bool := false
  /-- The second slot tried at power-up. -/
  second : Bool := false
  /-- A load on wake from Dormant (R504). -/
  wake : Bool := false
  /-- Every stage has passed; the activation edge is still to come (R454, R456). -/
  activating : Bool := false
deriving DecidableEq, Repr

/-- One interface in the wear log (R358, R362): THM.WEAR[j], the residue with its candidate, and the days behind LIFE. -/
structure WearRec where
  reg : BitVec 64 := 0
  residue : List Int := []
  cand : Option Int := none
  dayStart : Nat := 0
  days : List Nat := []
deriving DecidableEq, Repr

/-- The drift's checkpoint record in the store (R320): the domain, the line C, both epochs, and the drift-start command by its ring and
work-sequence number. -/
structure DriftRec where
  dom : Nat
  line : Nat
  epoch : Nat
  newEpoch : Nat
  item : Option (Nat × Nat)
deriving DecidableEq, Repr

/-- A DRAM or oasis remap record entry (R262, R288): the place and what its spare holds stand with the memory; here what the
store keeps. -/
structure StoreSt where
  /-- Contents of image slots A, B (0, 1) and firmware slots A, B (2, 3) as written. -/
  slots : SMap (List Byte) := {}
  fwPrefer : Nat := 2
  crossRec : SMap CrossSt := {}
  mapGen : Nat := 0
  checkpoint : Option DriftRec := none
  load : Option LoadSt := none
  /-- The steps of R453 are still to run since power-on. -/
  bootDue : Bool := true
  /-- They are due on a wake from Dormant (R504). -/
  wakeDue : Bool := false
  wearLog : List WearRec := []
  wearNarrow : Nat := 0
  wearTime : Nat := 0
deriving DecidableEq, Repr

end Sys2Proof.Machine
end

