-- ==== Sys2Proof/Machine/StSys.lean ====
section
/-!
DEFINITION. Time, clocks, power, resets, pins, supervisors, cores and the JTAG port beside their registers (chapters 07, 19, 20, 22).
-/
namespace Sys2Proof.Machine

/-- A SYNC_IN pulse that has yet to take effect (R216): the edges left to the 64th, and the device time and the stamp count to
add to what the counts have advanced by since the pulse. Both are given as what the count must become at that edge. -/
structure SyncPend where
  left : Nat
  load : Option Nat := none
  stamp : Option (BitVec 64) := none
deriving DecidableEq, Repr

/-- The time unit (R209 to R226). `dev` is device time in units of 1/24,576,000 ns, exact for a root cycle, for 2^-16 ns, for a
picosecond and for a stamp tick; `fck` the FCK cycle count. -/
structure TimeSt where
  /-- The first FCK edge after the first root lock has passed (R211). -/
  run : Bool := false
  /-- A set and a re-epoch that take effect at the next FCK edge (R215, R227). -/
  setDue : Option Nat := none
  epochDue : Bool := false
  dev : Nat := 0
  stamp : BitVec 64 := 0
  fck : Nat := 0
  /-- Armed pulses whose load or re-epoch has not taken effect, oldest first (R216). -/
  sync : List SyncPend := []
  /-- FCK counts at which lines 44 to 48 are high, as (line, count) (R162, R219). -/
  lineAt : List (Nat × Nat) := []
  wrapDue : Bool := false
  /-- While device time is in holdover: the time since it began, in units of `dev` (R221). -/
  hold : Option Nat := none
  /-- The outputs whose time has come at the last FCK edge, as a mask: compare outputs 0 to 3, and 4 for SYNC_OUT (R218, R219). -/
  outs : Nat := 0
  /-- FCK edges for which SYNC_OUT is still high, and how many ticks after an edge it rises and falls (R218). -/
  outHigh : Nat := 0
  outTick : Nat := 0
  /-- Dormant has ended and the root has yet to restart: bridging is owed (R222). -/
  bridgeDue : Bool := false
  /-- The outputs enabled as Dormant was entered, with their times (R220). -/
  missed : List (Nat × Nat) := []
  /-- The bridging record (R222, R223). -/
  t0 : Nat := 0
  s0 : BitVec 64 := 0
  c0 : BitVec 64 := 0
  ratio : Nat := 0
  ratioOk : Bool := false
deriving DecidableEq, Repr

/-- The internal oscillator (R486, R488). -/
inductive Iosc where
  | starting
  | ready
  | lost
deriving DecidableEq, Repr

/-- Clocks (R482 to R491). -/
structure ClkSt where
  refin : Bool := false
  rootEver : Bool := false
  rootRun : Bool := false
  iosc : Iosc := .starting
  xtal : Bool := false
  /-- The crystal has qualified since power-on. -/
  xtalWas : Bool := false
  mgmtReset : Bool := true
  /-- The management domain waits for the oscillator since a crystal trip (R488). -/
  ioscWait : Bool := false
  gatedNodes : List Nat := []
  /-- The crystal has been lost at some time since the root stopped (R226). -/
  xtalGap : Bool := false
deriving DecidableEq, Repr

/-- A power domain (R379, R506). -/
structure DomSt where
  on : Bool := true
  woa : Bool := true
  st : Nat := 0
deriving DecidableEq, Repr

/-- The power state (R498). -/
inductive PowerState where
  | active
  | quiet
  | entering (dormant : Bool)
  | rest
  | dormant
deriving DecidableEq, Repr

/-- A register access held for a domain (R380, R544): the domain, the offset, what it writes, none for a read, and whether it came by the
debug path. -/
structure HeldReg where
  dom : Nat
  off : Nat
  write : Option (BitVec 64)
  debug : Bool
deriving DecidableEq, Repr

/-- Power and resets (R492 to R506, R548, R549). -/
structure PwrSt where
  st : PowerState := .active
  /-- Both supplies have been applied since the last power loss (R496, R497). -/
  powered : Bool := true
  /-- An overcurrent holds FAULT# while auxiliary power remains, and the pass switch open until 12 V main has been removed and
  reapplied (R549). -/
  tripped : Bool := false
  switchHeld : Bool := false
  emulated : Bool := false
  /-- Lanes whose transmitters, fed by players, Quiet holds IDLE (R498). -/
  quietTx : List Nat := []
  doms : SMap DomSt := {}
  inReset : List Nat := []
  /-- Wake sources latched since the last wake, as bits of WAKE_CAUSE. -/
  latched : Nat := 0
  mainOk : Bool := true
  auxOk : Bool := true
  passClosed : Bool := true
  softStarted : Bool := true
  /-- 12 V main was lost during Dormant with keep-memory (R295). -/
  mainLost : Bool := false
  /-- Forced Dormant: wake sources are ignored for 1 s and FAULT# holds (R505). -/
  thermal : Bool := false
  aonCount : BitVec 64 := 0
  /-- Domains with a request held for their waking, and accesses held for a domain reset. -/
  wokenFor : List Nat := []
  heldRegs : List HeldReg := []
deriving DecidableEq, Repr

/-- Pins of the module (R454, R488, R545). True is asserted, for CFG_DONE and SYNC_OUT high, for EJECT# and PERST# low. -/
structure PinsSt where
  fault : Bool := false
  cfgDone : Bool := false
  cfgErr : Bool := false
  wake : Bool := false
  syncOut : Bool := false
  perst : Bool := false
  eject : Bool := false
deriving DecidableEq, Repr

/-- The recovery record and the supervisors' watch on each other (R510 to R517). -/
structure SupSt where
  gen : Nat := 0
  kind : Nat := 0
  step : Nat := 0
  leader : Nat := 0
  target : BitVec 64 := 0
  stamp : BitVec 64 := 0
  queue : List (Nat × BitVec 64) := []
  /-- What the follower last mirrored from a heartbeat: GEN, KIND, STEP. -/
  mirror : Nat × Nat × Nat := (0, 0, 0)
  /-- No supervisor remains until a warm reset (R517). -/
  noLead : Bool := false
deriving DecidableEq, Repr

/-- A core beside its DBG registers (R518, R525 to R531). `regs` holds registers 0 to 31, the PC at 32, the status word at 33;
`space` what has been read or written of the
core's own address space since it halted. -/
structure CoreSt where
  regs : SMap (BitVec 32) := {}
  space : SMap (Option Byte) := {}
  reservation : Bool := false
  haltWait : Bool := false
  vtTo : BitVec 32 := 0
  vtFrom : BitVec 32 := 0
  period : Nat := 0
deriving DecidableEq, Repr

/-- The JTAG port (R523, R524): the selected instruction, the boundary register, the last DBGREG answer with its DONE and ERR, the
UNLOCK buffer and its answer. -/
structure JtagSt where
  ir : BitVec 8 := 0xFF
  boundary : List Bool := []
  driving : Bool := false
  dr : BitVec 64 := 0
  done : Bool := false
  err : Bool := false
  unlockBuf : List Byte := []
  unlockDone : Bool := false
  unlockStatus : Nat := 0
  tdo : BitVec 64 := 0
deriving DecidableEq, Repr

end Sys2Proof.Machine
end

