-- ==== Sys2Proof/Machine/StTherm.lean ====
section
/-!
DEFINITION. What the shade planner and the wear accounting hold beside the THM registers and FAB.ERG[i].SHADE (chapter 13).
Temperatures of sensors are in 1/16 °C, of interfaces in 1/32 °C.
-/
namespace Sys2Proof.Machine

/-- An erg as the planner sees it (R345, R348 to R350, R354): operations counted in the running window, the place of the gated
cycle among N, consecutive windows outside and within the rules, full gating at 105 °C and N = 2 at 100 °C, the erg that takes
its later work under a move, whether that move's switch item has been dispatched, and SHADE as it stood when N = 2 began. -/
structure ErgThm where
  ops : Nat := 0
  phase : Nat := 0
  outside : Nat := 0
  within : Nat := 0
  hot : Bool := false
  full : Bool := false
  half : Bool := false
  moveTo : Option Nat := none
  moved : Bool := false
  pre : BitVec 64 := 0
deriving DecidableEq, Repr

/-- The rainflow count of one interface (R357, R358): turning points not yet closed, oldest first, the candidate extreme since the
last turning point, whether the next sample is a turning point as it stands, and the sums of the days of the last 30. -/
structure WearSt where
  residue : List Int := []
  cand : Option Int := none
  dayStart : Nat := 0
  days : List Nat := []
deriving DecidableEq, Repr

/-- The planner (R344 to R355) and the wear accounting (R356 to R360). `hist` holds the layers' operations of the last 100
windows, newest first; `hotRun` the windows a pair has been hot together; `hotFor` for how many readings a sensor has been at 110 °C
or above; `samples` counts the service time in units of 10 ms. -/
structure ThmSt where
  ergs : SMap ErgThm := {}
  hist : List (Nat × Nat) := []
  hotRun : SMap Nat := {}
  hotFor : SMap Nat := {}
  wear : SMap WearSt := {}
  samples : Nat := 0
  /-- The first sample after power returned is appended as a turning point (R358). -/
  fresh : Bool := true
deriving DecidableEq, Repr

end Sys2Proof.Machine
end

