-- ==== Sys2Proof/Machine/State.lean ====
section
/-!
DEFINITION. The state of the block: the register file, what every chapter gives the device beside its registers, and the queue of
commands that wait. Reset is the state right after power-on reset (R492, R496, R542).
-/
namespace Sys2Proof.Machine

/-- Why a step stops with a fault. There is no such reason: every error the spec describes is a state, a status or a record
(R406, R370, R521), and the device goes on. -/
inductive Fault where
deriving DecidableEq, Repr

/-- Why a command is refused. -/
inductive Refusal where
  /-- Raised by an arm of `exec` whose command has no meaning yet, by its mnemonic. Safe: the step stops. -/
  | notModelled (mnemonic : String)
deriving DecidableEq, Repr

/-- The two modules (R1). -/
inductive Variant where
  | yx4802
  | yx4801
deriving DecidableEq, Repr

/-- The state of the device. -/
structure State where
  variant : Variant := .yx4802
  regs : SMap Data := {}
  time : TimeSt := {}
  fab : FabSt := {}
  lanes : SMap LaneSt := {}
  gio : SMap GioSt := {}
  host : HostSt := {}
  evt : EvtSt := {}
  rings : SMap RingSt := {}
  sched : SchedSt := {}
  jr : JournalSt := {}
  clk : ClkSt := {}
  pwr : PwrSt := {}
  pins : PinsSt := {}
  sup : SupSt := {}
  cores : SMap CoreSt := {}
  jtag : JtagSt := {}
  sec : SecSt := {}
  store : StoreSt := {}
  fuses : FuseSt := {}
  thm : ThmSt := {}
  cap : CapSt := {}
  ply : SMap PlySt := {}
  eng : SMap EngSt := {}
  oas : OasSt := {}
  ctl : SMap CtlSt := {}
  mem : MemSt := {}
  net : RingNet := {}
  freeCtr : Nat := 0
  pending : List Instr := []
deriving DecidableEq, Repr

/-- The state right after power-on reset: every register at the reset value of its field table, everything else as the fields of
the structures say. -/
def State.reset : State := {}

end Sys2Proof.Machine
end

