-- ==== Sys2Proof/Machine/Ops.lean ====
section
/-!
DEFINITION. The operations on the state that every chapter shares: registers and their fields, free values, the dies and codes of
events, host memory and the host link, messages, and raising an event (R409, R410, R415, R520, R521).
-/
namespace Sys2Proof.Machine

/-! ### Registers -/

/-- The value a register holds. -/
def State.reg (s : State) (off : Nat) : Data := s.regs.get regReset off

/-- A register set to a value. -/
def State.setReg (s : State) (off : Nat) (v : Data) : State := { s with regs := s.regs.set regReset off v }

/-- A field of a register. -/
def State.fld (s : State) (off : Nat) (f : Fld) : Nat := f.get (s.reg off)

/-- Whether a field of a register is not zero. -/
def State.fldOn (s : State) (off : Nat) (f : Fld) : Bool := s.fld off f != 0

/-- A field of a register set to a value. -/
def State.setFld (s : State) (off : Nat) (f : Fld) (x : Nat) : State := s.setReg off (f.put (s.reg off) x)

/-- Several fields of one register set. -/
def State.setFlds (s : State) (off : Nat) (l : List (Fld × Nat)) : State :=
  s.setReg off (l.foldl (fun v p => p.1.put v p.2) (s.reg off))

/-- A counting field advanced, saturating at its width. -/
def State.satFld (s : State) (off : Nat) (f : Fld) (n : Nat) : State :=
  s.setFld off f (satAdd f.w (s.fld off f) n)

/-- A counting field advanced, modulo its width. -/
def State.wrapFld (s : State) (off : Nat) (f : Fld) (n : Nat) : State := s.setFld off f (s.fld off f + n)

/-- The register at its reset value. -/
def State.resetReg (s : State) (off : Nat) : State := s.setReg off (regReset off)

/-- Write-1-to-clear fields of a register, by their mask. -/
def w1cMask (old data : Data) (mask : Nat) : Data := old &&& ~~~(data &&& BitVec.ofNat 64 mask)

/-- The bits of a mask replaced by those of the data. -/
def maskWrite (old data : Data) (mask : Nat) : Data :=
  (old &&& ~~~(BitVec.ofNat 64 mask)) ||| (data &&& BitVec.ofNat 64 mask)

/-- A plain write of a register by its access types (R12): RW and RWS fields take the data, W1C fields are cleared where the data
is 1, every other field holds. -/
def plainWrite (r : RegInfo) (old data : Data) : Data :=
  w1cMask (maskWrite old data (r.rw ||| r.rws)) data r.w1c

/-- A plain write of the register at an offset. -/
def State.writeReg (s : State) (off : Nat) (data : Data) : State :=
  match regInfo off with
  | some r => s.setReg off (plainWrite r (s.reg off) data)
  | none => s

/-! ### Free values -/

/-- The state with its counter of free values advanced. -/
def State.spend (s : State) (n : Nat) : State := { s with freeCtr := s.freeCtr + n }

/-! ### Host memory and link -/

/-- The byte of host memory at a bus address. -/
def State.hostByte (s : State) (a : Nat) : Byte := s.host.mem.get (fun _ => 0) (a % 2 ^ 64)

/-- Bytes of host memory from a bus address. -/
def State.hostBytes (s : State) (a len : Nat) : List Byte := (List.range len).map (fun k => s.hostByte (a + k))

/-- A little-endian number in host memory. -/
def State.hostNum (s : State) (a len : Nat) : Nat := ofBytes (s.hostBytes a len)

/-- Bytes put into a byte memory from an address. -/
def putBytes (m : SMap Byte) (a : Nat) : List Byte → SMap Byte
  | [] => m
  | b :: r => putBytes (m.set (fun _ => 0) (a % 2 ^ 64) b) (a + 1) r

/-- Bytes put into host memory. -/
def State.putHost (s : State) (a : Nat) (bytes : List Byte) : State :=
  { s with host := { s.host with mem := putBytes s.host.mem a bytes } }

/-- The host's own writes to its memory (R393). -/
def State.hostOwn (s : State) (hw : List (Nat × Byte)) : State :=
  { s with host := { s.host with mem := hw.foldl (fun m c => m.set (fun _ => 0) (c.1 % 2 ^ 64) c.2) s.host.mem } }

/-- Whether the device may issue a transfer of its own at all (R411, R412, R433): the module is present, not DEPARTED, and Bus
Master Enable is 1. -/
def State.mayIssue (s : State) : Bool :=
  s.host.present && s.host.busMaster && s.fld QIF_STATUS QIF_STATUS_STATE != 4

/-- The host's transactions reach the device: the module is in the slot, its link is up and it is awake. -/
def State.hostReaches (s : State) : Bool := s.host.present && s.host.linkUp && s.pwr.powered

/-- A posted write to host memory: performed, held while the link is down, or not issued (R410, R411, R433). -/
def State.hostWrite (s : State) (a : Nat) (bytes : List Byte) : State :=
  if !s.mayIssue then s
  else if s.host.linkUp then s.putHost a bytes
  else { s with host := { s.host with held := s.host.held ++ [.write a bytes] } }

/-- The reset value of a word of the MSI-X table: every entry is masked (PRESUMED, from the PCI Express specification). -/
def msixReset (k : Nat) : Data := if k % 2 = 1 then 0x100000000 else 0

/-- A message sent by the MSI-X rules of PCI Express: to the table entry's address unless the entry is masked, when its pending
bit is set (R392, R408). -/
def State.message (s : State) (v : Nat) : State :=
  let lo := s.host.msix.get msixReset (2 * v)
  let hi := s.host.msix.get msixReset (2 * v + 1)
  if natBit hi.toNat 32 then { s with host := { s.host with pba := s.host.pba.set (fun _ => false) v true } }
  else
    let s := s.putHost lo.toNat (toBytes 4 hi.toNat)
    { s with host := { s.host with sent := v :: s.host.sent } }

/-- A vector signalled: sent, or held with the writes while the link is down. -/
def State.signal (s : State) (v : Nat) : State :=
  if !s.mayIssue then s
  else if s.host.linkUp then s.message v
  else { s with host := { s.host with held := s.host.held ++ [.message v] } }

/-- One held transfer issued. -/
def State.issueHeld (s : State) : HeldOp → State
  | .write a bytes => s.putHost a bytes
  | .message v => s.message v

/-! ### Events -/

/-- The severity of an event code (R521); codes with more than one severity name the least. -/
def evtSeverity (code : Nat) : Nat :=
  if [0x0001, 0x0002, 0x0003, 0x0101, 0x0103, 0x0106, 0x0201, 0x0202, 0x0204, 0x0205, 0x0404, 0x0406, 0x0503, 0x0604,
      0x0801, 0x0802, 0x0804, 0x0805, 0x0808, 0x0809, 0x0902, 0x0A01, 0x0A05, 0x0A06, 0x0B01, 0x0B03, 0x0C02, 0x0D02].contains code then 2
  else if [0x0006, 0x010D, 0x0806, 0x0A07, 0x0D03].contains code then 3
  else if [0x0004, 0x0005, 0x0008, 0x0009, 0x000E, 0x0102, 0x0104, 0x010A, 0x010C, 0x0303, 0x0408, 0x0702, 0x0703, 0x080C, 0x0901,
      0x0A03, 0x0B04].contains code then 0
  else 1

/-- The die of a sensor (R15, R23). -/
def sensorOnDie (k : Nat) : Nat :=
  if k < 64 then 3 else if k < 128 then 6 else if k < 192 then 0 else if k < 208 then 1 else if k < 224 then 2 else if k < 240 then 4 else 5

/-- The die of a core: SV-B stands on M-B (R15). -/
def coreOnDie (c : Nat) : Nat := if c = 1 then 4 else 0

/-- The die an event belongs to (R15): erg events the fabric layer, oasis events the memory layer, those of a core or a sensor the die
on which it stands, events of blocks on no single die 0xFF, the rest the base die. -/
def evtDie (code inst : Nat) : Nat :=
  if (0x0001 ≤ code ∧ code ≤ 0x0003) ∨ code = 0x0007 ∨ code = 0x0008 ∨ code = 0x000E then coreOnDie inst
  else if code = 0x0009 then coreOnDie (inst / 16)
  else if code = 0x010D ∨ code = 0x0A01 ∨ code = 0x0A06 ∨ code = 0x0A07 then sensorOnDie inst
  else if code = 0x0A05 then (if inst = 0 then 3 else 6)
  else if code = 0x0201 ∨ code = 0x0202 then (if natBit inst 10 then 6 else 3)
  else if (0x0203 ≤ code ∧ code ≤ 0x0206 ∧ code ≠ 0x0204) ∨ (0x0A02 ≤ code ∧ code ≤ 0x0A04) then (if inst < 64 then 3 else 6)
  else if 0x0801 ≤ code ∧ code ≤ 0x0803 then (if inst < 64 then 1 else 4)
  else if code = 0x0204 ∨ code = 0x0901 ∨ code = 0x0902 ∨ code = 0x0A08 ∨ code = 0x0B01 then 0xFF
  else if code = 0x0D02 then (if natBit inst 10 then 5 else 2)
  else if code = 0x0D03 then inst
  else 0

/-- The number of records the event ring holds (R415). -/
def State.evtEntries (s : State) : Nat := 64 * 2 ^ (min (s.fld EVT_CFG EVT_CFG_SIZE) 10)

/-- The PHASE of entry n of a ring of `size` entries (R405). -/
def phaseBit (n size : Nat) : Nat := if n / size % 2 = 0 then 1 else 0

/-- The 32 bytes of an event record (R409). -/
def evtBytes (e : EventRec) (phase loss : Bool) : List Byte :=
  toBytes 8 e.stamp.toNat ++ toBytes 2 e.code ++ toBytes 1 e.die ++ toBytes 1 (bit01 phase + 2 * bit01 loss + 4 * e.sev)
    ++ toBytes 4 e.seq ++ toBytes 16 e.data.toNat

/-- Raise an event with its severity, its die and its 16 DATA bytes: it takes the next number and enters the event log; with the
event ring enabled it is written there with its message, or counted in LOST for lack of room (R409, R415). -/
def State.raiseRaw (s : State) (code sev die : Nat) (data : BitVec 128) : State :=
  let e : EventRec := { stamp := s.time.stamp, code := code, die := die, sev := sev, seq := s.evt.next % 2 ^ 32, data := data }
  let s := { s with evt := { s.evt with next := (s.evt.next + 1) % 2 ^ 32, log := e :: s.evt.log } }
  if s.fldOn EVT_BASE EVT_BASE_EN then
    let tail := (s.reg EVT_TAIL).toNat
    let size := s.evtEntries
    if (tail + 2 ^ 64 - (s.reg EVT_HEAD).toNat) % 2 ^ 64 ≥ size then
      let s := s.satFld EVT_LOST EVT_LOST_COUNT 1
      { s with evt := { s.evt with loss := true } }
    else
      let base := s.fld EVT_BASE EVT_BASE_ADDR * 4096
      let s := s.hostWrite (base + 32 * (tail % size)) (evtBytes e (phaseBit tail size = 1) s.evt.loss)
      let s := { s with evt := { s.evt with loss := false } }
      let s := s.setReg EVT_TAIL (BitVec.ofNat 64 (tail + 1))
      s.signal (s.fld EVT_CFG EVT_CFG_VECTOR)
  else s

/-- Raise an event of R521: instance in DATA bytes 0 to 3, sub-code in 4 to 7, the value of the register named in 8 to 15 (R520). -/
def State.raise (s : State) (code inst sub : Nat) (val : Data) : State :=
  s.raiseRaw code (evtSeverity code) (evtDie code inst)
    (BitVec.ofNat 128 (inst % 2 ^ 32 + 2 ^ 32 * (sub % 2 ^ 32) + 2 ^ 64 * val.toNat))

/-- Raise an event whose value is a register. -/
def State.raiseReg (s : State) (code inst sub off : Nat) : State := s.raise code inst sub (s.reg off)

/-- Raise an event when a condition holds. -/
def State.raiseIf (s : State) (b : Bool) (code inst sub off : Nat) : State := if b then s.raiseReg code inst sub off else s

/-! ### Domains that power down (R379, R380) -/

def State.dom (s : State) (d : Nat) : DomSt := s.pwr.doms.get (fun _ => {}) d
def State.setDom (s : State) (d : Nat) (v : DomSt) : State := { s with pwr := { s.pwr with doms := s.pwr.doms.set (fun _ => {}) d v } }
def domUp := 0
def domGoing := 1
def domDown := 2
def domWaking := 3
def State.isUp (s : State) (d : Nat) : Bool := (s.dom d).st == domUp

/-- The status of an access that waits: no ring status, but what tells an executor to try again. -/
def memWait : Nat := 99

/-- An access meets a domain: it goes on, it is answered domain asleep, or it waits while the domain wakes. A domain on its way down
stays up for it. One in domain reset holds it (R379 to R381). -/
def State.meetDomain (s : State) (d : Nat) : State × Nat :=
  let v := s.dom d
  if s.pwr.inReset.contains d ∧ v.st = domUp then
    ({ s with pwr := { s.pwr with wokenFor := s.pwr.wokenFor.filter (· != d) ++ [d] } }, memWait)
  else if v.st = domUp then (s, 0)
  else if !v.woa then (s, 8)
  else if v.st = domGoing then ((s.setDom d { v with st := domUp, on := true }).raise 0x0B04 d 0 (s.reg PWR_DOM_CTL), 0)
  else if v.st = domDown then
    let s := s.setDom d { v with st := domWaking }
    ({ s with pwr := { s.pwr with wokenFor := s.pwr.wokenFor.filter (· != d) ++ [d] } }, memWait)
  else ({ s with pwr := { s.pwr with wokenFor := s.pwr.wokenFor.filter (· != d) ++ [d] } }, memWait)

/-! ### Accesses of registers (R484, R544) -/

/-- Whether the clock of a node of the gate tree runs, its parent's being that of another (R489). -/
def State.nodeRuns (s : State) (n parent : Nat) : Bool := !s.clk.gatedNodes.contains n && !s.clk.gatedNodes.contains parent

/-- The domain that a register lies in, where it is one that powers down or is reset with its block: a controller, a quad, an engine. -/
def regDomain (off : Nat) : Option Nat :=
  if 0x280000 ≤ off ∧ off < 0x2A0000 then some (0x200 + (off - 0x280000) / 0x1000)
  else if 0x340000 ≤ off ∧ off < 0x358000 then some (0x500 + (off - 0x340000) / 0x2000)
  else if 0x380000 ≤ off ∧ off < 0x380C00 then some (0x500 + (off - 0x380000) / 0x100)
  else if 0x3C0000 ≤ off ∧ off < 0x3C1800 then some (0x700 + (off - 0x3C0000) / 0x100)
  else none

/-- Whether the block of a register answers: power is there, the device does not sleep, and the root has locked where the block needs
it (R484). -/
def State.blockUp (s : State) (off : Nat) : Bool :=
  s.pwr.powered && (s.pwr.emulated || (s.pwr.st != .rest && s.pwr.st != .dormant)) && (s.clk.rootEver || !classX off)

/-- How a register access fares. -/
inductive RegMeet where
  | go
  | lost
  | held
deriving DecidableEq, Repr

/-- A register access meets its block: it is performed, lost (a read then reads zero), or held for its domain (R544). -/
def State.regMeet (s : State) (off : Nat) (write : Option Data) (debug : Bool) : State × RegMeet :=
  if !s.blockUp off then (s, .lost)
  else match regDomain off with
    | none => (s, .go)
    | some d =>
      let r := s.meetDomain d
      if r.2 = 0 then (r.1, .go)
      else if r.2 = memWait then
        ({ r.1 with pwr := { r.1.pwr with heldRegs := r.1.pwr.heldRegs ++ [{ dom := d, off := off, write := write, debug := debug }] } }, .held)
      else (r.1, .lost)

/-- A register access is performed at once where its block answers and its domain, if it lies in one, is up and not in reset. -/
def State.ready (s : State) (off : Nat) : Bool :=
  s.blockUp off && (match regDomain off with
    | none => true
    | some d => s.isUp d && !s.pwr.inReset.contains d)

/-- A write of a register: its effect where the access is performed. -/
def State.regWrite (s : State) (off : Nat) (data : Data) (f : State → State) : State :=
  let r := s.regMeet off (some data) false
  if r.2 = .go then f r.1 else r.1

/-- What a read of a BAR or a data window returns to the host. -/
def State.answerReg (s : State) (v : Data) : State := { s with host := { s.host with answer := some (toBytes 8 v.toNat) } }

/-- A read of a register that has a row of its own. -/
def State.regRead (s : State) (off : Nat) (debug : Bool) (f : State → State) : State :=
  let r := s.regMeet off none debug
  match r.2 with
  | .go => f r.1
  | .lost => r.1.answerReg 0
  | .held => r.1

end Sys2Proof.Machine
end

