-- ==== Sys2Proof/Machine/Flags.lean ====
section
/-!
DEFINITION. The status flags that show what stands elsewhere in the device, and the completion of a command, which leaves them in step.
-/
namespace Sys2Proof.Machine

/-! ### Registers that show what stands elsewhere (R464, R498, R508, R541) -/

/-- PWR.STATUS.STATE of a power state: 0 Active, 1 Quiet, 2 entering, 3 waking (R508). A sleeping device that no source has woken shows 0. -/
def State.powerCode (s : State) : Nat :=
  match s.pwr.st with
  | .active => 0
  | .quiet => 1
  | .entering _ => 2
  | _ => if s.pwr.latched ≠ 0 ∧ !s.pwr.emulated then 3 else 0

/-- Whether a crossing is EXPOSED, DETOURED or LOST (R332). -/
def crossWorn (c : CrossSt) : Bool := 3 ≤ WELL_XDATA_STATE.get c.xdata && WELL_XDATA_STATE.get c.xdata ≤ 5

/-- GLB.STATUS from what it sums up (R541). -/
def State.summary (s : State) : Data :=
  BitVec.ofNat 64 (s.powerCode * 2 ^ 13 + s.fld QIF_STATUS QIF_STATUS_STATE * 2 ^ 10 + s.fld SUP_STATUS SUP_STATUS_LEADER * 2 ^ 9
    + bit01 (s.fab.cross.cells.any (fun c => crossWorn c.2)) * 2 ^ 8
    + bit01 ((List.range 32).any (fun p => s.fld (DRMC_STATUS p) DRMC_STATUS_STATE == 5)) * 2 ^ 7
    + s.fld TSU_STATUS TSU_STATUS_HOLDOVER * 2 ^ 6 + s.fld TSU_STATUS TSU_STATUS_BRIDGED * 2 ^ 5
    + bit01 (s.fldOn SEC_STATUS SEC_STATUS_ATTEST_DONE && s.fld SEC_STATUS SEC_STATUS_ATTEST != 0x7F) * 2 ^ 4
    + bit01 (s.fld CLK_STATUS CLK_STATUS_ROOT == 1) * 2 ^ 3
    + bit01 s.pins.fault * 2 ^ 2 + bit01 s.pins.cfgErr * 2 + bit01 s.pins.cfgDone)

/-- PWR.STATUS.STATE, CFG.STATUS DONE and ERR, and GLB.STATUS brought in step with the power state, the pins and their sources. -/
def State.settle (s : State) : State :=
  let s := s.setFld PWR_STATUS PWR_STATUS_STATE s.powerCode
  let s := s.setFlds CFG_STATUS [(CFG_STATUS_DONE, bit01 s.pins.cfgDone), (CFG_STATUS_ERR, bit01 s.pins.cfgErr)]
  s.setReg GLB_STATUS s.summary

/-- The completion of a command in a next state. -/
def done (s : State) : Host.Outcome State Fault Refusal := .next s.settle

end Sys2Proof.Machine
end

