-- ==== Sys2Proof/Machine/Operands.lean ====
section
/-!
DEFINITION. The operand forms of the Ubrel queue: the fields of a descriptor and of its extension, the executor an item goes to, and
the faults of a descriptor (R401 to R404, R416, R458, R477).
-/
namespace Sys2Proof.Machine

/-! ### Fields -/

/-- `len` bytes of a descriptor from byte `lo`, little-endian (R393). -/
def descNum (d : BitVec 512) (lo len : Nat) : Nat := natBits d.toNat (8 * lo) (8 * len)

def Item.num (it : Item) (lo len : Nat) : Nat := descNum it.desc lo len
def Item.opc (it : Item) : Nat := it.num 0 1
def Item.flags (it : Item) : Nat := it.num 1 1
def Item.cls (it : Item) : Nat := it.flags % 4
def Item.prio (it : Item) : Nat := natBits it.flags 2 3
def Item.hasFlow (it : Item) : Bool := natBit it.flags 5
def Item.sgl (it : Item) : Bool := natBit it.flags 6
def Item.auth (it : Item) : Bool := natBit it.flags 7
def Item.ctrl (it : Item) : Nat := it.num 2 1
def Item.noIrq (it : Item) : Bool := natBit it.ctrl 3
def Item.sglList (it : Item) : Nat := it.ctrl % 8
def Item.flow (it : Item) : Nat := it.num 4 2
def Item.unit (it : Item) : Nat := it.num 6 2
def Item.release (it : Item) : Nat := it.num 8 8
def Item.user (it : Item) : Nat := it.num 56 8
/-- How many submission entries the item occupies (R396). -/
def Item.entries (it : Item) : Nat := if it.ext.isSome then 2 else 1
def Item.extNum (it : Item) (lo len : Nat) : Nat := descNum (it.ext.getD 0) lo len
def Item.slot (it : Item) : Nat := it.extNum 0 1
def Item.counter (it : Item) : Nat := it.extNum 4 4
def Item.authTag (it : Item) : Nat := it.extNum 16 16

/-- Status names (R406). -/
def stSuccess := 0x0000
def stCancelled := 0x0001
def stInterrupted := 0x0002
def stUnderrun := 0x0003
def stLaneNotReady := 0x0004
def stPatternFault := 0x0005
def stEngineFault := 0x0006
def stContextBusy := 0x0007
def stContextNotValid := 0x0008
def stActiveNotIsolated := 0x0009
def stOwnership := 0x000A
def stLockstep := 0x000B
def stStaleMap := 0x000C
def stImageRejected := 0x000D
def stMemoryLost := 0x000E
def stRefused := 0x000F
def stBusError (c : Nat) := 0x0010 + c
def stBadOpcode := 0x0020
def stBadDescriptor := 0x0021
def stAuthRequired := 0x0022
def stAuthFailed := 0x0023
def stCounterNotFresh := 0x0024
def stCounterExhausted := 0x0025
def stHostError := 0x0026
def stUnitOff := 0x0027
def stNothingToCancel := 0x0028
def stNotCancellable := 0x0029

/-- The status codes of ring responses (R370). -/
def ringStatusCode : RingStatus → Nat
  | .success => 0
  | .uncorrectable => 1
  | .accessDenied => 2
  | .integrity => 3
  | .addressUnmapped => 4
  | .noKeyDomain => 5
  | .memoryFailed => 6
  | .memoryNotReady => 7
  | .domainAsleep => 8
  | .wakeFailed => 9
  | .misrouted => 10
  | .noSuchStop => 11

/-- A status of a memory access as a completion status: success, or the bus error (R406). -/
def busStatus (c : Nat) : Nat := if c = 0 then stSuccess else stBusError c

/-! ### Opcodes -/

def opNop := 0x00
def opDma := 0x01
def opPlay := 0x08
def opErgSwitch := 0x09
def opTask := 0x0A
def opEngineLoad := 0x0B
def opEngineRun := 0x0C
def opCaptureCmd := 0x0D
def opCancel := 0x10
def opReadback := 0x11
def opAttest := 0x12
def opImageLoad := 0x20
def opErgReserve := 0x21
def opKey := 0x22
def opDriftStart := 0x23
def opFirmware := 0x24
def opStackRepair := 0x25
def opErase := 0x26
def opDebugUnlock := 0x27
def opOwner := 0x28

/-- The opcodes of R402. -/
def opcodeKnown (o : Nat) : Bool :=
  o ≤ 0x01 || (0x08 ≤ o && o ≤ 0x0D) || (0x10 ≤ o && o ≤ 0x12) || (0x20 ≤ o && o ≤ 0x28)

/-- The critical opcodes (R402), ERG_SWITCH to a reserved erg apart. -/
def opcodeCritical (o : Nat) : Bool := 0x20 ≤ o && o ≤ 0x28

/-- The opcodes whose start is journalled (R429). -/
def opcodeJournalled (o : Nat) : Bool := o = opPlay || o = opErgSwitch || o = opTask || o = opCaptureCmd || opcodeCritical o

/-- Which bytes of 16 to 55 an opcode's operands occupy (R403, R458, R477). -/
def operandBytes (o : Nat) : List (Nat × Nat) :=
  if o = opDma then [(16, 37)]
  else if o = opPlay then [(16, 25), (26, 48)]
  else if o = opErgSwitch then [(16, 17)]
  else if o = opTask then [(16, 48)]
  else if o = opEngineLoad then [(16, 28)]
  else if o = opEngineRun then [(16, 19), (24, 56)]
  else if o = opCaptureCmd then [(16, 17)]
  else if o = opCancel then [(16, 18), (24, 32)]
  else if o = opReadback then [(16, 17), (24, 36)]
  else if o = opAttest then [(16, 56)]
  else if o = opImageLoad then [(16, 27), (28, 48)]
  else if o = opErgReserve then [(16, 33)]
  else if o = opKey then [(16, 20), (24, 56)]
  else if o = opDriftStart then [(16, 20), (24, 32)]
  else if o = opFirmware then [(16, 27), (28, 32)]
  else if o = opStackRepair then [(16, 17), (24, 32)]
  else if o = opErase then [(16, 17)]
  else if o = opDebugUnlock then [(16, 29), (32, 36)]
  else if o = opOwner then [(16, 29)]
  else []

/-- Whether every operand byte outside an opcode's own is zero. -/
def Item.restZero (it : Item) : Bool :=
  ((List.range 40).map (· + 16)).all (fun b =>
    (operandBytes it.opc).any (fun p => p.1 ≤ b && b < p.2) || it.num b 1 == 0)

/-- Whether UNIT lies in the opcode's range (R402, R416). An executor of one instance has index 0. -/
def Item.unitOk (it : Item) : Bool :=
  let o := it.opc
  let u := it.unit
  if o = opNop then true
  else if o = opDma then u < 16 || u = 0xFFFF
  else if o = opPlay then u < 48
  else if o = opErgSwitch ∨ o = opTask ∨ o = opReadback then u < 128
  else if o = opEngineLoad ∨ o = opEngineRun then u < 24
  else if o = opCaptureCmd then u < 256
  else u = 0

/-- Whether two byte ranges share a byte. -/
def overlap (a b len : Nat) : Bool := a < b + len && b < a + len

/-- Whether the operands lie in their stated ranges (R403, R458, R477). -/
def Item.operandsOk (it : Item) : Bool :=
  let o := it.opc
  if o = opDma then
    let sp := it.num 36 1
    1 ≤ it.num 32 4 && sp < 16 && sp % 4 != 3 && sp / 4 != 3
      && !(sp % 4 == sp / 4 && overlap (it.num 16 8) (it.num 24 8) (it.num 32 4))
  else if o = opPlay then it.num 24 1 < 3 && natBits (it.num 32 8) 48 15 == 0 && natBits (it.num 40 8) 46 18 == 0
      && natBits (it.num 40 8) 16 30 < 1000000000
  else if o = opErgSwitch then it.num 16 1 < 8
  else if o = opEngineLoad then
    let n := it.num 24 2
    let w := it.num 26 2
    1 ≤ n && n ≤ 4096 && w ≤ 4095 && w + n ≤ 4096
  else if o = opEngineRun then it.num 16 2 < 4096 && it.num 18 1 < 2
  else if o = opCaptureCmd then it.num 16 1 < 32
  else if o = opCancel then it.num 16 2 < 256
  else if o = opReadback then it.num 16 1 < 16
  else if o = opImageLoad then it.num 24 1 < 2 && it.num 25 1 < 3 && it.num 26 1 < 16
  else if o = opErgReserve then it.num 32 1 < 2
  else if o = opKey then
    let op := it.num 16 1
    1 ≤ op && op ≤ 5 && it.num 19 1 < 4
      && (if op = 2 then it.num 17 1 < 8 else if op = 3 then true else it.num 17 1 < 16)
      && (if op = 1 then true else if op = 2 then it.num 40 16 == 0 else if op = 3 then it.num 32 8 == 0 else it.num 32 24 == 0)
      && (!natBit (it.num 19 1) 1 || it.num 24 8 == 0)
  else if o = opDriftStart then it.num 16 1 < 16 && it.num 18 1 < 2 && (it.num 18 1 == 0 || it.num 24 8 == 0)
  else if o = opFirmware then it.num 24 1 < 2 && 1 ≤ it.num 25 1 && it.num 25 1 ≤ 2 && it.num 26 1 < 2
  else if o = opStackRepair then
    let op := it.num 16 1
    1 ≤ op && op ≤ 3 && (if op = 1 then it.num 28 4 == 0 else if op = 2 then it.num 26 2 == 0 else it.num 25 3 == 0)
  else if o = opErase then it.num 16 1 < 16
  else if o = opDebugUnlock then it.num 28 1 < 4
  else if o = opOwner then it.num 28 1 < 2
  else true

/-- Whether the header is well formed (R401): reserved bits zero, FLOW and RELEASE zero where unused, nanoseconds in range. -/
def Item.headerOk (it : Item) : Bool :=
  it.num 3 1 == 0 && it.ctrl < 16 && (it.hasFlow || it.flow == 0)
    && (if it.sgl then it.release % 2 ^ 30 < 1000000000 else it.release == 0)

/-- Whether the extension is well formed (R404). -/
def Item.extOk (it : Item) : Bool :=
  match it.ext with
  | none => true
  | some _ => it.slot < 16 && it.extNum 1 3 == 0 && it.extNum 8 8 == 0 && it.extNum 32 32 == 0

/-- Whether an erg is reserved (R67). -/
def State.ergReserved (s : State) (i : Nat) : Bool := s.fldOn (FAB_ERG_STATUS i) FAB_ERG_STATUS_RESERVED

/-- Whether an item must carry AUTH (R402). -/
def State.itemCritical (s : State) (it : Item) : Bool :=
  opcodeCritical it.opc || (it.opc == opErgSwitch && s.ergReserved it.unit)

/-- The status of a descriptor at fault, if it is: reserved opcode, authentication missing, bad descriptor (R402). -/
def State.descFault (s : State) (it : Item) : Option Nat :=
  if !opcodeKnown it.opc then some stBadOpcode
  else if s.itemCritical it && !it.auth then some stAuthRequired
  else if it.headerOk && it.unitOk && it.restZero && it.operandsOk && it.extOk then none
  else some stBadDescriptor

/-! ### Executors -/

/-- The number of an executor instance. -/
def execKey : Executor → Nat
  | .dma e => e.val
  | .player p => 16 + p.val
  | .capture => 64
  | .engine e => 65 + e.val
  | .config => 89
  | .taskPort i => 90 + i.val
  | .security => 218
  | .drift => 219
  | .supervisor => 220
  | .scheduler => 221

def keyDma (e : Nat) : Nat := e
def keyPlayer (p : Nat) : Nat := 16 + p
def keyCapture : Nat := 64
def keyEngine (e : Nat) : Nat := 65 + e
def keyConfig : Nat := 89
def keyTask (i : Nat) : Nat := 90 + i
def keySecurity : Nat := 218
def keyDrift : Nat := 219
def keySupervisor : Nat := 220
def keyScheduler : Nat := 221

/-- The depth of an executor's ready queue (R416). The scheduler takes its own items one at a time. -/
def execDepth (k : Nat) : Nat :=
  if k < 16 then 32 else if k < 64 then 4 else if k = 64 then 16 else if k < 89 then 8 else if k = 89 then 16
  else if k < 218 then 16 else if k = 218 then 16 else if k = 219 then 1 else if k = 220 then 4 else 1

/-- The journal entry of an executor (R431); DMA engines, measurement engines and the scheduler have none. -/
def journalEntry (k : Nat) : Option Nat :=
  if 16 ≤ k ∧ k < 64 then some (1 + (k - 16))
  else if k = 64 then some 177
  else if k = 89 then some 178
  else if 90 ≤ k ∧ k < 218 then some (49 + (k - 90))
  else if k = 218 then some 179
  else if k = 219 then some 180
  else if k = 220 then some 181
  else none

/-- The executor an item names (R402, R416); none for DMA that lets the scheduler choose. -/
def Item.execOf (it : Item) : Option Nat :=
  let o := it.opc
  if o = opDma then (if it.unit = 0xFFFF then none else some (keyDma it.unit))
  else if o = opPlay then some (keyPlayer it.unit)
  else if o = opErgSwitch then some (keyTask it.unit)
  else if o = opTask then some (keyTask (it.movedTo.getD it.unit))
  else if o = opEngineLoad ∨ o = opEngineRun then some (keyEngine it.unit)
  else if o = opCaptureCmd then some keyCapture
  else if o = opReadback ∨ o = opImageLoad ∨ o = opErgReserve then some keyConfig
  else if o = opAttest ∨ o = opKey ∨ o = opFirmware ∨ o = opErase ∨ o = opDebugUnlock ∨ o = opOwner then some keySecurity
  else if o = opDriftStart then some keyDrift
  else if o = opStackRepair then some keySupervisor
  else some keyScheduler

end Sys2Proof.Machine
end

