-- ==== Sys2Proof/Machine/Mem.lean ====
section
/-!
DEFINITION. Memory accesses (chapters 09, 10, 11): the oases with their check code and repair, the DRAM lines with their metadata, code
and remap, and the encryption engine that translates, checks and keys every request.
-/
namespace Sys2Proof.Machine

/-! ### The engine's error log (R303, R327) -/

def State.cryLog (s : State) (kind req dom addr : Nat) : State :=
  let s := if s.fldOn CRY_ERR_LOG CRY_ERR_LOG_VALID then s
    else s.setFlds CRY_ERR_LOG [(CRY_ERR_LOG_VALID, 1), (CRY_ERR_LOG_KIND, kind), (CRY_ERR_LOG_REQ, req), (CRY_ERR_LOG_DOMAIN, dom), (CRY_ERR_LOG_ADDR, addr)]
  s.raiseReg 0x0809 dom 0 CRY_ERR_LOG

/-! ### Oases: the check code (R251, R252) -/

/-- The code position of data bit k (R251). -/
def codePos (k : Nat) : Nat :=
  if k < 1 then 3 else if k < 4 then k + 4 else if k < 11 then k + 5 else if k < 26 then k + 6 else if k < 57 then k + 7 else k + 8

/-- Check bits 0 to 6 of 64 data bits, as a number. -/
def checkBits (data : Nat) : Nat := (List.range 64).foldl (fun a k => if natBit data k then a ^^^ codePos k else a) 0

/-- A word with its check bits: data in bits 63:0, check bits in 71:64. -/
def oasEncode (data : Nat) : BitVec 72 :=
  let d := data % 2 ^ 64
  let c := checkBits d
  let n := d + 2 ^ 64 * c
  BitVec.ofNat 72 (n + 2 ^ 71 * (popCount 71 n % 2))

/-- The syndrome and the overall parity of a stored word. -/
def oasSyndrome (w : BitVec 72) : Nat × Nat := (checkBits (natBits w.toNat 0 64) ^^^ natBits w.toNat 64 7, popCount 72 w.toNat % 2)

/-- The bit at a code position: data bit, or check bit 64 to 70. -/
def posBit (p : Nat) : Option Nat :=
  match firstBelow 7 (fun j => 2 ^ j == p) with
  | some j => some (64 + j)
  | none => firstBelow 64 (fun k => codePos k == p)

/-- A stored word read: clean, corrected (with the corrected word), or uncorrectable. -/
inductive OasRead where
  | clean
  | corrected (w : BitVec 72)
  | bad
deriving DecidableEq, Repr

def oasDecode (w : BitVec 72) : OasRead :=
  let (sy, p) := oasSyndrome w
  if sy = 0 ∧ p = 0 then .clean
  else if p = 0 then .bad
  else if sy = 0 then .corrected (w ^^^ BitVec.ofNat 72 (2 ^ 71))
  else if sy ≤ 71 then
    match posBit sy with
    | some b => .corrected (w ^^^ BitVec.ofNat 72 (2 ^ b))
    | none => .bad
  else .bad

/-! ### Oases: words, spares and errors (R249, R260 to R263) -/

def State.oasGrp (s : State) (i : Nat) : OasGrp := s.oas.grps.get (fun _ => {}) i
def State.setOasGrp (s : State) (i : Nat) (g : OasGrp) : State := { s with oas := { s.oas with grps := s.oas.grps.set (fun _ => {}) i g } }
def oasKey (i w : Nat) : Nat := i * 2 ^ 21 + w
def oasBank (w : Nat) : Nat := w % 8
def oasRow (w : Nat) : Nat := w / 8

def OasGrp.spare (g : OasGrp) (bank e : Nat) : Option OasSpare := g.spares.get (fun _ => none) (bank * 8 + e)
/-- The entry that redirects a word: the last one made for its row. -/
def OasGrp.entryOf (g : OasGrp) (w : Nat) : Option Nat :=
  (List.range 8).reverse.find? (fun e => match g.spare (oasBank w) e with | some x => x.row == oasRow w | none => false)
def OasGrp.freeEntry (g : OasGrp) (bank : Nat) : Option Nat :=
  firstBelow 8 (fun e => (g.spare bank e).isNone && !g.badSpares.contains (bank * 8 + e))
def OasGrp.setSpare (g : OasGrp) (bank e : Nat) (x : OasSpare) : OasGrp := { g with spares := g.spares.set (fun _ => none) (bank * 8 + e) (some x) }

/-- The 72 bits that stand for a word, and whether it is poisoned. -/
def State.oasStored (s : State) (i w : Nat) : BitVec 72 × Bool :=
  let g := s.oasGrp i
  match (g.entryOf w).bind (g.spare (oasBank w)) with
  | some x => (x.word, x.poison)
  | none => (s.oas.words.get (fun _ => 0) (oasKey i w), false)

/-- 72 bits put where a word stands; a whole-word write clears poison and drops a pending write-back (R255, R262). -/
def State.oasPut (s : State) (i w : Nat) (v : BitVec 72) : State :=
  let g := s.oasGrp i
  let g := { g with wbs := g.wbs.filter (fun x => x.1 != w) }
  match g.entryOf w with
  | some e =>
    match g.spare (oasBank w) e with
    | some x => s.setOasGrp i (g.setSpare (oasBank w) e { x with word := v, poison := false })
    | none => s
  | none => { s with oas := { s.oas with words := s.oas.words.set (fun _ => 0) (oasKey i w) v } }.setOasGrp i g

/-- A word redirected to a free spare of its bank, or EXHAUSTED set (R262, R263). -/
def State.oasRemap (s : State) (i w : Nat) (v : BitVec 72) (poison selfTest : Bool) : State :=
  let g := s.oasGrp i
  match g.freeEntry (oasBank w) with
  | some e =>
    let g := { g with wbs := g.wbs.filter (fun x => x.1 != w) }.setSpare (oasBank w) e
      { row := oasRow w, poison := poison, selfTest := selfTest, word := v }
    let s := s.setOasGrp i g
    if (g.freeEntry (oasBank w)).isNone then s.setFld (OAS_G_STATUS i) OAS_G_STATUS_EXHAUSTED 1 else s
  | none => (s.setFld (OAS_G_STATUS i) OAS_G_STATUS_EXHAUSTED 1).raiseReg 0x0802 i 0 (OAS_G_STATUS i)

/-- An uncorrectable read counted, logged and reported (R261). -/
def State.oasUncorr (s : State) (i w req : Nat) : State :=
  let s := s.satFld (OAS_G_ERR i) OAS_G_ERR_UNCORR 1
  let s := if s.fldOn (OAS_G_ERR_LOG i) OAS_G_ERR_LOG_VALID then s
    else s.setFlds (OAS_G_ERR_LOG i) [(OAS_G_ERR_LOG_VALID, 1), (OAS_G_ERR_LOG_REQ, req), (OAS_G_ERR_LOG_OFFSET, 8 * w)]
  s.raiseReg 0x0801 i 0 (OAS_G_ERR_LOG i)

def State.oasFailed (s : State) (i : Nat) : Bool := s.fldOn (OAS_G_STATUS i) OAS_G_STATUS_FAILED

/-- A word read by a requester: its data as delivered, whether it was corrected, and whether it is uncorrectable (R252, R260 to R263). -/
def State.oasRead (s : State) (i w req : Nat) : State × Nat × Bool × Bool :=
  let (v, poison) := s.oasStored i w
  let data := natBits v.toNat 0 64
  if s.oasFailed i then (s.oasUncorr i w req, data, false, true)
  else if poison then (s.oasUncorr i w req, data, false, true)
  else match oasDecode v with
    | .clean => (s, data, false, false)
    | .corrected c =>
      let s := s.satFld (OAS_G_ERR i) OAS_G_ERR_CORR 1
      let g := s.oasGrp i
      (s.setOasGrp i { g with wbs := g.wbs.filter (fun x => x.1 != w) ++ [(w, c)] }, natBits c.toNat 0 64, true, false)
    | .bad => ((s.oasUncorr i w req).oasRemap i w v true false, data, false, true)

/-! ### The rings of the capture queues, which lie in the oases (R149, R151, R158) -/

def qOff := 0
def qRun := 1
def qPost := 2
def qFrozen := 3
def qStopped := 4
def qFault := 5
def State.queueState (s : State) (q : Nat) : Nat := s.fld (CAP_Q_STATUS q) CAP_Q_STATUS_STATE
def State.setQueueState (s : State) (q st : Nat) : State := s.setFld (CAP_Q_STATUS q) CAP_Q_STATUS_STATE st
def State.queueMode (s : State) (q : Nat) : Nat := s.fld (CAP_Q_CTL q) CAP_Q_CTL_MODE
def State.queueWell (s : State) (q : Nat) : Nat := s.fld (CAP_Q_RING q) CAP_Q_RING_GROUP
def State.queueLayer (s : State) (q : Nat) : Nat := s.fld (CAP_Q_RING q) CAP_Q_RING_LAYER
def State.queueGroup (s : State) (q : Nat) : Nat := 64 * s.queueLayer q + s.queueWell q
def State.queueDie (s : State) (q : Nat) : Nat := if s.queueLayer q = 0 then 1 else 4
/-- Ring base and size in bytes (R149). -/
def State.ringBase (s : State) (q : Nat) : Nat := s.fld (CAP_Q_RING q) CAP_Q_RING_BASE * 65536
def State.ringSize (s : State) (q : Nat) : Nat := s.fld (CAP_Q_RING q) CAP_Q_RING_SIZE * 65536

/-! ### Sources of trigger lines (R162, R163, R178) -/

/-- A source of late lines that occurs between edges: it belongs to the next edge. -/
def State.pulseNext (s : State) (m : BitVec 64) : State :=
  { s with cap := { s.cap with seq := { s.cap.seq with pulses := s.cap.seq.pulses ||| m } } }

/-- A source of late lines that occurs at the present edge. -/
def State.pulseNow (s : State) (m : BitVec 64) : State :=
  let l := match s.cap.seq.srcs with
    | [] => [m]
    | x :: r => (x ||| m) :: r
  { s with cap := { s.cap with seq := { s.cap.seq with srcs := l } } }

/-- The lines of TRIG_Q that name a condition of a queue. -/
def State.queueLines (s : State) (q cond : Nat) : BitVec 64 :=
  BitVec.ofNat 64 ((List.range 4).foldl (fun m k =>
    let r := CAP_TRIG_Q k
    if s.fldOn r CAP_TRIG_Q_EN ∧ s.fld r CAP_TRIG_Q_QUEUE = q ∧ s.fld r CAP_TRIG_Q_COND = cond then m + 2 ^ (58 + k) else m) 0)

/-- Whether a queue's ring holds a word of a group. -/
def State.ringHolds (s : State) (q i w : Nat) : Bool :=
  s.queueState q != qOff && s.queueGroup q == i && decide (s.ringBase q ≤ 8 * w) && decide (8 * w < s.ringBase q + s.ringSize q)

/-- A word of a queue's ring read by the drain or a consumer: a corrected word and an uncorrectable one count, the latter with its flag, its
event and its trigger lines (R158, R178). -/
def State.ringRead (s : State) (q : Nat) (corr bad : Bool) : State :=
  let s := if corr then s.satFld (CAP_Q_CNT_ECC q) CAP_Q_CNT_ECC_CORR 1 else s
  if bad then
    let s := (s.satFld (CAP_Q_CNT_ECC q) CAP_Q_CNT_ECC_UNCORR 1).setFld (CAP_Q_STATUS q) CAP_Q_STATUS_UNCORR 1
    (s.pulseNext (s.queueLines q 4)).raiseReg 0x0404 q 0 (CAP_Q_STATUS q)
  else s

/-- A word of a group read through BAR4 or by DMA (requesters 0 to 16, R301): where it lies in the ring of a queue that has a consumer, one
in mode 0 or 1, the read is the consumer's (R157, R158). -/
def State.consumerRead (s : State) (i w req : Nat) (corr bad : Bool) : State :=
  if req ≤ 16 ∧ (corr ∨ bad) then
    match (List.range 256).find? (fun q => s.ringHolds q i w && s.queueMode q != 2) with
    | some q => s.ringRead q corr bad
    | none => s
  else s

/-! ### Oases: ring accesses (R253 to R256, R264, R266, R267, R561) -/

/-- A requester's right (R302). -/
def State.rightOf (s : State) (off : Nat) (req : Nat) : Nat := natBits (s.reg (off + 8 * (req / 32))).toNat (2 * (req % 32)) 2

def oasDie (i : Nat) : Nat := if i < 64 then 1 else 4
def State.oasClearing (s : State) (i : Nat) : Bool := s.fldOn (OAS_G_STATUS i) OAS_G_STATUS_CLEARING

/-- A group as an access of this fabric cycle finds it: what earlier cycles used is over. -/
def State.oasNow (s : State) (i : Nat) : OasGrp :=
  let g := s.oasGrp i
  if g.usedAt = s.time.fck + 1 then g else { g with usedAt := s.time.fck + 1, used := [], rmws := [] }

/-- A requester asks for a slot of a word's bank. Where another has asked for the same kind of slot in this fabric cycle they may meet; then
the requester may wait, and the cycles it waits count: how many is timing, so a free value. The fabric port never waits (R253, R264). -/
def State.oasConflict (s : State) (i w req : Nat) (write : Bool) : State :=
  let b := oasBank w
  let g := s.oasNow i
  let met := g.used.any (fun u => u.1 == b && u.2.1 != req && u.2.2 == write)
  let s := s.setOasGrp i { g with used := (b, req, write) :: g.used.filter (· != (b, req, write)) }
  if met ∧ req < 56 then
    let k := (i * 8 + b) * 64 + req
    let n := satAdd 32 (s.oas.conf.get (fun _ => 0) k) (Config.freeValue 32 s.freeCtr).toNat
    { s with oas := { s.oas with conf := s.oas.conf.set (fun _ => 0) k n } }.spend 1
  else s

/-- A whole word written by a requester. Where it meets a read-modify-write of the word, which read the old word, the two writes are ordered
by slot: whether they met, and whether the other's write comes last, is timing, so free (R255). -/
def State.oasWhole (s : State) (i w req : Nat) (v : BitVec 72) : State :=
  let s := (s.oasConflict i w req true).oasPut i w v
  match (s.oasGrp i).rmws.find? (fun x => x.1 == w) with
  | some x => if Config.freeBelow 2 s.freeCtr = 1 then (s.oasPut i w x.2).spend 1 else s.spend 1
  | none => s

/-- Bytes read from a group, word by word; the first status that is not success ends it. -/
def State.oasReadBytes (i req : Nat) : (len : Nat) → (off : Nat) → State → State × Nat × List Byte
  | 0, _, s => (s, 0, [])
  | n + 1, off, s =>
    let w := off / 8
    let first := off % 8 = 0
    let s := if first then s.oasConflict i w req false else s
    let r := if first then s.oasRead i w req else (s, natBits (match oasDecode (s.oasStored i w).1 with
      | .corrected c => c.toNat
      | _ => (s.oasStored i w).1.toNat) 0 64, false, false)
    let s := if first then r.1.consumerRead i w req r.2.2.1 r.2.2.2 else r.1
    if r.2.2.2 then (s, 1, [])
    else
      let t := State.oasReadBytes i req n (off + 1) s
      (t.1, t.2.1, BitVec.ofNat 8 (natBits r.2.1 (8 * (off % 8)) 8) :: t.2.2)

/-- The words of a write, each with its bytes: (word, first byte, bytes). -/
def splitWrite (unit off : Nat) (bytes : List Byte) : (fuel : Nat) → List (Nat × Nat × List Byte)
  | 0 => []
  | k + 1 =>
    if bytes.isEmpty then []
    else
      let n := unit - off % unit
      (off / unit, off % unit, bytes.take n) :: splitWrite unit (off + n) (bytes.drop n) k

/-- One word written by a ring requester: whole, or read, corrected, merged and written (R254). -/
def State.oasWriteWord (s : State) (i req w lo : Nat) (bytes : List Byte) : State × Nat :=
  if s.oasFailed i then (s, 1)
  else if lo = 0 ∧ bytes.length = 8 then (s.oasWhole i w req (oasEncode (ofBytes bytes)), 0)
  else
    let r := (s.oasConflict i w req false).oasRead i w req
    if r.2.2.2 then (r.1, 1)
    else
      let old := toBytes 8 r.2.1
      let v := oasEncode (ofBytes (old.take lo ++ bytes ++ old.drop (lo + bytes.length)))
      let s := (r.1.oasConflict i w req true).oasPut i w v
      let g := s.oasGrp i
      (s.setOasGrp i { g with rmws := (w, v) :: g.rmws.filter (fun x => x.1 != w) }, 0)

/-- A read of bytes by a ring requester: a first part word is read too. -/
def State.oasDoRead (s : State) (i req off len : Nat) : State × Nat × List Byte :=
  let lo := off % 8
  let r := State.oasReadBytes i req (len + lo) (off - lo) s
  (r.1, r.2.1, r.2.2.drop lo)

def State.oasDoWrite (s : State) (i req off : Nat) (bytes : List Byte) : State × Nat :=
  (splitWrite 8 off bytes (bytes.length + 1)).foldl (fun (a : State × Nat) p =>
    if a.2 = 0 then a.1.oasWriteWord i req p.1 p.2.1 p.2.2 else a) (s, 0)

/-- The scheduler store's group, which no other block can use (R419). -/
def State.storeGroup (s : State) : Nat := 64 * s.fld SCH_STORE SCH_STORE_LAYER + s.fld SCH_STORE SCH_STORE_GROUP

/-- A ring access whose rights have been checked, as the group's state has it (R263, R265 to R267): state, status and bytes read. None is
served in Rest. -/
def State.oasServe (s : State) (i req off : Nat) (acc : MemAcc) : State × Nat × List Byte :=
  if s.pwr.st = .rest ∧ !s.pwr.emulated then (s, memWait, [])
  else if s.oasClearing i then (s, if (s.dom (oasDie i)).woa then memWait else 8, [])
  else if s.pwr.inReset.contains (oasDie i) then (s, memWait, [])
  else if s.fldOn (OAS_G_CTL i) OAS_G_CTL_TEST then (s, 7, [])
  else match acc with
    | .read len => s.oasDoRead i req off len
    | .write bytes => let r := s.oasDoWrite i req off bytes; (r.1, r.2, [])

/-- An access of a ring requester to a group (R303, R419, R561): its right first, then the group's state. -/
def State.oasAcc (s : State) (i req off : Nat) (acc : MemAcc) : State × Nat × List Byte :=
  let right := s.rightOf (CRY_OAS_RIGHTS 0) req
  let denied : Bool := match acc with
    | .read _ => decide (right < 2)
    | .write _ => decide (right < 3)
  if denied then (s.cryLog 3 req 0 (i * 2 ^ 24 + off), 2, [])
  else if i = s.storeGroup ∧ req ≠ 22 then (s, 2, [])
  else s.oasServe i req off acc

/-! ### DRAM: the inline code (R280, R281) -/

def gf8Twice (a : Nat) : Nat := let b := a * 2; if natBit b 8 then (b ^^^ 0x11D) % 256 else b
def gf8Mul (a b : Nat) : Nat := (List.range 8).reverse.foldl (fun p k => let q := gf8Twice p; if natBit b k then q ^^^ a else q) 0
def gf8Pow (a : Nat) : Nat → Nat
  | 0 => 1
  | n + 1 => gf8Mul a (gf8Pow a n)

/-- The information symbols m0 to m68 of a line. -/
def infoSymbols (l : DramLine) : List Nat :=
  (List.range 64).map (fun k => natBits l.data.toNat (8 * k) 8) ++ [natBits l.ent.toNat 24 8]
    ++ (List.range 4).map (fun k => natBits l.ent.toNat (32 + 8 * k) 8)

/-- The 72 symbols of a stored line, C0 first. -/
def lineSymbols (l : DramLine) : List Nat := (List.range 3).map (fun k => natBits l.ent.toNat (8 * k) 8) ++ infoSymbols l

/-- The syndromes S0, S1, S2. -/
def lineSyndrome (syms : List Nat) (j : Nat) : Nat := syms.foldr (fun c acc => c ^^^ gf8Mul (gf8Pow 2 j) acc) 0

/-- The coefficients of the generator (x - 1)(x - α)(x - α²), from x² down to x⁰. -/
def lineGenerator : List Nat :=
  let a := gf8Pow 2 1
  let b := gf8Pow 2 2
  [1 ^^^ a ^^^ b, a ^^^ b ^^^ gf8Mul a b, gf8Mul a b]

/-- C2, C1 and C0 of information symbols. -/
def lineCheck (info : List Nat) : List Nat :=
  info.reverse.foldl (fun rem m =>
    let f := m ^^^ rem.headD 0
    List.zipWith (fun r g => r ^^^ gf8Mul f g) (rem.drop 1 ++ [0]) lineGenerator) [0, 0, 0]

/-- An entry formed of TAG and EPOCH over a line's bytes. -/
def formLine (data : BitVec 512) (tag epoch : Nat) : DramLine :=
  let l : DramLine := { data := data, ent := BitVec.ofNat 64 (2 ^ 32 * (tag % 2 ^ 32) + 2 ^ 24 * (epoch % 256)) }
  let c := lineCheck (infoSymbols l)
  { l with ent := BitVec.ofNat 64 (l.ent.toNat + 65536 * c.getD 0 0 + 256 * c.getD 1 0 + c.getD 2 0) }

/-- The line whose 72 symbols these are. -/
def lineOf (syms : List Nat) : DramLine :=
  let b := fun k => syms.getD k 0
  { data := BitVec.ofNat 512 (ofBytes ((List.range 64).map (fun k => BitVec.ofNat 8 (b (3 + k)))))
    ent := BitVec.ofNat 64 (ofBytes ([b 0, b 1, b 2, b 67, b 68, b 69, b 70, b 71].map (BitVec.ofNat 8))) }

/-- A stored line read. -/
inductive LineRead where
  | clean
  | corrected (l : DramLine)
  | bad
deriving DecidableEq, Repr

def lineDecode (l : DramLine) : LineRead :=
  let syms := lineSymbols l
  let s0 := lineSyndrome syms 0
  let s1 := lineSyndrome syms 1
  let s2 := lineSyndrome syms 2
  if s0 = 0 ∧ s1 = 0 ∧ s2 = 0 then .clean
  else if s0 = 0 then .bad
  else match firstBelow 72 (fun e => s1 == gf8Mul s0 (gf8Pow 2 e) && s2 == gf8Mul s1 (gf8Pow 2 e)) with
    | some e => .corrected (lineOf (syms.set e (syms.getD e 0 ^^^ s0)))
    | none => .bad

/-! ### DRAM: geometry (R273 to R278) -/

def State.ctlAt (s : State) (p : Nat) : CtlSt := s.ctl.get (fun _ => {}) p
def State.setCtl (s : State) (p : Nat) (c : CtlSt) : State := { s with ctl := s.ctl.set (fun _ => {}) p c }
def ctlOff := 0
def ctlTraining := 1
def ctlClearing := 2
def ctlReady := 3
def ctlSelfRefresh := 4
def ctlFailed := 5
def ctlResetting := 6
def State.ctlState (s : State) (p : Nat) : Nat := s.fld (DRMC_STATUS p) DRMC_STATUS_STATE
def State.usableMib (s : State) : Nat := match s.variant with | .yx4802 => 58240 | .yx4801 => 29120
def State.ranks (s : State) : Nat := match s.variant with | .yx4802 => 2 | .yx4801 => 1
def setPositionsPerRow : Nat := max 1 (Config.setPositions % 65536)

/-- The window that covers a DRAM address. -/
def State.winOf (s : State) (a : Nat) : Option Nat :=
  firstBelow 16 (fun w =>
    let c := s.reg (DRMC_WIN_CFG w)
    DRMC_WIN_CFG_VALID.on c && decide (DRMC_WIN_CFG_BASE.get c * 2 ^ 20 ≤ a) && decide (a < (DRMC_WIN_CFG_BASE.get c + DRMC_WIN_CFG_SIZE.get c) * 2 ^ 20))

def grainBytes (code : Nat) : Nat := match code with
  | 0 => 256
  | 1 => 1024
  | 2 => 4096
  | 3 => 65536
  | _ => 1048576

/-- The members of a mask in increasing number. -/
def maskMembers (m : Nat) : List Nat := (List.range 32).filter (fun p => natBit m p)

/-- The controller and local line of an address in a window (R275). -/
def State.mapLine (s : State) (w a : Nat) : Nat × Nat :=
  let c := s.reg (DRMC_WIN_CFG w)
  let ms := maskMembers (s.fld (DRMC_WIN_MASK w) DRMC_WIN_MASK_CTRL)
  let n := max 1 ms.length
  let g := grainBytes (DRMC_WIN_CFG_GRAIN.get c)
  let o := a - DRMC_WIN_CFG_BASE.get c * 2 ^ 20
  let chunk := o / g
  (ms.getD (chunk % n) 0, (DRMC_WIN_CFG_LOCAL.get c * 2 ^ 20 + chunk / n * g + o % g) / 64)

/-- The place of a local line: channel, bank number within the channel (rank, bank group, bank as RH_LOG.BANK has them), row (R278). -/
def State.linePlace (s : State) (p line : Nat) : Nat × Nat × Nat :=
  let st := line / 8
  let spr := setPositionsPerRow
  let r := s.ranks
  let mk := fun ch bg ba rk row => (ch, 16 * rk + 4 * bg + ba, row)
  match s.fld (DRMC_CTL p) DRMC_CTL_PRESET with
  | 0 => let q := st / 4; let q2 := q / 4; let q3 := q2 / 4; mk (st % 4) (q % 4) (q2 % 4) (q3 % r) (q3 / r / spr)
  | 1 => let q := st / spr; let q1 := q / 4; let q2 := q1 / 4; let q3 := q2 / 4; mk (q % 4) (q1 % 4) (q2 % 4) (q3 % r) (q3 / r)
  | 2 => let q := st / 4 / spr; let q1 := q / 4; let q2 := q1 / 4; mk (st % 4) (q % 4) (q1 % 4) (q2 % r) (q2 / r)
  | _ => let q := st / 4; let q1 := q / 4 / spr; let q2 := q1 / 4; mk (q % 4) (st % 4) (q1 % 4) (q2 % r) (q2 / r)

/-- The channel of a local line. -/
def State.lineChannel (s : State) (p line : Nat) : Nat := (s.linePlace p line).1

/-- The number of a bank of a controller: channel × 32 + bank. -/
def bankNo (ch bank : Nat) : Nat := ch * 32 + bank

/-! ### DRAM: lines, spares and errors (R282, R287 to R290) -/

def CtlSt.spare (c : CtlSt) (e : Nat) : Option DramSpare := c.spares.get (fun _ => none) e
def CtlSt.entryOf (c : CtlSt) (line : Nat) : Option Nat :=
  firstBelow 16 (fun e => match c.spare e with | some x => x.line == line | none => false)
def CtlSt.setSpare (c : CtlSt) (e : Nat) (x : Option DramSpare) : CtlSt := { c with spares := c.spares.set (fun _ => none) e x }

/-- Whether an entry of the remap table is free: neither used nor lost to a spare that failed (R288, R290). -/
def CtlSt.spareFree (c : CtlSt) (e : Nat) : Bool := (c.spare e).isNone && !c.dead.contains e

/-- What stands for a line, and whether it is poisoned. -/
def CtlSt.stored (c : CtlSt) (line : Nat) : DramLine × Bool :=
  match (c.entryOf line).bind c.spare with
  | some x => (x.val, x.poison)
  | none => (c.lines.get (fun _ => {}) line, false)

/-- A 64-bit entry put at its slot of a metadata line (R279). -/
def putEntry (m : BitVec 512) (slot : Nat) (ent : BitVec 64) : BitVec 512 :=
  (m &&& ~~~(BitVec.ofNat 512 (2 ^ 64 - 1) <<< (64 * slot))) ||| (BitVec.ofNat 512 ent.toNat <<< (64 * slot))

/-- The entry of a line that a channel's cache holds. A redirected line has its entry with its spare, which the cache does not hold
(R283; DESIGN CHOICE, log entry 140). -/
def CtlSt.cached (c : CtlSt) (ch line : Nat) : Option (BitVec 64) :=
  if (c.entryOf line).isSome then none
  else ((c.cache.get (fun _ => []) ch).find? (fun x => x.1 == line / 8)).map (fun x => BitVec.ofNat 64 (natBits x.2.toNat (64 * (line % 8)) 64))

/-- An entry written through to the metadata lines held (R283). -/
def CtlSt.cacheWrite (c : CtlSt) (line : Nat) (ent : BitVec 64) : CtlSt :=
  { c with cache := c.cache.mapVals [] (fun l => l.map (fun (x : Nat × BitVec 512) => if x.1 = line / 8 then (x.1, putEntry x.2 (line % 8) ent) else x)) }

/-- A line with its entry written: poison is cleared and a pending write-back dropped (R282, R288, R290). -/
def CtlSt.putLine (c : CtlSt) (line : Nat) (v : DramLine) : CtlSt :=
  let c := { c with wbs := c.wbs.filter (fun x => x.1 != line) }
  match c.entryOf line with
  | some e =>
    match c.spare e with
    | some x => c.setSpare e (some { x with val := v, poison := false })
    | none => c
  | none => { c.cacheWrite line v.ent with lines := c.lines.set (fun _ => {}) line v }

/-- A line redirected to a free spare; a failing spare's entry moves to a free one (R288, R290). -/
def State.dramRemap (s : State) (p line : Nat) (v : DramLine) (poison : Bool) (cause : Nat) : State :=
  let c := s.ctlAt p
  let c := { c with wbs := c.wbs.filter (fun x => x.1 != line) }
  match firstBelow 16 c.spareFree with
  | some e =>
    let c := match c.entryOf line with
      | some o => { c.setSpare o none with dead := c.dead ++ [o] }
      | none => c
    s.setCtl p (c.setSpare e (some { line := line, poison := poison, cause := cause, val := v }))
  -- All sixteen are used: the line is not remapped.
  | none => (s.setFld (DRMC_STATUS p) DRMC_STATUS_EXHAUSTED 1).raiseReg 0x0805 p 0 (DRMC_STATUS p)

/-- An uncorrectable line counted, logged and reported (R287, R289). -/
def State.dramUncorr (s : State) (p line src req : Nat) : State :=
  let s := s.satFld (DRMC_ERR p) DRMC_ERR_UNCORR 1
  let s := if s.fldOn (DRMC_ERR_LOG p) DRMC_ERR_LOG_VALID then s
    else s.setFlds (DRMC_ERR_LOG p) [(DRMC_ERR_LOG_VALID, 1), (DRMC_ERR_LOG_SOURCE, src), (DRMC_ERR_LOG_REQ, req), (DRMC_ERR_LOG_LINE, line)]
  s.raiseReg 0x0804 p 0 (DRMC_ERR_LOG p)

/-- What a read meets on the link: what its command says of it, or what waits at the controller for its next read (R272). -/
def State.linkMeets (s : State) (p : Nat) (fails : ReadErrs) : State × ReadErrs :=
  let c := s.ctlAt p
  match c.linkErrs with
  | f :: rest => if fails = {} then (s.setCtl p { c with linkErrs := rest }, f) else (s, fails)
  | [] => (s, fails)

/-- A line read by the controller, with what its reads meet on the link (R272): the line after correction, or none when it is
uncorrectable or poisoned (R281, R287, R288). The first read takes its entry from the cache where that holds it; a replay, and the scrub,
read it from the DRAM (R283, R287; log entry 140). `src` is ERR_LOG's SOURCE. -/
def State.dramReadLine (s : State) (p line req src : Nat) (fails : ReadErrs) : State × Option DramLine :=
  let (v, poison) := (s.ctlAt p).stored line
  if poison then (s.dramUncorr p line (if src = 2 then 2 else 0) req, none)
  else
    let (s, fails) := s.linkMeets p fails
    let s := if fails.link = 0 then s else s.satFld (DRMC_ERR2 p) DRMC_ERR2_LINK fails.link
    let first := match (s.ctlAt p).cached (s.lineChannel p line) line with
      | some e => if src = 2 then v else { v with ent := e }
      | none => v
    let again := lineDecode first == .bad || 0 < fails.fail
    let got := if again then v else first
    let dec := lineDecode got
    if dec == .bad || 3 ≤ fails.fail then
      ((s.dramUncorr p line src req).dramRemap p line v true 0, none)
    else
      let s := if again then s.satFld (DRMC_ERR2 p) DRMC_ERR2_REPLAY 1 else s
      match dec with
      | .corrected l =>
        let s := s.satFld (DRMC_ERR p) DRMC_ERR_CORR 1
        let c := s.ctlAt p
        (s.setCtl p { c with wbs := c.wbs.filter (fun x => x.1 != line) ++ [(line, l)] }, some l)
      | _ => (s, some got)

/-- An access of a requester activates a row, unless it hits the open one; whether the controller has closed that row since is free.
The activation is counted, and the threshold brings a refresh-management command and a throttle (R285, R286). Whether a second requester's
throttle on a bank, before that command, falls at the edge of the first is free: then the lower identifier is logged (log entry 141). -/
def State.dramActivate (s : State) (p line req : Nat) : State :=
  let (ch, bank, row) := s.linePlace p line
  let b := bankNo ch bank
  let c := s.ctlAt p
  let closed := Config.freeBelow 2 s.freeCtr = 1
  let s := s.spend 1
  if c.openRow.get (fun _ => none) b = some row ∧ !closed then s
  else
    let k := req * 128 + b
    let old := c.acts.get (fun _ => 0) k
    let thr := max 16 (s.fld (DRMC_RH p) DRMC_RH_THR)
    let c := { c with openRow := c.openRow.set (fun _ => none) b (some row), acts := c.acts.set (fun _ => 0) k (old + 1) }
    if old + 1 < thr ∨ thr ≤ old then s.setCtl p c
    else
      let met := c.refDue.contains b ∧ Config.freeBelow 2 s.freeCtr = 1
      let c := { c with refDue := c.refDue.filter (· != b) ++ [b], throttled := c.throttled.filter (· != (req, b)) ++ [(req, b)] }
      let s := ((s.setCtl p c).spend 1).satFld (DRMC_RH_LOG p) DRMC_RH_LOG_THROTTLES 1
      let log := s.reg (DRMC_RH_LOG p)
      if DRMC_RH_LOG_VALID.on log then
        if met ∧ DRMC_RH_LOG_CH.get log = ch ∧ DRMC_RH_LOG_BANK.get log = bank ∧ req < DRMC_RH_LOG_REQ.get log then
          s.setFld (DRMC_RH_LOG p) DRMC_RH_LOG_REQ req
        else s
      else s.setFlds (DRMC_RH_LOG p) [(DRMC_RH_LOG_VALID, 1), (DRMC_RH_LOG_CH, ch), (DRMC_RH_LOG_BANK, bank), (DRMC_RH_LOG_REQ, req)]

/-- The metadata line of a set as it is stored (R279). -/
def CtlSt.metaLine (c : CtlSt) (st : Nat) : BitVec 512 :=
  (List.range 8).foldl (fun m j => putEntry m j (c.lines.get (fun _ => {}) (8 * st + j)).ent) 0

/-- A channel's metadata cache touched by a set: 64 lines, and which one a new one displaces is free (R283). -/
def State.cacheTouch (s : State) (p line : Nat) : State :=
  let ch := s.lineChannel p line
  let c := s.ctlAt p
  let l := c.cache.get (fun _ => []) ch
  if l.any (fun x => x.1 == line / 8) then s
  else
    let l := if l.length < 64 then l else l.eraseIdx (Config.freeBelow 64 s.freeCtr)
    (s.setCtl p { c with cache := c.cache.set (fun _ => []) ch (l ++ [(line / 8, c.metaLine (line / 8))]) }).spend 1

/-! ### Keys (R304, R305, R308, R309, R316, R321) -/

def State.domCovers (s : State) (d a : Nat) : Bool :=
  let c := s.reg (CRY_DOM_CFG d)
  CRY_DOM_CFG_VALID.on c && decide (CRY_DOM_CFG_BASE.get c * 2 ^ 20 ≤ a) && decide (a < (CRY_DOM_CFG_BASE.get c + CRY_DOM_CFG_SIZE.get c) * 2 ^ 20)
def State.keyDomOf (s : State) (a : Nat) : Option Nat := firstBelow 16 (fun d => s.domCovers d a)
def State.strictOf (s : State) (a : Nat) : Option Nat :=
  firstBelow 8 (fun t =>
    let c := s.reg (CRY_STRICT_CFG t)
    CRY_STRICT_CFG_VALID.on c && decide (CRY_STRICT_CFG_BASE.get c * 65536 ≤ a) && decide (a < (CRY_STRICT_CFG_BASE.get c + CRY_STRICT_CFG_SIZE.get c) * 65536))

def State.domKey (s : State) (d : Nat) : BitVec 256 := s.sec.domKeys.get (fun _ => 0) d
def State.newKey (s : State) (d : Nat) : BitVec 256 := s.sec.newKeys.get (fun _ => 0) d
def State.domEpoch (s : State) (d : Nat) : Nat := s.fld (CRY_DOM_KEY d) CRY_DOM_KEY_EPOCH
def State.newEpoch (s : State) (d : Nat) : Nat := s.fld (CRY_DOM_KEY d) CRY_DOM_KEY_NEW_EPOCH

/-- Whether a drift of a domain is under way. -/
def State.drifting (s : State) (d : Nat) : Bool := s.fldOn CRY_DRIFT_STATUS CRY_DRIFT_STATUS_STATE && s.fld CRY_DRIFT_CTL CRY_DRIFT_CTL_DOMAIN == d
def State.boundary (s : State) : Nat := s.fld CRY_DRIFT_BOUNDARY CRY_DRIFT_BOUNDARY_LINE * 64
def State.checkpoint (s : State) : Nat := s.fld CRY_DRIFT_CHECKPOINT CRY_DRIFT_CHECKPOINT_LINE * 64
def driftStep : Nat := 64 * 2 ^ 20
/-- Whether an address lies in the uncertain zone. -/
def State.inZone (s : State) (a : Nat) : Bool := s.mem.zone && decide (s.checkpoint ≤ a) && decide (a < s.checkpoint + driftStep)

/-- The AES input X(b, t) of R308. -/
def keyInput (lineNo b e d : Nat) (strict mask : Bool) : BitVec 128 :=
  BitVec.ofNat 128 (lineNo % 2 ^ 40 + 2 ^ 40 * (b + 4 * bit01 strict + 8 * bit01 mask) + 2 ^ 48 * (e % 256) + 2 ^ 56 * (d % 16))

/-- A line's bytes exclusive-or its keystream. -/
def keyStream (key : BitVec 256) (lineNo e d : Nat) (strict : Bool) : BitVec 512 :=
  BitVec.ofNat 512 ((List.range 4).foldl (fun a b => a + 2 ^ (128 * b) * (aes256 key (keyInput lineNo b e d strict false)).toNat) 0)

/-- The product in GF(2^32) modulo x^32 + x^7 + x^3 + x^2 + 1. -/
def gf32Mul (a b : Nat) : Nat :=
  (List.range 32).reverse.foldl (fun p k =>
    let q := p * 2
    let q := if natBit q 32 then (q ^^^ 0x8D) % 2 ^ 32 else q
    if natBit b k then q ^^^ a else q) 0

/-- hk of a key (R309). -/
def hashKey (key : BitVec 256) : Nat := (aes256 key (BitVec.ofNat 128 (2 ^ 120 * 0xFF))).toNat % 2 ^ 32
/-- The key check value (R306). -/
def keyCheckValue (key : BitVec 256) : Nat := (aes256 key (BitVec.ofNat 128 (2 ^ 120 * 0xFE))).toNat % 2 ^ 16

/-- The integrity tag of a line's ciphertext (R309). -/
def lineTag (key : BitVec 256) (lineNo e d : Nat) (strict : Bool) (ct : BitVec 512) : Nat :=
  let hk := hashKey key
  let mk := (aes256 key (keyInput lineNo 0 e d strict true)).toNat % 2 ^ 32
  let words := (List.range 16).map (fun j => natBits ct.toNat (32 * j) 32)
    ++ [natBits lineNo 0 32, natBits lineNo 32 3 + 256 * (e % 256) + 65536 * (d % 16) + 2 ^ 20 * bit01 strict]
  words.foldl (fun h w => gf32Mul (h ^^^ w) hk) 0 ^^^ mk

def DramLine.tag (l : DramLine) : Nat := natBits l.ent.toNat 32 32
def DramLine.epoch (l : DramLine) : Nat := natBits l.ent.toNat 24 8
def DramLine.blank (l : DramLine) : Bool := l.data == 0 && l.ent == 0

/-- The keys under which a line may stand, with the expected epoch outside strict windows, in the order tried (R311, R316, R321). -/
def State.readKeys (s : State) (d a : Nat) : List (BitVec 256 × Nat) :=
  let old := (s.domKey d, s.domEpoch d)
  let new := (s.newKey d, s.newEpoch d)
  if !s.drifting d then [old]
  else if s.inZone a then [new, old]
  else if a < s.boundary then [new]
  else [old]

/-- The key and epoch under which a line is written. -/
def State.writeKey (s : State) (d a : Nat) : BitVec 256 × Nat :=
  if s.drifting d ∧ (s.inZone a ∨ a < s.boundary) then (s.newKey d, s.newEpoch d) else (s.domKey d, s.domEpoch d)

/-- A line opened under a list of keys: its plaintext and the place of the key, when epoch and tag verify. -/
def openUnder (keys : List (BitVec 256 × Nat)) (lineNo d : Nat) (strict : Bool) (l : DramLine) : Option (BitVec 512) :=
  keys.findSome? (fun k =>
    let e := if strict then l.epoch else k.2
    if l.epoch = e ∧ lineTag k.1 lineNo e d strict l.data = l.tag then some (l.data ^^^ keyStream k.1 lineNo e d strict) else none)

/-- The checks of R311 on a line read for plaintext: the plaintext, or none. -/
def State.openLine (s : State) (d a : Nat) (l : DramLine) : Option (BitVec 512) :=
  if l.blank then (if s.fldOn (CRY_DOM_CFG d) CRY_DOM_CFG_BLANK_OK then some 0 else none)
  else openUnder (s.readKeys d a) (a / 64) d (s.strictOf a).isSome l

/-- A line sealed under a key; in a strict window under the next counter of the entry it replaces (R312, R314). -/
def sealLine (key : BitVec 256) (lineNo e d : Nat) (strict : Bool) (plain : BitVec 512) : DramLine :=
  let ct := plain ^^^ keyStream key lineNo e d strict
  formLine ct (lineTag key lineNo e d strict ct) e

/-- An integrity failure (R311, R313). -/
def State.integFail (s : State) (d kind req a : Nat) : State :=
  (s.satFld (CRY_DOM_STATUS d) CRY_DOM_STATUS_INTEG 1).cryLog kind req d a

/-- A line written by the engine over the entry `old`. -/
def State.writeSealed (s : State) (p line d a : Nat) (old : DramLine) (plain : BitVec 512) : State :=
  let k := s.writeKey d a
  match s.strictOf a with
  | none => s.setCtl p ((s.ctlAt p).putLine line (sealLine k.1 (a / 64) k.2 d false plain))
  | some t =>
    let e := if old.blank then 0 else old.epoch
    let wrap := e = 255
    let e := if wrap then 1 else e + 1
    let s := s.setCtl p ((s.ctlAt p).putLine line (sealLine k.1 (a / 64) e d true plain))
    if wrap then (s.satFld (CRY_STRICT_WRAPS t) CRY_STRICT_WRAPS_WRAPS 1).raiseReg 0x080A t 0 (CRY_STRICT_WRAPS t) else s

/-! ### Requests (R303, R561) -/

/-- The first three checks of R561: the status that answers a request, or the controller and the request it takes. -/
def State.checkRequest (s : State) (req a : Nat) (op : LineOp) : State × Sum Nat (Nat × DramReq) :=
  match s.keyDomOf a with
  | none => (s.cryLog 4 req 0 a, .inl 5)
  | some d =>
    let right := s.rightOf (CRY_DOM_RIGHTS d 0) req
    let denied : Bool := match op with
      | .read => right == 0
      | .write _ _ => decide (right < 3)
    if denied then ((s.satFld (CRY_DOM_STATUS d) CRY_DOM_STATUS_DENIED 1).cryLog 2 req d a, .inl 2)
    else match s.winOf a with
      | none => (s, .inl 4)
      | some w =>
        let (p, line) := s.mapLine w a
        (s, .inr (p, { id := s.mem.nextId, req := req, dom := d, addr := a, line := line, plain := right != 1, op := op }))

/-- The fourth check: the controller's state. A request for a domain that wakes, or whose logic is in reset, waits (R296, R380, R561). -/
def State.checkController (s : State) (p : Nat) : State × Nat :=
  let st := s.ctlState p
  if st = ctlFailed then (s, 6)
  else if st = ctlReady ∨ st = ctlResetting then s.meetDomain (0x200 + p)
  else if st = ctlSelfRefresh then
    let (s, x) := s.meetDomain (0x200 + p)
    (s, if x = 0 then memWait else x)
  else (s, 7)

/-- A request translated: its answer, or the controller's request (R561). -/
def State.translate (s : State) (req a : Nat) (op : LineOp) : State × Sum Nat (Nat × DramReq) :=
  match s.checkRequest req a op with
  | (s, .inl st) => (s, .inl st)
  | (s, .inr (p, q)) =>
    match s.checkController p with
    | (s, 0) => (s, .inr (p, q))
    | (s, st) => (s, .inl st)

/-- A line's bytes merged with those of a write. -/
def mergeLine (old data : BitVec 512) (mask : BitVec 64) : BitVec 512 :=
  let m : BitVec 512 := BitVec.ofNat 512 ((List.range 64).foldl (fun a k => if natBit mask.toNat k then a + 255 * 2 ^ (8 * k) else a) 0)
  (old &&& ~~~m) ||| (data &&& m)

/-- A request performed at its controller: status and line (R282, R283, R302, R311 to R314). -/
def State.performLine (s : State) (p : Nat) (fails : ReadErrs) (q : DramReq) : State × Nat × BitVec 512 :=
  let s := (s.dramActivate p q.line q.req).cacheTouch p q.line
  match q.op with
  | .read =>
    let s := s.wrapFld (DRMC_CNT_RD p) DRMC_CNT_RD_LINES 1
    match s.dramReadLine p q.line q.req 0 fails with
    | (s, none) => (s, 1, 0)
    | (s, some l) =>
      if !q.plain then (s, 0, l.data)
      else match s.openLine q.dom q.addr l with
        | some v => (s, 0, v)
        | none => (s.integFail q.dom 0 q.req q.addr, 3, 0)
  | .write data mask =>
    let put : State → DramLine → BitVec 512 → State := fun s old v =>
      (s.wrapFld (DRMC_CNT_WR p) DRMC_CNT_WR_LINES 1).writeSealed p q.line q.dom q.addr old v
    if mask = BitVec.allOnes 64 then (put s ((s.ctlAt p).stored q.line).1 data, 0, 0)
    else
      match s.dramReadLine p q.line q.req 1 fails with
      | (s, none) => (s, 1, 0)
      | (s, some l) =>
        match s.openLine q.dom q.addr l with
        | some v => (put s l (mergeLine v data mask), 0, 0)
        | none => (s.integFail q.dom 1 q.req q.addr, 3, 0)

/-- The requests of an access, line by line: (address of the line, first byte, operation). -/
def accLines (addr : Nat) (acc : MemAcc) : List (Nat × Nat × Nat × LineOp) :=
  match acc with
  | .read len =>
    (List.range ((addr % 64 + len + 63) / 64)).map (fun k =>
      let a := (addr / 64 + k) * 64
      let lo := if k = 0 then addr % 64 else 0
      (a, lo, min (64 - lo) (addr + len - a - lo), .read))
  | .write bytes =>
    (splitWrite 64 addr bytes (bytes.length + 1)).map (fun x =>
      (x.1 * 64, x.2.1, x.2.2.length,
        .write (BitVec.ofNat 512 (2 ^ (8 * x.2.1) * ofBytes x.2.2)) (BitVec.ofNat 64 (2 ^ x.2.1 * (2 ^ x.2.2.length - 1)))))

/-- Whether an access writes. -/
def accWrites : MemAcc → Bool
  | .read _ => false
  | .write _ => true

/-- A failed access of BAR4 (R391): no data, the log where it is free, the event, and the record of advanced error reporting. -/
def State.bar4Fail (s : State) (write : Bool) (status off : Nat) : State :=
  let s := { s with host := { s.host with aer := s.host.aer + 1, answer := if write then s.host.answer else none } }
  let s := if s.fldOn QIF_BAR4_ERR QIF_BAR4_ERR_VALID then s
    else s.setFlds QIF_BAR4_ERR [(QIF_BAR4_ERR_VALID, 1), (QIF_BAR4_ERR_WRITE, bit01 write), (QIF_BAR4_ERR_STATUS, status), (QIF_BAR4_ERR_OFFSET, off)]
  s.raiseReg 0x0C03 0 0 QIF_BAR4_ERR

/-- The answer of an access that core `dbgCore` made over the debug port (R526). -/
def State.debugAnswer (s : State) (write : Bool) (status : Nat) (bytes : List Byte) : State :=
  let c := s.mem.dbgCore
  if status ≠ 0 then s.setFld (DBG_CORE_STATUS c) DBG_CORE_STATUS_ACC_ERR 1
  else if write then s
  else s.setReg (DBG_CORE_ACC_DATA c) (BitVec.ofNat 64 (ofBytes ((bytes.drop s.mem.dbgOff).take 8)))

/-- The answer of a request put as a command of its own; one of requester 0 that fails is a failed access of BAR4, one of requester 20 is
the debug port's (R301, R391). -/
def State.answerMem (s : State) (req : Nat) (write : Bool) (off id status : Nat) (bytes : List Byte) : State :=
  let s := { s with mem := { s.mem with answers := ({ id := id, status := status, bytes := bytes } :: s.mem.answers).take 64 } }
  if req = 20 then s.debugAnswer write status bytes
  else if req = 0 ∧ status ≠ 0 then s.bar4Fail write status off else s

/-- The number of the next request. -/
def State.nextReq (s : State) : State := { s with mem := { s.mem with nextId := s.mem.nextId + 1 } }

/-! ### Requests queued and served (R283, R285, R292) -/

/-- A request put to the engine line by line: answered, or queued at its controller (R283, R561). -/
def State.dramRequest (s : State) (req addr : Nat) (acc : MemAcc) : State :=
  (accLines addr acc).foldl (fun s l =>
    let id := s.mem.nextId
    match s.checkRequest req l.1 l.2.2.2 with
    | (s, .inl st) => s.nextReq.answerMem req (l.2.2.2 != .read) l.1 id st []
    | (s, .inr (p, q)) =>
      match s.checkController p with
      | (s, st) =>
        if st = 0 ∨ st = memWait then s.nextReq.setCtl p { s.ctlAt p with queue := (s.ctlAt p).queue ++ [q] }
        else s.nextReq.answerMem req (l.2.2.2 != .read) l.1 id st []) s

def State.retraining (s : State) (p ch : Nat) : Bool := natBit (s.fld (DRMC_STATUS p) DRMC_STATUS_RETRAINING) ch

/-- Whether a delay token stands before a request: its requester is throttled on the bank, and it does not hit the open row (R285, R286). -/
def State.tokenBefore (s : State) (p : Nat) (q : DramReq) : Bool :=
  let (ch, bank, row) := s.linePlace p q.line
  let c := s.ctlAt p
  c.throttled.contains (q.req, bankNo ch bank) && c.openRow.get (fun _ => none) (bankNo ch bank) != some row

/-- The first request of a queue that may be served. One whose channel is out for retraining waits. One behind a token that still
runs waits too, with every later request of its requester: bit r of `runs` tells it of requester r (R285). -/
def State.dramFirst (s : State) (p : Nat) (runs : Nat) : (late : List Nat) → List DramReq → Option DramReq
  | _, [] => none
  | late, q :: rest =>
    if late.contains q.req then State.dramFirst s p runs late rest
    else if s.tokenBefore p q ∧ natBit runs q.req then State.dramFirst s p runs (q.req :: late) rest
    else if s.retraining p (s.lineChannel p q.line) then State.dramFirst s p runs late rest
    else some q

/-- The first queued request that may be served, performed while the controller is READY. Which tokens have run out is timing, so a
free value. -/
def State.dramServe (s : State) (p : Nat) (fails : ReadErrs) : State :=
  if s.ctlState p ≠ ctlReady then s
  else
    let runs := (Config.freeValue 64 s.freeCtr).toNat
    let s := if (s.ctlAt p).throttled.isEmpty then s else s.spend 1
    let c := s.ctlAt p
    match s.dramFirst p runs [] c.queue with
    | none => s
    | some q =>
      let s := s.setCtl p { c with queue := c.queue.filter (fun x => x.id != q.id) }
      let r := s.performLine p fails q
      r.1.answerMem q.req (q.op != .read) q.addr q.id r.2.1 (if r.2.1 = 0 ∧ q.op = .read then toBytes 64 r.2.2.toNat else [])

/-- The requests queued at a controller performed, as far as they may be (R283). -/
def State.dramDrain (s : State) (p : Nat) : State := (List.range (s.ctlAt p).queue.length).foldl (fun s _ => s.dramServe p {}) s

/-- Whether a line request must wait at its controller: its channel is out for retraining, or an earlier request of its requester waits
there (R283, R292). -/
def State.lineWaits (s : State) (p line req : Nat) : Bool :=
  s.retraining p (s.lineChannel p line) || (s.ctlAt p).queue.any (fun q => q.req == req)

/-- The controllers and lines that an access is for. -/
def State.accTargets (s : State) (addr : Nat) (acc : MemAcc) : List (Nat × Nat) :=
  (accLines addr acc).filterMap (fun l => (s.winOf l.1).map (fun w => s.mapLine w l.1))

/-- An access carried through line by line at once, for a requester inside the device, after the requests that its controllers had
before it (R283): the first status that is not success ends it, and the bytes read so far are given. One that must wait begins when all
its lines may be performed. -/
def State.dramAcc (s : State) (req addr : Nat) (acc : MemAcc) : State × Nat × List Byte :=
  let ts := s.accTargets addr acc
  let s := (ts.map (·.1)).eraseDups.foldl (fun s p => s.dramDrain p) s
  if ts.any (fun t => s.lineWaits t.1 t.2 req) then (s, memWait, [])
  else
    (accLines addr acc).foldl (fun (x : State × Nat × List Byte) l =>
      if x.2.1 ≠ 0 then x
      else match x.1.translate req l.1 l.2.2.2 with
        | (s, .inl st) => (s, st, x.2.2)
        | (s, .inr (p, q)) =>
          let r := s.performLine p {} q
          match l.2.2.2 with
          | .read => (r.1, r.2.1, if r.2.1 = 0 then x.2.2 ++ ((toBytes 64 r.2.2.toNat).drop l.2.1).take l.2.2.1 else x.2.2)
          | .write _ _ => (r.1, r.2.1, x.2.2)) (s, 0, [])

/-- A write that its requester does not wait for: what must wait is queued. -/
def State.dramPut (s : State) (req addr : Nat) (bytes : List Byte) : State :=
  let r := s.dramAcc req addr (.write bytes)
  if r.2.1 = memWait then r.1.dramRequest req addr (.write bytes) else r.1

/-- An access of a requester that needs plaintext rights, a player or an engine: with ciphertext rights it is denied (R183, R233). -/
def State.plainAcc (s : State) (req addr : Nat) (acc : MemAcc) : State × Nat × List Byte :=
  match s.keyDomOf addr with
  | some d =>
    if s.rightOf (CRY_DOM_RIGHTS d 0) req = 1 then
      ((s.satFld (CRY_DOM_STATUS d) CRY_DOM_STATUS_DENIED 1).cryLog 2 req d addr, 2, [])
    else s.dramAcc req addr acc
  | none => s.dramAcc req addr acc

end Sys2Proof.Machine
end

