-- ==== Sys2Proof/Machine/Dram.lean ====
section
/-!
DEFINITION. The memory controllers and the map windows, and the commands on them (chapter 10), with the set-up of window 0, key domain 0 and
the spill region that follows training (R277, R307, R421).
-/
namespace Sys2Proof.Machine

/-! ### Requests -/

/-- REQUEST_TRANSLATE (R561). -/
def execRequestTranslate (req : ReqId) (addr : Nat) (acc : MemAcc) (s : State) : Host.Outcome State Fault Refusal :=
  done (s.dramRequest req addr acc)

/-- DRAM_REQUEST (R283): `failReads` is what the reads it makes meet on the link (R272, R287). -/
def execDramRequest (p : CtlNo) (failReads : ReadErrs) (s : State) : Host.Outcome State Fault Refusal := done (s.dramServe p failReads)

/-! ### Row disturbance and refresh (R284 to R286) -/

/-- THROTTLE_HOLD_EXPIRY (R285). -/
def execThrottleHoldExpiry (p : CtlNo) (req : ReqId) (bank : Nat) (s : State) : Host.Outcome State Fault Refusal :=
  let c := s.ctlAt p
  done (s.setCtl p { c with throttled := c.throttled.filter (· != (req.val, bank)) })

/-- ACTIVATION_COUNTER_CLEAR (R285). -/
def execActivationCounterClear (p : CtlNo) (s : State) : Host.Outcome State Fault Refusal :=
  done (s.setCtl p { s.ctlAt p with acts := {} })

/-- A refresh-management command to a bank: its row is closed and its counters are cleared (R285). -/
def CtlSt.refManage (c : CtlSt) (bank : Nat) : CtlSt :=
  { c with openRow := c.openRow.set (fun _ => none) bank none, refDue := c.refDue.filter (· != bank),
           acts := { cells := c.acts.cells.filter (fun x => x.1 % 128 != bank) } }

/-- A refresh of a bank: its row is closed. A bank owed a refresh-management command, by its counters or by the DRAM's own requirement,
receives it; one whose channel retrains receives it after that (R284 to R286). -/
def State.refreshBank (s : State) (p bank : Nat) (own : Bool) : State :=
  if s.ctlState p ≠ ctlReady then s
  else
    let c := s.ctlAt p
    let owed := own || c.refDue.contains bank
    if s.retraining p (bank / 32) then (if owed then s.setCtl p { c with refDue := c.refDue.filter (· != bank) ++ [bank] } else s)
    else if owed then s.setCtl p (c.refManage bank)
    else s.setCtl p { c with openRow := c.openRow.set (fun _ => none) bank none }

/-- REFRESH (R284): `bank` is channel × 32 + bank; `own` says that the DRAM's own requirement asks for refresh management of it now. -/
def execRefresh (p : CtlNo) (bank : Nat) (own : Bool) (s : State) : Host.Outcome State Fault Refusal := done (s.refreshBank p (bank % 128) own)

/-! ### Retraining (R292) -/

/-- A channel asked to retrain: at once, or after those before it. -/
def State.askRetrain (s : State) (p ch : Nat) : State :=
  let c := s.ctlAt p
  if s.ctlState p ≠ ctlReady ∨ c.retrain.contains ch then s
  else
    let s := s.setCtl p { c with retrain := c.retrain ++ [ch] }
    if c.retrain.isEmpty then s.setFld (DRMC_STATUS p) DRMC_STATUS_RETRAINING (2 ^ ch) else s

/-- REFRESH_REPORT_POLL (R284, R292): a change of the report brings retraining. -/
def execRefreshReportPoll (p : CtlNo) (ch : Fin 4) (rate : BitVec 5) (s : State) : Host.Outcome State Fault Refusal :=
  let c := s.ctlAt p
  let old := c.rate.get (fun _ => none) ch
  let s := s.setCtl p { c with rate := c.rate.set (fun _ => none) ch (some rate.toNat) }
  if old.isSome ∧ old ≠ some rate.toNat then done (s.askRetrain p ch) else done s

/-- RETRAIN_PERIODIC (R292): a RETRAIN of zero leaves it out. -/
def execRetrainPeriodic (p : CtlNo) (ch : Fin 4) (s : State) : Host.Outcome State Fault Refusal :=
  if s.fldOn (DRMC_CTL p) DRMC_CTL_RETRAIN then done (s.askRetrain p ch) else done s

/-- The counters of a controller zeroed (R299). -/
def State.clearCounts (s : State) (p : Nat) : State :=
  ((s.setReg (DRMC_ERR p) 0).setReg (DRMC_ERR2 p) 0).setFld (DRMC_RH_LOG p) DRMC_RH_LOG_THROTTLES 0

/-- A write of DRMC[p].CMD (R292, R299). -/
def State.ctlCmdWrite (s : State) (p : Nat) (data : Data) : State :=
  let s := if DRMC_CMD_CLR_CNT.on data then s.clearCounts p else s
  ((List.range 4).filter (fun ch => natBit (DRMC_CMD_RETRAIN.get data) ch)).foldl (fun s ch => s.askRetrain p ch) s

/-- CMD_RETRAIN (R292). -/
def execCmdRetrain (p : CtlNo) (data : Data) (s : State) : Host.Outcome State Fault Refusal :=
  done (s.regWrite (DRMC_CMD p) data (fun s => s.ctlCmdWrite p data))

/-- CLR_CNT (R299). -/
def execClrCnt (p : CtlNo) (data : Data) (s : State) : Host.Outcome State Fault Refusal :=
  done (s.regWrite (DRMC_CMD p) data (fun s => s.ctlCmdWrite p data))

/-- A controller FAILED: its queued requests are answered memory failed (R291). -/
def State.ctlFail (s : State) (p mask : Nat) : State :=
  let s := s.setFlds (DRMC_STATUS p) [(DRMC_STATUS_STATE, ctlFailed), (DRMC_STATUS_CH_FAILED, mask), (DRMC_STATUS_RETRAINING, 0)]
  let q := (s.ctlAt p).queue
  let s := s.setCtl p { s.ctlAt p with queue := [], retrain := [], fails := {} }
  let s := q.foldl (fun s x => s.answerMem x.req (x.op != .read) x.addr x.id 6 []) s
  s.raiseReg 0x0806 p 0 (DRMC_STATUS p)

/-- The refresh-management commands due on a channel's banks issued (R286). -/
def CtlSt.manageDue (c : CtlSt) (ch : Nat) : CtlSt := (c.refDue.filter (fun b => b / 32 == ch)).foldl (fun c b => c.refManage b) c

/-- A retraining's end: refresh-management commands that fell due come first, and the next channel's retraining begins (R286). One that fails is repeated up to three times; after that the channel is trained in
full, and a failure there leaves the controller FAILED (R292). -/
def State.retrainEnd (s : State) (p ch : Nat) (ok : Bool) : State :=
  let c := s.ctlAt p
  if !s.retraining p ch then s
  else if ok then
    let rest := c.retrain.filter (· != ch)
    let s := s.setCtl p ({ c with retrain := rest, fails := c.fails.set (fun _ => 0) ch 0 }.manageDue ch)
    s.setFld (DRMC_STATUS p) DRMC_STATUS_RETRAINING (match rest with | [] => 0 | n :: _ => 2 ^ n)
  else
    let n := c.fails.get (fun _ => 0) ch + 1
    if n < 5 then s.setCtl p { c with fails := c.fails.set (fun _ => 0) ch n } else s.ctlFail p (2 ^ ch)

/-- RETRAIN_END (R292). -/
def execRetrainEnd (p : CtlNo) (ch : Fin 4) (ok : Bool) (s : State) : Host.Outcome State Fault Refusal := done (s.retrainEnd p ch ok)

/-! ### Training, clearing and the set-up after them (R277, R291, R293, R307, R421) -/

/-- A key installed in a domain, with its check value (R306). -/
def State.installKey (s : State) (d : Nat) (key : BitVec 256) (epoch : Nat) : State :=
  let s := { s with sec := { s.sec with domKeys := s.sec.domKeys.set (fun _ => 0) d key } }
  s.setFlds (CRY_DOM_KEY d) [(CRY_DOM_KEY_KEY_VALID, 1), (CRY_DOM_KEY_EPOCH, epoch), (CRY_DOM_KEY_KCV, keyCheckValue key)]

/-- Every requester right 3, the debug port right 0 (R307). -/
def rightsAtStart : Nat → Data
  | 0 => 0xFFFFFCFFFFFFFFFF
  | _ => 0xFFFFFFFFFFFFFFFF

/-- Key domain 0 over window 0, under a key the security controller generates (R307); the key is a free value. -/
def State.setUpKeys (s : State) (size : Nat) : State :=
  let key := Config.freeValue 256 s.freeCtr
  let s := (s.spend 1).installKey 0 key 1
  let s := s.setFlds (CRY_DOM_CFG 0) [(CRY_DOM_CFG_VALID, bit01 (size != 0)), (CRY_DOM_CFG_BLANK_OK, 1), (CRY_DOM_CFG_SIZE, size), (CRY_DOM_CFG_BASE, 0)]
  [0, 1].foldl (fun s k => (s.setReg (CRY_DOM_RIGHTS 0 k) (rightsAtStart k)).setReg (CRY_OAS_RIGHTS k) (rightsAtStart k)) s

/-- Window 0, and the spill region at its top (R277, R421). -/
def State.setUpWindow (s : State) : State :=
  let mask := (List.range 32).foldl (fun m p =>
    let st := s.ctlState p
    if st = ctlOff ∨ st = ctlTraining ∨ st = ctlFailed then m else m + 2 ^ p) 0
  let size := (maskMembers mask).length * s.usableMib
  let s := s.setReg (DRMC_WIN_MASK 0) (BitVec.ofNat 64 mask)
  let s := s.setFlds (DRMC_WIN_CFG 0) [(DRMC_WIN_CFG_VALID, bit01 (size != 0)), (DRMC_WIN_CFG_GRAIN, 2), (DRMC_WIN_CFG_LOCAL, 0),
    (DRMC_WIN_CFG_SIZE, size), (DRMC_WIN_CFG_BASE, 0)]
  let s := if s.mem.setKeys then s.setUpKeys size else s
  let s := s.setFlds SCH_SPILL [(SCH_SPILL_VALID, bit01 (1024 ≤ size)), (SCH_SPILL_BASE, (size / 1024 - 1) * 1024)]
  { s with mem := { s.mem with setUp := false, setKeys := false } }

/-- A controller whose channels begin to train (R291): one that is OFF, as after power-on or in Dormant, and whose domain is up. -/
def State.trainCtl (s : State) (p : Nat) : State :=
  if s.clk.rootRun ∧ s.ctlState p = ctlOff ∧ (s.dom (0x200 + p)).st = domUp then s.setFld (DRMC_STATUS p) DRMC_STATUS_STATE ctlTraining else s

/-- Every controller that is OFF begins to train, as the root first locks (R291, R496 step 9). -/
def State.trainAll (s : State) : State := (List.range 32).foldl (fun s p => s.trainCtl p) s

/-- A controller's training ended (R291, R293, R295). When no controller is training any more, the set-up follows. -/
def State.trainingEnd (s : State) (p failed : Nat) : State :=
  if s.ctlState p ≠ ctlTraining then s
  else
    let c := s.ctlAt p
    let s := if failed ≠ 0 then s.ctlFail p failed
      else if c.keep then s.setFlds (DRMC_STATUS p) [(DRMC_STATUS_STATE, ctlReady), (DRMC_STATUS_KEPT, 1), (DRMC_STATUS_CH_FAILED, 0)]
      else s.setFlds (DRMC_STATUS p) [(DRMC_STATUS_STATE, ctlClearing), (DRMC_STATUS_CH_FAILED, 0)]
    let s := s.setCtl p { s.ctlAt p with keep := false, cache := {}, openRow := {} }
    if s.mem.setUp ∧ (List.range 32).all (fun k => s.ctlState k != ctlTraining) then s.setUpWindow else s

/-- TRAINING_END (R291). -/
def execTrainingEnd (p : CtlNo) (failed : BitVec 4) (s : State) : Host.Outcome State Fault Refusal := done (s.trainingEnd p failed.toNat)

/-- CLEARING_END (R293): every line and spare line is zero with a zero entry. -/
def execClearingEnd (p : CtlNo) (s : State) : Host.Outcome State Fault Refusal :=
  if s.ctlState p ≠ ctlClearing then done s
  else
    let c := s.ctlAt p
    let sp := c.spares.cells.map (fun x => (x.1, x.2.map (fun e => { e with val := {}, poison := false })))
    done ((s.setCtl p { c with lines := {}, spares := { cells := sp }, wbs := [] }).setFld (DRMC_STATUS p) DRMC_STATUS_STATE ctlReady)

/-! ### Write-backs and patrol scrub (R287 to R289) -/

/-- DRAM_WRITEBACK (R287): the oldest corrected line is written back and read again; one that does not read clean is remapped. It waits for a
channel out for retraining (R292). -/
def execDramWriteback (p : CtlNo) (clean : Bool) (s : State) : Host.Outcome State Fault Refusal :=
  let c := s.ctlAt p
  match c.wbs with
  | [] => done s
  | (line, v) :: _ =>
    if s.ctlState p ≠ ctlReady ∨ s.retraining p (s.lineChannel p line) then done s
    else
      let s := s.setCtl p (c.putLine line v)
      if clean then done s else done (s.dramRemap p line v false 1)

/-- One line of the patrol scrub, which waits for a channel out for retraining (R289, R292). -/
def State.scrubLine (s : State) (p : Nat) (fails : ReadErrs) : State :=
  let n := s.fld (DRMC_SCRUB p) DRMC_SCRUB_NEXT
  if s.ctlState p ≠ ctlReady ∨ !s.fldOn (DRMC_CTL p) DRMC_CTL_PATROL ∨ s.retraining p (s.lineChannel p n) then s
  else
    let s := (s.dramReadLine p n 0 2 fails).1
    let last := n + 1 ≥ s.usableMib * 2 ^ 14
    let s := s.setFld (DRMC_SCRUB p) DRMC_SCRUB_NEXT (if last then 0 else n + 1)
    if last then s.wrapFld (DRMC_SCRUB p) DRMC_SCRUB_PASSES 1 else s

/-- PATROL_SCRUB_LINE (R289). -/
def execPatrolScrubLine (p : CtlNo) (failReads : ReadErrs) (s : State) : Host.Outcome State Fault Refusal := done (s.scrubLine p failReads)

/-! ### Windows (R276) -/

/-- A window write refused. -/
def State.winRefuse (s : State) (w reason : Nat) : State :=
  (s.setFlds DRMC_MAP_STATUS [(DRMC_MAP_STATUS_REFUSED, 1), (DRMC_MAP_STATUS_REASON, reason), (DRMC_MAP_STATUS_WIN, w)]).raiseReg 0x0807 w 0 DRMC_MAP_STATUS

def winValid (v : Data) : Bool := DRMC_WIN_CFG_VALID.on v
/-- Whether two ranges of numbers meet. -/
def rangesMeet (a la b lb : Nat) : Bool := decide (a < b + lb) && decide (b < a + la) && decide (0 < la) && decide (0 < lb)

/-- A window's share on each member, in MiB. -/
def State.winShare (s : State) (w : Nat) (v : Data) : Nat :=
  DRMC_WIN_CFG_SIZE.get v / max 1 (maskMembers (s.fld (DRMC_WIN_MASK w) DRMC_WIN_MASK_CTRL)).length

/-- The first check that a window about to become valid fails. -/
def State.winFault (s : State) (w : Nat) (v : Data) : Option Nat :=
  let ms := maskMembers (s.fld (DRMC_WIN_MASK w) DRMC_WIN_MASK_CTRL)
  let others := (List.range 16).filter (fun x => x != w && winValid (s.reg (DRMC_WIN_CFG x)))
  let size := DRMC_WIN_CFG_SIZE.get v
  let base := DRMC_WIN_CFG_BASE.get v
  let lo := DRMC_WIN_CFG_LOCAL.get v
  let share := s.winShare w v
  if ms.isEmpty || ms.any (fun p => let st := s.ctlState p; st == ctlOff || st == ctlTraining || st == ctlFailed) then some 2
  else if size = 0 ∨ size % ms.length ≠ 0 ∨ 5 ≤ DRMC_WIN_CFG_GRAIN.get v then some 3
  else if decide (2 ^ 21 < base + size) || others.any (fun x =>
      let c := s.reg (DRMC_WIN_CFG x)
      rangesMeet base size (DRMC_WIN_CFG_BASE.get c) (DRMC_WIN_CFG_SIZE.get c)) then some 4
  else if decide (s.usableMib < lo + share) || others.any (fun x =>
      let c := s.reg (DRMC_WIN_CFG x)
      (maskMembers (s.fld (DRMC_WIN_MASK x) DRMC_WIN_MASK_CTRL)).any (ms.contains ·)
        && rangesMeet lo share (DRMC_WIN_CFG_LOCAL.get c) (s.winShare x c)) then some 5
  else none

/-- A write of DRMC.WIN[w].CFG (R276). -/
def State.winCfgWrite (s : State) (w : Nat) (data : Data) : State :=
  let old := s.reg (DRMC_WIN_CFG w)
  let new := plainWrite DRMC_WIN_CFG_info old data
  if !winValid new then s.setReg (DRMC_WIN_CFG w) new
  else if winValid old then (if new = old then s else s.winRefuse w 1)
  else match s.winFault w new with
    | some r => s.winRefuse w r
    | none => s.setReg (DRMC_WIN_CFG w) new

/-- WINDOW_CFG_WRITE (R276). -/
def execWindowCfgWrite (w : WinNo) (data : Data) (s : State) : Host.Outcome State Fault Refusal :=
  done (s.regWrite (DRMC_WIN_CFG w) data (fun s => s.winCfgWrite w data))

/-- A write of DRMC.WIN[w].MASK (R276). -/
def State.winMaskWrite (s : State) (w : Nat) (data : Data) : State :=
  if winValid (s.reg (DRMC_WIN_CFG w)) then s.winRefuse w 1 else s.writeReg (DRMC_WIN_MASK w) data

/-- WINDOW_MASK_WRITE (R276). -/
def execWindowMaskWrite (w : WinNo) (data : Data) (s : State) : Host.Outcome State Fault Refusal :=
  done (s.regWrite (DRMC_WIN_MASK w) data (fun s => s.winMaskWrite w data))

/-- A write of DRMC[p].CTL: PRESET holds while a valid window names the controller (R298). -/
def State.ctlWrite (s : State) (p : Nat) (data : Data) : State :=
  let old := s.reg (DRMC_CTL p)
  let new := plainWrite DRMC_CTL_info old data
  let mapped := (List.range 16).any (fun w => winValid (s.reg (DRMC_WIN_CFG w)) && natBit (s.fld (DRMC_WIN_MASK w) DRMC_WIN_MASK_CTRL) p)
  if mapped ∧ DRMC_CTL_PRESET.get new ≠ DRMC_CTL_PRESET.get old then
    (s.setReg (DRMC_CTL p) (DRMC_CTL_PRESET.put new (DRMC_CTL_PRESET.get old))).setFlds (DRMC_STATUS p)
      [(DRMC_STATUS_REFUSED, 1), (DRMC_STATUS_REASON, 1)]
  else s.setReg (DRMC_CTL p) new

/-- PRESET_WRITE (R298). -/
def execPresetWrite (p : CtlNo) (data : Data) (s : State) : Host.Outcome State Fault Refusal :=
  done (s.regWrite (DRMC_CTL p) data (fun s => s.ctlWrite p data))

/-- What DRMC[p].GEOM shows; SPR is not in the spec (R298). -/
def State.geomData (s : State) (p : Nat) : Data :=
  if s.ctlState p = ctlOff then 0
  else
    let v := DRMC_GEOM_SPR.put 0 setPositionsPerRow
    DRMC_GEOM_USABLE_MIB.put (DRMC_GEOM_RESERVED_MIB.put (DRMC_GEOM_RANKS.put v s.ranks) (match s.variant with | .yx4802 => 16 | .yx4801 => 8)) s.usableMib

/-- What DRMC[p].REMAP_DATA shows (R299). -/
def State.remapData (s : State) (p : Nat) : Data :=
  match (s.ctlAt p).spare (s.fld (DRMC_REMAP_SEL p) DRMC_REMAP_SEL_ENTRY) with
  | some x => DRMC_REMAP_DATA_VALID.put (DRMC_REMAP_DATA_POISON.put (DRMC_REMAP_DATA_CAUSE.put (BitVec.ofNat 64 x.line) x.cause) (bit01 x.poison)) 1
  | none => 0

/-! ### Self-refresh (R294, R411) -/

/-- A controller parked: a retraining ends, queued requests, write-backs and refresh-management commands are performed, throttles standing
aside, banks precharged and self-refresh entered (R294, R296). One that is training or clearing is parked too, and takes that up again on
the wake (DESIGN CHOICE, log entry 142). -/
def State.parkCtl (s : State) (p : Nat) : State :=
  let st := s.ctlState p
  if st = ctlReady then
    let s := (s.setCtl p { s.ctlAt p with retrain := [], fails := {} }).setFld (DRMC_STATUS p) DRMC_STATUS_RETRAINING 0
    let s := (List.range (s.ctlAt p).queue.length).foldl (fun s _ => (s.setCtl p { s.ctlAt p with throttled := [] }).dramServe p {}) s
    let c := s.ctlAt p
    let c := c.wbs.foldl (fun c w => c.putLine w.1 w.2) c
    let c := c.refDue.foldl (fun c b => c.refManage b) c
    (s.setCtl p { c with openRow := {}, throttled := [], resetFrom := 0 }).setFld (DRMC_STATUS p) DRMC_STATUS_STATE ctlSelfRefresh
  else if st = ctlTraining ∨ st = ctlClearing then
    (s.setCtl p { s.ctlAt p with resetFrom := st }).setFld (DRMC_STATUS p) DRMC_STATUS_STATE ctlSelfRefresh
  else s

/-- Every controller parked. -/
def State.parkDram (s : State) : State := (List.range 32).foldl (fun s p => s.parkCtl p) s

/-- A controller's exit from self-refresh: counters cleared, throttles ended, every channel retrained, READY (R294), or the training or
clearing that it was parked in. -/
def State.unparkCtl (s : State) (p : Nat) : State :=
  if s.ctlState p ≠ ctlSelfRefresh then s
  else
    let c := s.ctlAt p
    (s.setCtl p { c with acts := {}, throttled := [], resetFrom := 0 }).setFld (DRMC_STATUS p) DRMC_STATUS_STATE
      (if c.resetFrom = 0 then ctlReady else c.resetFrom)

end Sys2Proof.Machine
end

