-- ==== Sys2Proof/Machine/Well.lean ====
section
/-!
DEFINITION. The wells (chapters 02, 03, 12): coordinates, the channels with their fixed delays, claims, the bundles' code, the
failure ladder of a crossing, riser transfers.
-/
namespace Sys2Proof.Machine

/-! ### Coordinates (R15, R19, R20) -/

def ergDie (i : Nat) : Nat := if i < 64 then 3 else 6
def duneX (i d : Nat) : Nat := 4 * (i % 8) + d % 4
def duneY (i d : Nat) : Nat := 4 * (i % 64 / 8) + d / 4
/-- The packed address of dune `d` (4y + x) of erg `i`. -/
def packDune (i d : Nat) : Nat := 1024 * (i / 64) + 32 * duneY i d + duneX i d
/-- The erg of a packed dune address, and the dune within it. -/
def duneErg (p : Nat) : Nat := 64 * (p / 1024) + 8 * (p / 32 % 32 / 4) + p % 32 / 4
def duneLocal (p : Nat) : Nat := 4 * (p / 32 % 32 % 4) + p % 32 % 4

/-- The dune `far` away on side `s` (0 north, 1 east, 2 south, 3 west) in the same layer. -/
def duneAt (i d s far : Nat) : Option (Nat × Nat) :=
  let x := duneX i d
  let y := duneY i d
  let p := if s = 0 then (x, y + far) else if s = 1 then (x + far, y)
    else if s = 2 then (if far ≤ y then (x, y - far) else (99, 99)) else (if far ≤ x then (x - far, y) else (99, 99))
  if p.1 < 32 ∧ p.2 < 32 then some (64 * (i / 64) + 8 * (p.2 / 4) + p.1 / 4, 4 * (p.2 % 4) + p.1 % 4) else none

/-- The erg that shares a side with erg `i`. -/
def ergBeside (i s : Nat) : Option Nat :=
  let n := i % 64
  if s = 0 then (if n / 8 < 7 then some (i + 8) else none)
  else if s = 1 then (if n % 8 < 7 then some (i + 1) else none)
  else if s = 2 then (if 0 < n / 8 then some (i - 8) else none)
  else (if 0 < n % 8 then some (i - 1) else none)

def ergAbove (i : Nat) : Nat := if i < 64 then i + 64 else i - 64

/-! ### Crossings (R332, R343) -/

def crossKey (well bundle bond : Nat) : Nat := well * 256 + bundle * 8 + bond
def State.cross (s : State) (k : Nat) : CrossSt := s.fab.cross.get (fun _ => {}) k
def State.setCross (s : State) (k : Nat) (c : CrossSt) : State := { s with fab := { s.fab with cross := s.fab.cross.set (fun _ => {}) k c } }
def CrossSt.state (c : CrossSt) : Nat := WELL_XDATA_STATE.get c.xdata
def crIntact := 0
def crSpared := 1
def crExhausted := 2
def crExposed := 3
def crDetoured := 4
def crLost := 5

/-! ### Channels (R50 to R53, R336, R337) -/

/-- The delay of R51 from a source register to a stop, or from a stop to a well input. -/
def wellDelay (a b : Nat) : Nat :=
  let lo := min a b
  let hi := max a b
  if lo = 3 ∧ hi = 6 then 2 else if lo = 3 ∧ hi = 4 then 1 else if lo = 1 ∧ hi = 3 then 2 else if lo = 4 ∧ hi = 6 then 2
  else if lo = 1 ∧ hi = 6 then 3 else if lo = 0 ∧ hi = 3 then 3 else if lo = 0 ∧ hi = 6 then 4 else 0

/-- The bonds between two dies. -/
def bondsBetween (a b : Nat) : List Nat := (List.range (max a b - min a b)).map (fun k => min a b + 1 + k)

def chanKey (well ch src : Nat) (up : Bool) : Nat := ((well * 64 + ch) * 8 + src) * 2 + bit01 up

/-- How many edges' values a channel keeps. -/
def chanDepth : Nat := 16

/-- Every channel one edge older: nothing is driven until something drives it at this edge (R52). -/
def State.shiftChans (s : State) : State :=
  let cells := s.fab.chan.cells.filterMap (fun c =>
    let l := ({} :: c.2).take chanDepth
    if l.all (fun v => v == ({} : ChanVal)) then none else some (c.1, l))
  { s with fab := { s.fab with chan := { cells := cells } } }

/-- A value driven on a channel at this edge, from die `src` towards die `far`; `lost` gives the bits that do not cross a bond. A stop whose
own die is in reset does not drive (R341). -/
def State.driveLess (s : State) (well ch src far : Nat) (v : BitVec 32) (lost : Nat → BitVec 32) : State :=
  if s.pwr.inReset.contains src then s else
  let k := chanKey well ch src (src < far)
  let l := s.fab.chan.get (fun _ => []) k
  let errs := (bondsBetween src far).filterMap (fun b =>
    let m := lost b
    if m = 0 then none else some (b, m))
  let nv : ChanVal := { v := v, far := far, errs := errs }
  let l := match l with
    | [] => [nv]
    | _ :: r => nv :: r
  { s with fab := { s.fab with chan := s.fab.chan.set (fun _ => []) k l } }

/-- A value driven on a channel at this edge, from die `src` towards die `far`. -/
def State.drive (s : State) (well ch src far : Nat) (v : BitVec 32) : State := s.driveLess well ch src far v (fun _ => 0)

/-- The value of a channel from die `src` at the stop of die `dst`, `base` edges after its launch on the intact map. A crossing
moved to a detour adds an edge to what was launched at its edge E or later; a LOST crossing reads zero (R336 to R338). -/
def State.chanAt (s : State) (well ch src dst base : Nat) : BitVec 32 :=
  let bonds := bondsBetween src dst
  let cr := fun k => s.cross (crossKey well (ch / 4) k)
  if bonds.any (fun k => (cr k).state == crLost) then 0
  else
    let extra := (bonds.filter (fun k => (cr k).state == crDetoured && decide ((cr k).movedAt + base ≤ s.time.fck))).length
    let v := (s.fab.chan.get (fun _ => []) (chanKey well ch src (src < dst))).getD (base + extra) {}
    let reach := if src < dst then dst ≤ v.far else v.far ≤ dst
    if reach then v.errs.foldl (fun x e => if bonds.contains e.1 then x ^^^ e.2 else x) v.v else 0

/-- The word at a hard block's stop on die `dst` (0, 1 or 4), driven down by whichever fabric layer reaches it. A value stands in the
layer's well output register one edge after its source register, so it reaches the stop D - 1 edges later (R51). A stop whose own die is in
reset does not sample (R341): nothing is there. -/
def State.chanDown (s : State) (well ch dst : Nat) : BitVec 32 :=
  if s.pwr.inReset.contains dst then 0 else s.chanAt well ch 3 dst (wellDelay 3 dst - 1) ||| s.chanAt well ch 6 dst (wellDelay 6 dst - 1)

/-- The word a well input bound to (source die, channel) takes at this edge in erg `i`. -/
def State.wellWord (s : State) (i src ch : Nat) : BitVec 32 :=
  let d := ergDie i
  if src = d then (if d = 3 ∨ d = 6 then s.chanAt (i % 64) ch d d 0 else 0)
  else if src = 3 ∨ src = 6 then s.chanAt (i % 64) ch src d (wellDelay src d - 1)
  else s.chanAt (i % 64) ch src d (wellDelay src d)

/-! ### Claims (R77 to R79) -/

/-- Whether two claims conflict (R78): they meet on a channel and a bond, or a pin, and belong to one erg and context, to the two ergs
of a column, or one of them to a hard block. -/
def claimsMeet (a b : Claim) : Bool :=
  let place := match a.what, b.what with
    | .chan w c lo hi, .chan w' c' lo' hi' => w == w' && c == c' && decide (max lo lo' ≤ min hi hi')
    | .pin k, .pin k' => k == k'
    | _, _ => false
  let who := match a.who, b.who with
    | .ctx e c _, .ctx e' c' _ => (e == e' && c == c') || (e % 64 == e' % 64 && e != e')
    | x, y => x != y
  place && who

/-- Whether any new claim conflicts with an accepted one. -/
def State.claimConflict (s : State) (new : List Claim) : Bool := new.any (fun a => s.fab.claims.any (fun b => claimsMeet a b))

/-- The claims of one holder replaced. -/
def State.setClaims (s : State) (who : Claimant) (new : List Claim) : State :=
  { s with fab := { s.fab with claims := s.fab.claims.filter (fun c => c.who != who) ++ new } }

/-- The accepted claims that are not a plane's. -/
def State.otherClaims (s : State) (i c : Nat) : List Claim :=
  s.fab.claims.filter (fun (x : Claim) => match x.who with | .ctx j d _ => !(j == i && d == c) | _ => true)

/-- The claims of a plane out of the table (R78). -/
def State.dropClaims (s : State) (i c : Nat) : State := { s with fab := { s.fab with claims := s.otherClaims i c } }

/-- The claims of consecutive channels of a well on a range of bonds. -/
def chanClaims (who : Claimant) (well ch n lo hi : Nat) : List Claim :=
  (List.range n).map (fun k => { who := who, what := .chan well (ch + k) lo hi })

/-- Whether a binding of `n` channels from `ch` is refused: it passes channel 63, conflicts, or crosses a LOST crossing (R338). -/
def State.bindRefused (s : State) (who : Claimant) (well ch n : Nat) (claims : List Claim) (lo hi : Nat) : Bool :=
  decide (63 < ch + n - 1)
    || claims.any (fun a => s.fab.claims.any (fun b => b.who != who && claimsMeet a b))
    || (List.range n).any (fun k => (List.range (hi + 1 - lo)).any (fun j => (s.cross (crossKey well ((ch + k) / 4) (lo + j))).state == crLost))

/-! ### The failure ladder (R331 to R337, R342) -/

/-- A crossing's state changed, with its event (R332) and a change owed to the repair record (R335). -/
def State.crossTo (s : State) (key lane st : Nat) (f : CrossSt → CrossSt) : State :=
  let c := f (s.cross key)
  let old := (s.cross key).state
  let c := { c with xdata := WELL_XDATA_STATE.put c.xdata st }
  let s := s.setCross key c
  let s := { s with fab := { s.fab with repairDue := s.fab.repairDue.filter (· != key) ++ [key] } }
  if old = st then s
  else
    let sev := if st = crSpared then 0 else if st = crExhausted then 1 else if st = crLost then 3 else 2
    s.raiseRaw 0x0901 sev 0xFF (BitVec.ofNat 128 (key + 2 ^ 32 * lane + 2 ^ 48 * st + 2 ^ 64 * c.xdata.toNat))

def spareMask (f : Fld) (c : CrossSt) (k : Nat) : Bool := natBit (f.get c.xdata) k
/-- A spare neither in use nor failed, the lowest (R333). -/
def CrossSt.freeSpare (c : CrossSt) : Option Nat :=
  firstBelow 4 (fun k => !spareMask WELL_XDATA_SPARE_USED c k && !spareMask WELL_XDATA_SPARE_FAILED c k)
def CrossSt.sparesGone (c : CrossSt) : Nat := popCount 4 (WELL_XDATA_SPARE_USED.get c.xdata) + popCount 4 (WELL_XDATA_SPARE_FAILED.get c.xdata)
def CrossSt.mark (c : CrossSt) (f : Fld) (k : Nat) (b : Bool) : CrossSt :=
  let v := f.get c.xdata
  let v' := if b then (if natBit v k then v else v + 2 ^ k) else (if natBit v k then v - 2 ^ k else v)
  { c with xdata := f.put c.xdata v' }
/-- INTACT, SPARED or EXHAUSTED, by the spares gone (DEDUCED from the states' meanings, log entry 20). -/
def CrossSt.ladder (c : CrossSt) : Nat := if c.sparesGone = 0 then crIntact else if c.sparesGone < 4 then crSpared else crExhausted

/-- The crossing whose channels a well's detour on a bond carries. -/
def State.carriedBy (s : State) (well bond : Nat) : Option Nat :=
  (s.fab.cross.cells.find? (fun c => c.2.state == crDetoured && c.1 % 8 == bond && c.1 / 8 % 32 < 16
    && WELL_XDATA_DETOUR_WELL.get c.2.xdata == well)).map (·.1)

/-- Whether a well's detour bundle (16), or riser link (17) for a retired riser, can take a retired one on a bond. -/
def State.detourFree (s : State) (bundle well bond : Nat) : Bool :=
  if bundle = 17 then (s.cross (crossKey well 17 bond)).state < crDetoured
  else (s.cross (crossKey well 16 bond)).state < crDetoured && (s.carriedBy well bond).isNone

/-- The well whose detour takes the channels of a bundle of well `n`: east first, then west (R336). -/
def State.detourFor (s : State) (bundle n bond : Nat) : Option Nat :=
  if n % 8 ≠ 7 ∧ s.detourFree bundle (n + 1) bond then some (n + 1)
  else if n % 8 ≠ 0 ∧ s.detourFree bundle (n - 1) bond then some (n - 1)
  else none

/-- Whether a plane of erg `i` binds a channel of a bundle across a bond. -/
def PlaneSt.usesBond (pl : PlaneSt) (i bundle bond : Nat) : Bool :=
  (List.range 16).any (fun d =>
    let p := pl.frames.get (fun _ => 0) d
    (List.range 16).any (fun k =>
      let b := natBits p.toNat (8 * (616 + 2 * k)) 16
      natBit b 15 && natBits b 0 6 / 4 == bundle && (bondsBetween (ergDie i) (natBits b 12 3)).contains bond))

def State.erg (s : State) (i : Nat) : ErgSt := s.fab.ergs.get (fun _ => {}) i
def State.setErg (s : State) (i : Nat) (e : ErgSt) : State := { s with fab := { s.fab with ergs := s.fab.ergs.set (fun _ => {}) i e } }
def ErgSt.plane (e : ErgSt) (p : Nat) : PlaneSt := e.planes.get (fun _ => {}) p
def ErgSt.setPlane (e : ErgSt) (p : Nat) (v : PlaneSt) : ErgSt := { e with planes := e.planes.set (fun _ => {}) p v }

/-- Plane states (R61). -/
def plEmpty := 0
def plLoading := 1
def plFresh := 2
def plValid := 3
def plInvalid := 4
def plStale := 5
def plSnapFree := 6
def plSnapFull := 7

def State.planeState (s : State) (i p : Nat) : Nat := natBits (s.fld (FAB_ERG_PLANES i) FAB_ERG_PLANES_STATE) (4 * p) 4
def State.setPlaneState (s : State) (i p st : Nat) : State :=
  let v := s.fld (FAB_ERG_PLANES i) FAB_ERG_PLANES_STATE
  s.setFld (FAB_ERG_PLANES i) FAB_ERG_PLANES_STATE (v - natBits v (4 * p) 4 * 16 ^ p + st * 16 ^ p)

/-- The context of the active plane (R59). -/
def State.ergActive (s : State) (i : Nat) : Option Nat :=
  if s.fldOn (FAB_ERG_CTX i) FAB_ERG_CTX_NONE then none else some (s.fld (FAB_ERG_CTX i) FAB_ERG_CTX_ACTIVE)

/-- Planes that use moved channels: shadows become STALE, an active one when it is switched out (R337). -/
def State.staleFor (s : State) (well bundle bond : Nat) : State :=
  [well, well + 64].foldl (fun s i =>
    (List.range 8).foldl (fun s p =>
      if (s.planeState i p = plFresh ∨ s.planeState i p = plValid) ∧ ((s.erg i).plane p).usesBond i bundle bond then
        if s.ergActive i = some p then s.setErg i ((s.erg i).setPlane p { (s.erg i).plane p with staleDue := true })
        else s.setPlaneState i p plStale
      else s) s) s

def State.bumpMapGen (s : State) : State := s.wrapFld WELL_MAP_GEN WELL_MAP_GEN_GEN 1

/-- A bundle's channels moved to a detour, or LOST (R336, R337). From one detour to another the delay stays as it is. -/
def State.moveBundle (s : State) (key lane : Nat) : State :=
  let n := key / 256
  let b := key / 8 % 32
  let k := key % 8
  match s.detourFor b n k with
  | some m =>
    let s := s.crossTo key lane crDetoured (fun c =>
      { c with xdata := WELL_XDATA_DETOUR_WELL.put c.xdata m, movedAt := if c.state = crDetoured then c.movedAt else s.time.fck, swap := none, waiting := [] })
    if b < 16 then (s.bumpMapGen).staleFor n b k else s
  | none => s.crossTo key lane crLost (fun c => { c with swap := none, waiting := [] })

/-- A crossing retires (R334, R336, R342). When a detour bundle retires, what it carries moves on or is LOST. -/
def State.retire (s : State) (key lane : Nat) : State :=
  if key / 8 % 32 = 16 then
    let carried := s.carriedBy (key / 256) (key % 8)
    let s := s.crossTo key lane crLost (fun c => { c with swap := none, waiting := [] })
    match carried with
    | some c =>
      let t := s.moveBundle c lane
      if (t.cross c).state = crLost then t.bumpMapGen else t
    | none => s
  else s.moveBundle key lane

/-- A swap begun for a failing lane, or the lane disabled when no spare is left (R332, R333). -/
def State.repairLane (s : State) (key lane : Nat) : State :=
  let c := s.cross key
  match c.freeSpare with
  | some sp => s.setCross key { c with swap := some (lane, sp) }
  | none => s.crossTo key lane crExposed (fun c => { c with xdata := WELL_XDATA_EXPOSED_LANE.put c.xdata lane, swap := none })

/-- Lanes disabled for a direction fault in a bundle (R81). -/
def State.dirLanes (s : State) (key : Nat) : List Nat :=
  (s.fab.dirOff.filter (fun d => crossKey d.well d.bundle d.bond == key)).map (·.lane)

/-- Whether a lane has failed already: it is idle, disabled, or a failed spare, or waits for a swap or has one in progress. -/
def CrossSt.hasFailed (c : CrossSt) (lane : Nat) : Bool :=
  c.waiting.contains lane || c.swap.any (fun x => x.1 == lane) || (c.state == crExposed && WELL_XDATA_EXPOSED_LANE.get c.xdata == lane)
    || (if lane < 72 then (List.range 4).any (fun sp => spareMask WELL_XDATA_SPARE_USED c sp && c.carries.get (fun _ => 99) sp == lane)
        else spareMask WELL_XDATA_SPARE_FAILED c (lane - 72))

/-- A lane declared failing (R331 to R333). A failing spare is marked failed and the lane it carried takes another. While a lane stands
disabled for a direction fault, another that fails is a further failure of an exposed bundle (R81). -/
def State.laneFails (s : State) (key lane : Nat) : State :=
  let c := s.cross key
  let off := s.dirLanes key
  if c.state = crDetoured ∨ c.state = crLost ∨ c.hasFailed lane then s
  else if c.state = crExposed ∨ (!off.isEmpty ∧ !off.contains lane) then s.retire key lane
  else if c.swap.isSome then s.setCross key { c with waiting := c.waiting ++ [lane] }
  else if lane ≥ 72 then
    let sp := lane - 72
    let used := spareMask WELL_XDATA_SPARE_USED c sp
    let c' := (c.mark WELL_XDATA_SPARE_FAILED sp true).mark WELL_XDATA_SPARE_USED sp false
    let carried := c.carries.get (fun _ => 99) sp
    let c' := { c' with carries := c'.carries.set (fun _ => 99) sp 99 }
    let s := s.crossTo key lane c'.ladder (fun _ => c')
    if used ∧ carried < 72 then s.repairLane key carried else s
  else s.repairLane key lane

/-! ### The bundles' code (R329, R330, R251, R252) -/

/-- Syndrome and overall parity of a pattern of errors over lanes 0 to 71: data 0 to 63, check 64 to 71. -/
def errSyndrome (lanes : List Nat) : Nat × Bool :=
  (lanes.foldl (fun a l => if l < 64 then a ^^^ codePos l else if l < 71 then a ^^^ 2 ^ (l - 64) else a) 0, lanes.length % 2 == 1)

/-- The lane at a code position. -/
def posLane (p : Nat) : Option Nat :=
  if p = 0 then some 71
  else match firstBelow 7 (fun j => 2 ^ j == p) with
    | some j => some (64 + j)
    | none => firstBelow 64 (fun k => codePos k == p)

/-- The lane corrected, if the word is correctable (R252); none within `some` for a clean word. -/
def correctedLane (lanes : List Nat) : Option (Option Nat) :=
  let (sy, p) := errSyndrome lanes
  if sy = 0 ∧ !p then some none
  else if p ∧ sy ≤ 71 then (posLane sy).map some
  else none

/-- The lanes of the word that physical lanes carry: an idle lane carries nothing, a spare in use the lane it replaces. -/
def CrossSt.logical (c : CrossSt) (phys : List Nat) : List Nat :=
  phys.filterMap (fun l =>
    if l < 72 then (if (List.range 4).any (fun sp => spareMask WELL_XDATA_SPARE_USED c sp && c.carries.get (fun _ => 99) sp == l) then none else some l)
    else if spareMask WELL_XDATA_SPARE_USED c (l - 72) then some (c.carries.get (fun _ => 99) (l - 72)) else none)

/-- The physical lane that carries a lane of the word: the lane itself, or the spare in its place. -/
def CrossSt.physical (c : CrossSt) (lane : Nat) : Nat :=
  match firstBelow 4 (fun sp => spareMask WELL_XDATA_SPARE_USED c sp && c.carries.get (fun _ => 99) sp == lane) with
  | some sp => 72 + sp
  | none => lane

/-- Data flips delivered to the channels of a bundle, launched at this edge towards `up`, on one beat. -/
def State.flipBundle (s : State) (well bundle bond : Nat) (up beat : Bool) (lanes : List Nat) : State :=
  lanes.foldl (fun s l =>
    if l < 64 then
      let ch := 4 * bundle + l / 16
      let m : BitVec 32 := BitVec.ofNat 32 (2 ^ (l % 16 + (if beat then 16 else 0)))
      let cells := s.fab.chan.cells.map (fun c =>
        let src := c.1 / 2 % 8
        if c.1 / 16 == well * 64 + ch && (c.1 % 2 == 1) == up && (if up then decide (src < bond) else decide (bond ≤ src)) then
          (c.1, match c.2 with
            | v :: r => { v with errs := (bond, m) :: v.errs } :: r
            | [] => [])
        else c)
      { s with fab := { s.fab with chan := { cells := cells } } }
    else s) s

/-- A correction of a lane in a direction counted (R331): a lane whose corrections within 2^20 beats reach FAIL_THR is declared failing. The
list holds (lane, upwards, beat). -/
def State.laneCorrected (s : State) (key lane : Nat) (up beat : Bool) : State :=
  let c := s.cross key
  let now := 2 * s.time.fck + bit01 beat
  let l := (c.corrs.filter (fun x => decide (now < x.2.2 + 2 ^ 20))) ++ [(lane, up, now)]
  let n := (l.filter (fun x => x.1 == lane && x.2.1 == up)).length
  if max 1 (s.fld WELL_CTL WELL_CTL_FAIL_THR) ≤ n then
    (s.setCross key { c with corrs := l.filter (fun x => x.1 != lane) }).laneFails key (c.physical lane)
  else s.setCross key { c with corrs := l }

/-- One word of a bundle received with errors (R330, R334): corrected and counted, or delivered as received, counted and reported;
an exposed bundle retires at such a word. -/
def State.wellWordErr (s : State) (f : WellFlip) : State :=
  let key := crossKey f.x.well f.x.bundle f.x.bond
  let c := s.cross key
  let off := s.dirLanes key ++ (if c.state = crExposed then [WELL_XDATA_EXPOSED_LANE.get c.xdata] else [])
  let lanes := (c.logical (f.lanes.map (·.val))).filter (fun l => !off.contains l)
  if lanes.isEmpty then s
  else
    let bundle := if f.x.bundle.val < 16 then some (f.x.well.val, f.x.bundle.val)
      else if f.x.bundle.val = 16 then (s.carriedBy f.x.well f.x.bond).map (fun k => (k / 256, k / 8 % 32)) else none
    let deliver := fun (s : State) (ls : List Nat) => match bundle with
      | some (w, b) => s.flipBundle w b f.x.bond f.up f.beat ls
      | none => s
    let uncorr := fun (s : State) =>
      let s := s.satFld WELL_ERR WELL_ERR_UNCORR 1
      s.raiseReg 0x0902 key 0 WELL_ERR
    match correctedLane lanes with
    | some (some l) =>
      if off.isEmpty then
        let wrong := lanes.filter (· != l) ++ (if lanes.contains l then [] else [l])
        (deliver (s.satFld WELL_ERR WELL_ERR_CORR 1) wrong).laneCorrected key l f.up f.beat
      else (deliver s lanes).retire key l
    | some none => deliver s lanes
    | none =>
      let s := uncorr (deliver s lanes)
      if off.isEmpty then s else s.retire key (lanes.headD 0)

/-! ### Direction fields (R80, R81, R96) -/

/-- A direction field of one wire pair or pin, with its even-parity bit (R80): idle, upward or pin output, downward. -/
def dirUp : Nat := 5
def dirDown : Nat := 6
/-- Whether the parity of a field and its parity bit fails. -/
def dirBad (f : Nat) : Bool := popCount 3 f % 2 == 1

/-- The fields of 16 lanes, all alike. -/
def dirWord (f : Nat) : DirWord := BitVec.ofNat 48 (f * ((8 ^ 16 - 1) / 7))
/-- The field of lane `j` of a channel, with its parity bit. -/
def dirField (w : DirWord) (j : Nat) : Nat := natBits w.toNat (3 * j) 3

def stopKey (well bond ch : Nat) : Nat := (well * 8 + bond) * 64 + ch
/-- The direction fields in the stops of a channel on a bond. -/
def State.stopDir (s : State) (well bond ch : Nat) : StopDir := s.fab.dirs.get (fun _ => {}) (stopKey well bond ch)
/-- The direction field of a GIO pin in the pad ring. -/
def State.padDir (s : State) (k : Nat) : PadDir := s.fab.padDirs.get (fun _ => {}) k

/-- The direction fields of an erg's active plane copied into the well stops and the pad ring; lanes and pins they disabled return
(R80, R81). The fields the erg put there before are taken out. -/
def State.copyDirs (s : State) (i : Nat) (pl : PlaneSt) : State :=
  let w := i % 64
  let kept := s.fab.dirs.cells.filter (fun c => c.2.owner != i)
  let dirs := pl.dirs.cells.foldl (fun (m : SMap StopDir) c => m.set (fun _ => {}) (w * 512 + c.1) { owner := i, word := c.2 }) { cells := kept }
  let mine := fun (d : DirOff) => d.well == w && ((s.stopDir w d.bond (4 * d.bundle + d.lane / 16)).owner == i
    || (dirs.get (fun _ => {}) (stopKey w d.bond (4 * d.bundle + d.lane / 16))).owner == i)
  let pad := decide (pl.pinDir ≠ 0) || (s.padDir w).owner == i
  let pads := if pl.pinDir = 0 then s.fab.padDirs.set (fun _ => {}) w {} else s.fab.padDirs.set (fun _ => {}) w { owner := i, field := pl.pinDir }
  { s with fab := { s.fab with
      dirs := dirs, dirOff := s.fab.dirOff.filter (fun d => !mine d)
      padDirs := if pad then pads else s.fab.padDirs
      gioOff := if pad then s.fab.gioOff.filter (· != w) else s.fab.gioOff } }

/-- An upset put into the field it names, where a copied field stands. -/
def State.dirUpset (s : State) (f : DirFault) : State :=
  match f with
  | .wellLane x l flip =>
    let ch := 4 * x.bundle.val + l.val / 16
    let d := s.stopDir x.well x.bond ch
    if x.bundle.val < 16 ∧ d.word ≠ 0 then
      let d : StopDir := { d with word := d.word ^^^ BitVec.ofNat 48 (flip.toNat * 8 ^ (l.val % 16)) }
      { s with fab := { s.fab with dirs := s.fab.dirs.set (fun _ => {}) (stopKey x.well x.bond ch) d } }
    else s
  | .gio k flip =>
    let d := s.padDir k
    if d.field ≠ 0 then { s with fab := { s.fab with padDirs := s.fab.padDirs.set (fun _ => {}) k { d with field := d.field ^^^ flip } } } else s

/-- WHERE and KIND of a direction field (R96): 2^14 × KIND + WHERE. -/
def dirWhere : DirFault → Nat
  | .wellLane x l _ => x.well * 256 + (x.bundle % 16) * 16 + l / 5
  | .gio k _ => 2 ^ 14 + k

/-- Whether the parity of a field fails and its lane or pin is not disabled yet. -/
def State.dirFails (s : State) (f : DirFault) : Bool :=
  match f with
  | .wellLane x l _ =>
    decide (x.bundle.val < 16) && dirBad (dirField (s.stopDir x.well x.bond (4 * x.bundle.val + l.val / 16)).word (l.val % 16))
      && !(s.dirLanes (crossKey x.well x.bundle x.bond)).contains l.val
  | .gio k _ => dirBad (s.padDir k).field.toNat && !s.fab.gioOff.contains k.val

/-- A direction field whose parity fails: recorded, reported and acted on (R81, R96). -/
def State.dirFault (s : State) (f : DirFault) : State :=
  if s.dirFails f then
    let w := dirWhere f
    let n := match f with
      | .wellLane x l _ => x.bond.val + 65536 * l.val
      | .gio _ _ => 0
    let s := if s.fldOn FAB_DIR_PERR FAB_DIR_PERR_VALID then s
      else s.setFlds FAB_DIR_PERR [(FAB_DIR_PERR_VALID, 1), (FAB_DIR_PERR_WHERE, w % 2 ^ 14), (FAB_DIR_PERR_KIND, w / 2 ^ 14)]
    let s := s.satFld FAB_DIR_PERR FAB_DIR_PERR_COUNT 1
    let s := s.raiseReg 0x0204 (w % 2 ^ 14) n FAB_DIR_PERR
    match f with
    | .gio k _ => { s with fab := { s.fab with gioOff := s.fab.gioOff ++ [k.val] } }
    | .wellLane x l _ =>
      let key := crossKey x.well x.bundle x.bond
      let busy := !(s.dirLanes key).isEmpty || (s.cross key).state == crExposed
      let s := { s with fab := { s.fab with dirOff := s.fab.dirOff ++ [{ well := x.well, bundle := x.bundle, bond := x.bond, lane := l }] } }
      if busy then s.retire key l else s
  else s

/-- The parity checks of one edge, in increasing WHERE (R80, R81, R96). -/
def State.dirEdge (s : State) (l : List DirFault) : State :=
  (sortOn (fun f => dirWhere f % 2 ^ 14 * 2 + dirWhere f / 2 ^ 14) l).foldl (fun s f => s.dirFault f) (l.foldl (fun s f => s.dirUpset f) s)

/-- The bits of a word that a field held for another direction keeps off a bond, though its parity is good: a lane not driven in that
direction counts as zero (R330). -/
def dirLost (w : DirWord) (up : Bool) (v : BitVec 32) : BitVec 32 :=
  if w = 0 ∨ w = dirWord (if up then dirUp else dirDown) then 0
  else
    let off := ofBits ((List.range 16).map (fun j => let f := dirField w j; !dirBad f && f % 4 != (if up then 1 else 2)))
    v &&& BitVec.ofNat 32 (off * 65537)

/-! ### Riser transfers (R340) -/

/-- CRC-16 of x^16 + x^12 + x^5 + 1 over bytes, most significant bit first, from zero (PRESUMED start and order, log entry 21). -/
def crc16 (bytes : List Byte) : Nat :=
  bytes.foldl (fun c b =>
    (List.range 8).foldl (fun c k =>
      let fb := natBit c 15 != natBit b.toNat (7 - k)
      let c := (c * 2) % 65536
      if fb then c ^^^ 0x1021 else c) c) 0

def riserKey (x : RiserNo) : Nat := (x.well.val * 8 + x.bond.val) * 2 + bit01 x.up
def State.riser (s : State) (k : Nat) : RiserSt := s.fab.risers.get (fun _ => {}) k
def State.setRiser (s : State) (k : Nat) (r : RiserSt) : State := { s with fab := { s.fab with risers := s.fab.risers.set (fun _ => {}) k r } }

end Sys2Proof.Machine
end

