-- ==== Sys2Proof/Machine/Oasis.lean ====
section
/-!
DEFINITION. The oases' fabric ports, self-test and test state, and the commands on them (chapter 09).
-/
namespace Sys2Proof.Machine

/-! ### The fabric port (R257 to R259) -/

def State.fport (s : State) (i : Nat) (f : Fld) : Nat := s.fld (OAS_G_FPORT i) f
def State.fportTop (s : State) (i : Nat) : Nat := if s.fport i OAS_G_FPORT_TOP = 1 then 6 else 3
/-- The identifier of an access made through a group's fabric port (R250). -/
def State.fportReq (s : State) (i : Nat) : Nat := 56 + 4 * s.fport i OAS_G_FPORT_TOP + i % 64 / 16

/-- The word of a down channel of the port at the memory layer's stop at this edge. -/
def State.fportWord (s : State) (i k : Nat) : Nat :=
  (s.chanAt (i % 64) (s.fport i OAS_G_FPORT_CH + k) (s.fportTop i) (oasDie i) (wellDelay (s.fportTop i) (oasDie i) - 1)).toNat

/-- The port is inert while the group is under test, and while its self-test runs (R259, R267; the latter DEDUCED, log entry 26). -/
def State.fportInert (s : State) (i : Nat) : Bool := s.fldOn (OAS_G_CTL i) OAS_G_CTL_TEST || s.oasClearing i

/-- The command at the stop at this edge performed, once; its answer is due four edges later. -/
def State.fportCommand (s : State) (i : Nat) : State :=
  let g := s.oasGrp i
  if g.cmdAt = s.time.fck + 1 ∨ s.fport i OAS_G_FPORT_BOUND = 0 ∨ !s.clk.rootRun then s
  else
    let s := s.setOasGrp i { g with cmdAt := s.time.fck + 1 }
    let cmd := s.fportWord i 0
    let w := natBits cmd 0 21
    let data := s.fportWord i 1 + 2 ^ 32 * s.fportWord i 2
    let answer := fun (s : State) (v status : Nat) =>
      let g := s.oasGrp i
      s.setOasGrp i { g with answers := g.answers ++ [{ due := s.time.fck + 4, data := BitVec.ofNat 64 v, status := status }] }
    if !natBit cmd 31 then s
    else if s.fportInert i then answer s 0 5
    else if natBit cmd 30 then
      if s.oasFailed i then answer s 0 5 else answer (s.oasWhole i w (s.fportReq i) (oasEncode data)) 0 1
    else
      let r := (s.oasConflict i w (s.fportReq i) false).oasRead i w (s.fportReq i)
      answer r.1 r.2.1 (1 + 2 * bit01 r.2.2.1 + 4 * bit01 r.2.2.2)

/-- The answer due at this edge driven upward. -/
def State.fportResponse (s : State) (i : Nat) : State :=
  let g := s.oasGrp i
  match g.answers.find? (fun a => a.due == s.time.fck) with
  | none => s
  | some a =>
    let s := s.setOasGrp i { g with answers := g.answers.filter (fun x => decide (s.time.fck < x.due)) }
    let ch := s.fport i OAS_G_FPORT_CH
    let up := fun (s : State) (k : Nat) (v : BitVec 32) => s.drive (i % 64) (ch + k) (oasDie i) (s.fportTop i) v
    up (up (up s 3 (BitVec.ofNat 32 a.data.toNat)) 4 (BitVec.ofNat 32 (a.data.toNat / 2 ^ 32))) 5 (BitVec.ofNat 32 a.status)

/-- The groups whose port is bound. -/
def State.fportList (s : State) : List Nat := (List.range 128).filter (fun i => s.fport i OAS_G_FPORT_BOUND == 1)

/-- OASIS_PORT_COMMAND (R259). -/
def execOasisPortCommand (i : GroupNo) (s : State) : Host.Outcome State Fault Refusal := done (s.fportCommand i)

/-- OASIS_PORT_RESPONSE (R259). -/
def execOasisPortResponse (i : GroupNo) (s : State) : Host.Outcome State Fault Refusal := done (s.fportResponse i)

/-- A refusal of a group (R257, R267). -/
def State.oasRefuse (s : State) (i reason : Nat) : State :=
  (s.setFlds (OAS_G_STATUS i) [(OAS_G_STATUS_REFUSED, 1), (OAS_G_STATUS_REASON, reason)]).raiseReg 0x0803 i 0 (OAS_G_STATUS i)

/-- A write of OAS.G[i].FPORT (R257, R338). -/
def State.fportWrite (s : State) (i : Nat) (data : Data) : State :=
  let new := plainWrite OAS_G_FPORT_info (s.reg (OAS_G_FPORT i)) data
  let top := if OAS_G_FPORT_TOP.on new then 6 else 3
  let lo := min (oasDie i) top + 1
  let hi := max (oasDie i) top
  let ch := OAS_G_FPORT_CH.get new
  let claims := if OAS_G_FPORT_BOUND.on new then chanClaims (.oasis i) (i % 64) (ch + 3) 3 lo hi else []
  if OAS_G_FPORT_BOUND.on new ∧ (i = s.storeGroup ∨ s.bindRefused (.oasis i) (i % 64) ch 6 claims lo hi) then s.oasRefuse i 1
  else (s.setClaims (.oasis i) claims).setReg (OAS_G_FPORT i) new

/-- OASIS_FPORT_WRITE (R257). -/
def execOasisFportWrite (i : GroupNo) (data : Data) (s : State) : Host.Outcome State Fault Refusal :=
  done (s.regWrite (OAS_G_FPORT i) data (fun s => s.fportWrite i data))

/-! ### Ring accesses and write-backs -/

/-- A ring access put to a group: performed, or held while the layer's self-test runs (R253, R266, R380). -/
def State.oasRequest (s : State) (i req off : Nat) (acc : MemAcc) : State :=
  let id := s.mem.nextId
  let s := s.nextReq
  let r := s.oasAcc i req off acc
  if r.2.1 = memWait then
    let g := r.1.oasGrp i
    r.1.setOasGrp i { g with held := g.held ++ [{ id := id, req := req, off := off, acc := acc }] }
  else r.1.answerMem req (accWrites acc) (i % 64 * 2 ^ 24 + off + i / 64 * 2 ^ 30) id r.2.1 r.2.2

/-- OASIS_RING_ACCESS (R253): an access at a byte offset of a group. -/
def execOasisRingAccess (i : GroupNo) (req : ReqId) (off : Nat) (acc : MemAcc) (s : State) : Host.Outcome State Fault Refusal :=
  done (s.oasRequest i req (off % 2 ^ 24) acc)

/-- OASIS_WRITEBACK (R260): the oldest corrected word is written back and read again; a word that does not read clean is remapped. -/
def execOasisWriteback (i : GroupNo) (clean : Bool) (s : State) : Host.Outcome State Fault Refusal :=
  match (s.oasGrp i).wbs with
  | [] => done s
  | (w, v) :: _ =>
    let s := s.oasPut i w v
    if clean then done s else done (s.oasRemap i w v false false)

/-! ### The self-test (R262, R263, R266) -/

def State.layerGroups (layer : Nat) : List Nat := (List.range 64).map (fun g => 64 * layer + g)

/-- A word that the self-test finds bad: remapped with poison cleared, or its group FAILED. -/
def State.selfTestBad (s : State) (i w : Nat) : State :=
  match (s.oasGrp i).freeEntry (oasBank w) with
  | some _ => (s.oasRemap i w 0 false true).wrapFld (OAS_BIST (i / 64)) OAS_BIST_REMAPPED 1
  | none =>
    let s := if s.oasFailed i then s else s.wrapFld (OAS_BIST (i / 64)) OAS_BIST_FAILED 1
    (s.setFlds (OAS_G_STATUS i) [(OAS_G_STATUS_FAILED, 1), (OAS_G_STATUS_EXHAUSTED, 1)]).raiseReg 0x0802 i 0 (OAS_G_STATUS i)

/-- A spare word that the self-test finds bad: one in use is remapped as its row's word, one not in use serves no more. -/
def State.selfTestSpare (s : State) (i k : Nat) : State :=
  let g := s.oasGrp i
  let s := s.setOasGrp i { g with badSpares := g.badSpares.filter (· != k) ++ [k] }
  match g.spare (k / 8) (k % 8) with
  | some x => s.selfTestBad i (8 * x.row + k / 8)
  | none => s

/-- A layer's self-test: every word and every spare word ends zero, and the words that read other than expected are remapped. A number from
2^27 on names a spare word, as 2^27 + (group × 64 + bank × 8 + entry). -/
def State.selfTest (s : State) (layer : Nat) (bad : List Nat) : State :=
  if !s.oasClearing (64 * layer) then s
  else
    let s := { s with oas := { s.oas with words := s.oas.words.dropRange (oasKey (64 * layer) 0) (2 ^ 27) } }
    let s := (State.layerGroups layer).foldl (fun s i =>
      let g := s.oasGrp i
      let sp := g.spares.cells.map (fun c => (c.1, c.2.map (fun x => { x with word := 0, poison := false })))
      (s.setOasGrp i { g with spares := { cells := sp }, wbs := [], badSpares := [] }).setFld (OAS_G_STATUS i) OAS_G_STATUS_FAILED 0) s
    let s := s.setReg (OAS_BIST layer) 0
    let spares := bad.filter (fun k => decide (2 ^ 27 ≤ k))
    let s := spares.foldl (fun s k => s.selfTestSpare (64 * layer + k / 64 % 64) (k % 64)) s
    (bad.filter (fun k => decide (k < 2 ^ 27))).foldl (fun s k => s.selfTestBad (64 * layer + k / 2 ^ 21) (k % 2 ^ 21)) s

/-- OASIS_SELF_TEST (R266): `bad` names the words that read other than expected, as group × 2^21 + word, and from 2^27 on spare words. -/
def execOasisSelfTest (layer : LayerNo) (bad : List Nat) (s : State) : Host.Outcome State Fault Refusal := done (s.selfTest layer bad)

/-- The held accesses of a group performed, but those that still have to wait. -/
def State.oasHeldGo (s : State) (i : Nat) : State :=
  let l := (s.oasGrp i).held
  let s := s.setOasGrp i { s.oasGrp i with held := [] }
  l.foldl (fun s h =>
    let r := s.oasServe i h.req h.off h.acc
    if r.2.1 = memWait then r.1.setOasGrp i { r.1.oasGrp i with held := (r.1.oasGrp i).held ++ [h] }
    else r.1.answerMem h.req (accWrites h.acc) (i % 64 * 2 ^ 24 + h.off + i / 64 * 2 ^ 30) h.id r.2.1 r.2.2) s

/-- The end of a layer's self-test: CLEARING falls, BIST shows the result, and held requests are performed (R266, R380). -/
def State.selfTestEnd (s : State) (layer : Nat) : State :=
  if !s.oasClearing (64 * layer) then s
  else
    let s := (State.layerGroups layer).foldl (fun s i => s.setFld (OAS_G_STATUS i) OAS_G_STATUS_CLEARING 0) s
    let pass := s.fld (OAS_BIST layer) OAS_BIST_FAILED = 0
    let s := s.setFlds (OAS_BIST layer) [(OAS_BIST_DONE, 1), (OAS_BIST_PASS, bit01 pass)]
    (State.layerGroups layer).foldl (fun s i => s.oasHeldGo i) s

/-- OASIS_SELF_TEST_END (R266). -/
def execOasisSelfTestEnd (layer : LayerNo) (s : State) : Host.Outcome State Fault Refusal := done (s.selfTestEnd layer)

/-! ### Test state (R267) -/

/-- Whether anything named in R267 uses a group. -/
def State.oasInUse (s : State) (i : Nat) : Bool :=
  let here := fun (layer group : Nat) => 64 * layer + group == i
  (List.range 256).any (fun q => s.fld (CAP_Q_STATUS q) CAP_Q_STATUS_STATE != 0 && here (s.fld (CAP_Q_RING q) CAP_Q_RING_LAYER) (s.fld (CAP_Q_RING q) CAP_Q_RING_GROUP))
    || (List.range 48).any (fun p => s.fldOn (SCH_PLY_FEED p) SCH_PLY_FEED_BOUND
          && here (s.fld (SCH_PLY_FEED p) SCH_PLY_FEED_LAYER) (s.fld (SCH_PLY_FEED p) SCH_PLY_FEED_GROUP))
    || s.fport i OAS_G_FPORT_BOUND == 1 || !(s.oasGrp i).held.isEmpty

/-- A write of OAS.G[i].CTL. -/
def State.oasCtlWrite (s : State) (i : Nat) (data : Data) : State :=
  if OAS_G_CTL_TEST.on data ∧ !s.fldOn (OAS_G_CTL i) OAS_G_CTL_TEST ∧ s.oasInUse i then s.oasRefuse i 2
  else s.writeReg (OAS_G_CTL i) data

/-- OASIS_TEST_STATE_WRITE (R267). -/
def execOasisTestStateWrite (i : GroupNo) (data : Data) (s : State) : Host.Outcome State Fault Refusal :=
  done (s.regWrite (OAS_G_CTL i) data (fun s => s.oasCtlWrite i data))

/-- A write of OAS.TEST_CTL: WRITE, then READ, on the word TEST_ADDR names; neither writes back, remaps nor counts. While the self-test runs
no access is accepted, so a test access is refused as outside test state (R266; DEDUCED, log entry 138). -/
def State.testCtlWrite (s : State) (data : Data) : State :=
  let s := s.writeReg OAS_TEST_CTL data
  let i := s.fld OAS_TEST_ADDR OAS_TEST_ADDR_GROUP
  let w := s.fld OAS_TEST_ADDR OAS_TEST_ADDR_WORD
  let asked := OAS_TEST_CTL_WRITE.on data || OAS_TEST_CTL_READ.on data
  if !asked then s
  else if !s.fldOn (OAS_G_CTL i) OAS_G_CTL_TEST ∨ s.oasClearing i then s.oasRefuse i 3
  else
    let v := (s.reg OAS_TEST_DATA).toNat
    let s := if OAS_TEST_CTL_WRITE.on data then
        s.oasPut i w (if OAS_TEST_CTL_SPLIT.on data then BitVec.ofNat 72 (v + 2 ^ 64 * s.fld OAS_TEST_CHECK OAS_TEST_CHECK_CHECK) else oasEncode v)
      else s
    if OAS_TEST_CTL_READ.on data then
      let st := (s.oasStored i w).1
      let sy := (oasSyndrome st).1
      let (d, res) := match oasDecode st with
        | .clean => (st, 0)
        | .corrected c => (c, 1)
        | .bad => (st, 2)
      let s := s.setReg OAS_TEST_DATA (BitVec.ofNat 64 d.toNat)
      let s := s.setFlds OAS_TEST_CHECK [(OAS_TEST_CHECK_SYNDROME, sy), (OAS_TEST_CHECK_CHECK, natBits st.toNat 64 8)]
      s.setFld OAS_TEST_CTL OAS_TEST_CTL_RESULT res
    else s

/-- OASIS_TEST_WRITE (R267). -/
def execOasisTestWrite (data : Data) (s : State) : Host.Outcome State Fault Refusal :=
  done (s.regWrite OAS_TEST_CTL data (fun s => s.testCtlWrite data))

/-- OASIS_TEST_READ (R267). -/
def execOasisTestRead (data : Data) (s : State) : Host.Outcome State Fault Refusal :=
  done (s.regWrite OAS_TEST_CTL data (fun s => s.testCtlWrite data))

/-- A write of OAS.CONF_CTL (R264). -/
def State.confClear (s : State) (data : Data) : State :=
  if OAS_CONF_CTL_CLEAR.on data then { s with oas := { s.oas with conf := {} } } else s

/-- CONF_CLEAR (R264). -/
def execConfClear (data : Data) (s : State) : Host.Outcome State Fault Refusal :=
  done (s.regWrite OAS_CONF_CTL data (fun s => s.confClear data))

/-- What OAS.RMP_DATA shows (R269). -/
def State.rmpData (s : State) : Data :=
  let sel := s.fld OAS_RMP_SEL OAS_RMP_SEL_SEL
  match (s.oasGrp (natBits sel 9 7)).spare (natBits sel 6 3) (natBits sel 0 3) with
  | some x => OAS_RMP_DATA_VALID.put (OAS_RMP_DATA_POISON.put (OAS_RMP_DATA_SOURCE.put (BitVec.ofNat 64 x.row) (bit01 x.selfTest)) (bit01 x.poison)) 1
  | none => 0

/-- What OAS.CONF_DATA shows (R264, R269). -/
def State.confData (s : State) : Data :=
  let sel := s.fld OAS_CONF_SEL OAS_CONF_SEL_SEL
  BitVec.ofNat 64 (s.oas.conf.get (fun _ => 0) ((natBits sel 9 7 * 8 + natBits sel 6 3) * 64 + natBits sel 0 6))

end Sys2Proof.Machine
end

