-- ==== Sys2Proof/Machine/Time.lean ====
section
/-!
DEFINITION. The time unit (chapter 07): device time and the stamp count, sets, loads and re-epochs, SYNC_IN, SYNC_OUT and the compare
outputs, bridging, and the commands on them. Device time is kept in units of 1/24,576,000 ns.
-/
namespace Sys2Proof.Machine

def unitsPerNs : Nat := 24576000
def unitsPerTick : Nat := 640000
def unitsPerEdge : Nat := 25600000
/-- 2^48 seconds: where device time wraps (R209). -/
def devWrap : Nat := 2 ^ 48 * 1000000000 * unitsPerNs

/-- Device time of a pair of registers in the format of NOW_NS and NOW_SEC. -/
def State.timeRegs (s : State) (ns sec : Nat) : Nat :=
  (s.reg sec).toNat % 2 ^ 48 * 1000000000 * unitsPerNs + natBits (s.reg ns).toNat 16 30 * unitsPerNs + natBits (s.reg ns).toNat 0 16 * 375

def devSec (d : Nat) : Nat := d / (1000000000 * unitsPerNs) % 2 ^ 48
/-- Nanoseconds and fraction of a device time, as NOW_NS holds them, truncated to 2^-16 ns (R210). -/
def devNs (d : Nat) : Nat := d / 375 % (1000000000 * 65536)

def devNsWord (d : Nat) : Nat := devNs d / 65536 * 65536 + devNs d % 65536

/-- A command or a write refused (R227). -/
def State.timeRefuse (s : State) (reason : Nat) : State :=
  let s := s.setFlds TSU_STATUS [(TSU_STATUS_REFUSED, 1), (TSU_STATUS_REASON, reason)]
  s.raiseReg 0x0601 0 0 TSU_STATUS

/-- Whether every capture queue is OFF. -/
def State.queuesOff (s : State) : Bool := (List.range 256).all (fun q => s.fld (CAP_Q_STATUS q) CAP_Q_STATUS_STATE == 0)

/-- EPOCH recomputed from both counts (R212). -/
def State.setEpoch (s : State) : State :=
  let e := (s.time.dev + devWrap * 3 - s.time.stamp.toNat * unitsPerTick) % devWrap
  (s.setReg TSU_EPOCH_NS (BitVec.ofNat 64 (devNsWord e))).setReg TSU_EPOCH_SEC (BitVec.ofNat 64 (devSec e))

/-! ### Compare outputs and SYNC_OUT (R218 to R220): outputs 0 to 3, and 4 -/

def outCtl (k : Nat) : Nat := if k < 4 then TSU_CMP_CTL k else TSU_SYNC_OUT
def outNs (k : Nat) : Nat := if k < 4 then TSU_CMP_NS k else TSU_SYNC_OUT_NS
def outSec (k : Nat) : Nat := if k < 4 then TSU_CMP_SEC k else TSU_SYNC_OUT_SEC

/-- The device time of an enabled output's next pulse or firing: T, or T - COMP for SYNC_OUT. -/
def State.outTime (s : State) (k : Nat) : Option Nat :=
  if natBit (s.reg (outCtl k)).toNat 63 then
    some (s.timeRegs (outNs k) (outSec k) - (if k < 4 then 0 else s.fld TSU_SYNC_OUT TSU_SYNC_OUT_COMP * 24576))
  else none

/-- Ticks from the last FCK edge to the first tick at or after a device time; 0 for one that has passed (R218). -/
def State.ticksTo (s : State) (x : Nat) : Nat := (x - s.time.dev + unitsPerTick - 1) / unitsPerTick

/-- The device time at this edge with the load that takes effect at it (R216). -/
def State.devLoaded (s : State) : Nat :=
  (((s.time.sync.filter (fun p => p.left == 0)).filterMap (fun p => p.load)).getLast?.map (fun v => v % devWrap)).getD s.time.dev

/-- Whether an output's time has come: a compare output at the first FCK edge at or after it, SYNC_OUT at a tick of the cycle that the
edge begins (R218, R219). -/
def State.outComes (s : State) (k : Nat) : Bool :=
  match s.outTime k with
  | some x => decide (x ≤ s.devLoaded + (if k < 4 then 0 else 39 * unitsPerTick))
  | none => false

/-- The outputs whose time has come at an edge. -/
def State.outsEdge (s : State) : State :=
  { s with time := { s.time with outs := (List.range 5).foldl (fun m k => if s.outComes k then m + 2 ^ k else m) 0 } }

/-- One firing or pulse: its line or its pin, which rises at the first tick at or after T - COMP, and the next time by `steps` periods, or
EN cleared. -/
def State.outFire (s : State) (k steps : Nat) : State :=
  let period := natBits (s.reg (outCtl k)).toNat 32 30
  let tick := ((s.outTime k).map s.ticksTo).getD 0
  let t := { s.time with outs := s.time.outs - s.time.outs / 2 ^ k % 2 * 2 ^ k }
  let s := if k < 4 then { s with time := { t with lineAt := (44 + k, t.fck) :: t.lineAt } }
    else { s with time := { t with outHigh := max 4 (s.fld TSU_SYNC_OUT TSU_SYNC_OUT_WIDTH), outTick := tick }, pins := { s.pins with syncOut := true } }
  if period = 0 then s.setReg (outCtl k) (BitVec.ofNat 64 ((s.reg (outCtl k)).toNat % 2 ^ 63))
  else
    let t := (s.timeRegs (outNs k) (outSec k) + steps * period * unitsPerNs) % devWrap
    (s.setReg (outNs k) (BitVec.ofNat 64 (devNsWord t))).setReg (outSec k) (BitVec.ofNat 64 (devSec t))

/-- An output whose time has come at this edge, and that is still enabled, fires (R218, R219). -/
def State.outDue (s : State) (k : Nat) : State :=
  if natBit s.time.outs k ∧ (s.outTime k).isSome then s.outFire k 1 else s

/-- Periods to the first time after a device time. -/
def State.periodsTo (s : State) (k t : Nat) : Nat :=
  let p := natBits (s.reg (outCtl k)).toNat 32 30 * unitsPerNs
  if p = 0 then 1 else max 1 ((s.time.dev - t) / p + 1)

/-- An output that a forward move of device time passed fires at the edge of the move, with its event (R220). -/
def State.outMoved (s : State) (old k : Nat) : State :=
  match s.outTime k with
  | some t => if old < t ∧ t ≤ s.time.dev then (s.outFire k (s.periodsTo k t)).raiseReg 0x0603 k 0 TSU_STATUS else s
  | none => s

/-- BRIDGED ended (R225). -/
def State.endBridge (s : State) : State := s.setFld TSU_STATUS TSU_STATUS_BRIDGED 0

/-- Device time moved: the tick boundaries of the sandglass lists count from it (R197). -/
def State.sglMoved (s : State) : State :=
  let ns := s.time.dev / unitsPerNs
  { s with sched := { s.sched with held := s.sched.held.mapVals [] (fun l => l.map (fun it => { it with since := ns })) } }

/-- Device time changed by a set or a load, at an edge (R212, R215, R220, R225). -/
def State.moveTime (s : State) (new : Nat) : State :=
  let old := s.time.dev
  let s := { s with time := { s.time with dev := new % devWrap } }.sglMoved
  let s := (List.range 5).foldl (fun s k => s.outMoved old k) s
  s.setEpoch.endBridge

/-- The stamp count changed by a re-epoch (R212). -/
def State.moveStamp (s : State) (v : BitVec 64) : State := { s with time := { s.time with stamp := v } }.setEpoch

/-! ### Sets, re-epochs and SYNC_IN -/

/-- A write of TSU.CTL (R215, R227). -/
def State.tsuCtlWrite (s : State) (data : Data) : State :=
  let s := if TSU_CTL_EPOCH.on data then
      (if s.queuesOff then { s with time := { s.time with epochDue := true } } else s.timeRefuse 3)
    else s
  if TSU_CTL_SET.on data then
    if s.fld TSU_SET_NS TSU_SET_NS_NS ≥ 1000000000 then s.timeRefuse 1
    else { s with time := { s.time with setDue := some (s.timeRegs TSU_SET_NS TSU_SET_SEC) } }
  else s

/-- A pulse at SYNC_IN, so many ticks after the last FCK edge (R216). -/
def State.syncPulse (s : State) (tick : Nat) : State :=
  if !s.clk.rootRun ∨ !s.time.run then s
  else
    let stamp := s.time.stamp + BitVec.ofNat 64 tick
    let s := (s.setReg TSU_SYNC_STAMP stamp).setFld TSU_STATUS TSU_STATUS_SYNC_SEEN 1
    let edge := if tick = 0 then s.time.fck else s.time.fck + 1
    let s := { s with time := { s.time with lineAt := (48, edge + 2) :: s.time.lineAt } }
    if !s.fldOn TSU_SYNC_IN TSU_SYNC_IN_ARM then s
    else
      let comp := s.fld TSU_SYNC_IN TSU_SYNC_IN_COMP
      let load := s.fldOn TSU_SYNC_IN TSU_SYNC_IN_LOAD
      let epoch := s.fldOn TSU_SYNC_IN TSU_SYNC_IN_EPOCH
      let s := s.setFld TSU_SYNC_IN TSU_SYNC_IN_ARM 0
      let refused := epoch && !s.queuesOff
      let s := if refused then s.timeRefuse 3 else s
      let since := 64 * 40 - tick
      let pend : SyncPend :=
        { left := 64
          load := if load then some (s.timeRegs TSU_SYNC_LOAD_NS TSU_SYNC_LOAD_SEC + comp * 24576 + since * unitsPerTick) else none
          stamp := if epoch && !refused then some (BitVec.ofNat 64 ((comp * 384 + 5000) / 10000 + since)) else none }
      { s with time := { s.time with sync := s.time.sync ++ [pend] } }

/-- The load and the re-epoch of a pulse take effect (R216). -/
def State.syncTake (s : State) (p : SyncPend) : State :=
  let s := match p.stamp with
    | some v => s.moveStamp v
    | none => s
  match p.load with
  | some v => s.moveTime v
  | none => s

/-- The 64th edge after an armed pulse: load and re-epoch take effect (R216). -/
def State.syncApply (s : State) : State :=
  (s.time.sync.filter (fun p => p.left == 0)).foldl State.syncTake
    { s with time := { s.time with sync := s.time.sync.filter (fun p => p.left != 0) } }

/-- A wrap of the stamp count made known (R214). -/
def State.stampWrapped (s : State) : State :=
  if s.time.wrapDue then
    let s := { s with time := { s.time with wrapDue := false } }
    (s.setFld TSU_STATUS TSU_STATUS_WRAPPED 1).raiseReg 0x0602 0 0 TSU_STATUS
  else s

/-- Both counts advanced to an FCK edge; at the first after the first root lock they are zero (R210, R211). -/
def State.timeAdvance (s : State) : State :=
  let t := s.time
  if !t.run then { s with time := { t with run := true } }.setEpoch
  else
    let s := { s with time := { t with fck := t.fck + 1, dev := (t.dev + unitsPerEdge) % devWrap, stamp := t.stamp + 40
                                       wrapDue := t.wrapDue || decide (2 ^ 64 ≤ t.stamp.toNat + 40)
                                       sync := t.sync.map (fun (p : SyncPend) => { p with left := p.left - 1 })
                                       lineAt := t.lineAt.filter (fun e => decide (t.fck ≤ e.2 + 64)), outHigh := t.outHigh - 1
                                       hold := t.hold.map (· + unitsPerEdge) } }
    { s with pins := { s.pins with syncOut := s.pins.syncOut && decide (2 ≤ t.outHigh) } }

/-- Both counts at an FCK edge, with the set and the re-epoch that fall on it; a set meets a load as in R220 (R215, R227). -/
def State.timeEdge (s : State) : State :=
  let t := s.time
  let s := { s with time := { t with setDue := none, epochDue := false } }.timeAdvance
  let s := if t.epochDue then s.moveStamp 0 else s
  let s := match t.setDue with
    | some v => if s.time.sync.any (fun p => p.left == 0 && p.load.isSome) then s.timeRefuse 2 else s.moveTime v
    | none => s
  s.outsEdge

/-- A write of a SYNC_IN register (R220): while ARM is 1 every write of COMP, LOAD, EPOCH or SYNC_LOAD is ignored and refused, also one
that leaves their values, and ARM itself is written (DESIGN CHOICE, log entry 131). -/
def State.syncInRegWrite (s : State) (off : Nat) (info : RegInfo) (data : Data) : State :=
  let old := s.reg off
  let new := plainWrite info old data
  if s.fldOn TSU_SYNC_IN TSU_SYNC_IN_ARM then
    (s.setReg off (if off = TSU_SYNC_IN then TSU_SYNC_IN_ARM.put old (TSU_SYNC_IN_ARM.get new) else old)).timeRefuse 4
  else s.setReg off new

/-- A write of SYNC_OUT or CMP[k].CTL: a PERIOD of 1 to 999 ns is refused (R219). -/
def State.outCtlWrite (s : State) (off : Nat) (info : RegInfo) (data : Data) : State :=
  let new := plainWrite info (s.reg off) data
  let p := natBits new.toNat 32 30
  if 1 ≤ p ∧ p ≤ 999 then s.timeRefuse 5 else s.setReg off new

/-- A read of NOW_NS: device time, and unless it is a peek both latches (R12, R227). -/
def State.nowRead (s : State) (path : ReadPath) : State × Data :=
  let v := BitVec.ofNat 64 (devNsWord s.time.dev)
  match path, s.fldOn DBG_PEEK DBG_PEEK_PEEK with
  | .debug, _ => (s, v)
  | .host, true => (s, v)
  | .host, false => ((s.setReg TSU_NOW_SEC (BitVec.ofNat 64 (devSec s.time.dev))).setReg TSU_NOW_STAMP s.time.stamp, v)

/-- TSU.HOLD: nanoseconds in the current or the last holdover (R221). -/
def State.holdNow (s : State) : Nat :=
  match s.time.hold with
  | some u => u / unitsPerNs
  | none => (s.reg TSU_HOLD).toNat

/-- Device time in holdover: one that was in it already goes on counting (R221, R226). -/
def State.holdBegin (s : State) : State :=
  let s := s.setFlds TSU_STATUS [(TSU_STATUS_HOLDOVER, 1), (TSU_STATUS_LOCKED, 0)]
  { s with time := { s.time with hold := some (s.time.hold.getD 0) } }
/-- Relock: HOLD keeps the final time. -/
def State.holdEnd (s : State) : State :=
  let s := s.setReg TSU_HOLD (BitVec.ofNat 64 s.holdNow)
  let s := s.setFlds TSU_STATUS [(TSU_STATUS_HOLDOVER, 0), (TSU_STATUS_LOCKED, 1)]
  { s with time := { s.time with hold := none } }

/-! ### Bridging (R222 to R226) -/

/-- A measurement of REFIN against the crystal completed: the ratio it gives (R223). -/
def State.ratioMeasured (s : State) (count log2 : Nat) : State :=
  s.setFlds TSU_BRIDGE_RATIO [(TSU_BRIDGE_RATIO_VALID, bit01 (decide (20 ≤ log2))), (TSU_BRIDGE_RATIO_RATIO, count * 2 ^ 44 / 2 ^ log2)]

/-- The REFIN or the crystal monitor has tripped: the ratio is no longer valid (R223). -/
def State.ratioTripped (s : State) : State := s.setFld TSU_BRIDGE_RATIO TSU_BRIDGE_RATIO_VALID 0

/-- The bridging record taken as the root stops, with the always-on count. An invalid ratio is replaced by the nominal 4.0 (R222, R223). -/
def State.bridgeRecord (s : State) (aon : Data) : State :=
  let ok := s.fldOn TSU_BRIDGE_RATIO TSU_BRIDGE_RATIO_VALID
  let ratio := if ok then s.fld TSU_BRIDGE_RATIO TSU_BRIDGE_RATIO_RATIO else 4 * 2 ^ 44
  let s := { s with time := { s.time with t0 := s.time.dev, s0 := s.time.stamp, c0 := aon, ratio := ratio, ratioOk := ok } }
  s.setFld TSU_BRIDGE_RATIO TSU_BRIDGE_RATIO_RATIO ratio

/-- An output whose time fell in Rest is not emitted: a periodic time goes on to the first after the bridged device time, a single one is
over, its EN clears (DESIGN CHOICE, log entry 132). -/
def State.outMissed (s : State) (k x : Nat) : State :=
  let ctl := s.reg (outCtl k)
  let p := natBits ctl.toNat 32 30
  let s := if !natBit ctl.toNat 63 then s
    else if p = 0 then s.setReg (outCtl k) (BitVec.ofNat 64 (ctl.toNat % 2 ^ 63))
    else
      let y := (s.timeRegs (outNs k) (outSec k) + s.periodsTo k x * p * unitsPerNs) % devWrap
      (s.setReg (outNs k) (BitVec.ofNat 64 (devNsWord y))).setReg (outSec k) (BitVec.ofNat 64 (devSec y))
  s.raiseReg 0x0603 k 0 TSU_STATUS

/-- The enabled outputs with their times. -/
def State.outTimes (s : State) : List (Nat × Nat) := (List.range 5).filterMap (fun k => (s.outTime k).map (fun x => (k, x)))

/-- Both counts resumed at the always-on count c1. `lost` tells that the crystal was lost meanwhile. The outputs are those enabled, and those
that were as Dormant was entered (R220, R224, R226). -/
def State.bridgeApply (s : State) (aon : Data) (lost : Bool) : State :=
  let t := s.time
  let d := (aon - t.c0).toNat
  let i := if lost then 0 else d * t.ratio * 10 / 2 ^ 28
  let ticks := (i * 768 + 655360) / 1310720
  let s := { s with time := { t with dev := (t.t0 + i * 375) % devWrap, stamp := t.s0 + BitVec.ofNat 64 ticks, missed := []
                                     wrapDue := t.wrapDue || decide (2 ^ 64 ≤ t.s0.toNat + ticks), hold := t.hold.map (· + i * 375) } }
  let s := s.sglMoved
  let unc := (i * s.fld TSU_BRIDGE TSU_BRIDGE_XTAL + 65536 * 10000000 - 1) / (65536 * 10000000) * (if t.ratioOk then 1 else 2)
  let s := s.setReg TSU_BRIDGE_INT (BitVec.ofNat 64 ((i * 2 + 65536) / 131072))
  let s := s.setReg TSU_BRIDGE_UNC (if lost then 0xFFFFFFFFFFFFFFFF else BitVec.ofNat 64 unc)
  let s := s.setFlds TSU_STATUS [(TSU_STATUS_BRIDGED, 1), (TSU_STATUS_FALLBACK, bit01 (lost || !t.ratioOk))]
  let s := if lost then s.raiseReg 0x0604 0 0 TSU_BRIDGE_UNC else s
  (s.outTimes ++ t.missed).foldl (fun s o => if t.t0 < o.2 ∧ o.2 ≤ s.time.dev then s.outMissed o.1 o.2 else s) s

/-- A write of TSU.BRIDGE (R225). -/
def State.bridgeWrite (s : State) (data : Data) : State :=
  let s := s.writeReg TSU_BRIDGE data
  if TSU_BRIDGE_END.on data then s.endBridge else s

/-! ### Commands -/

/-- TIME_SET (R215). -/
def execTimeSet (data : Data) (s : State) : Host.Outcome State Fault Refusal :=
  done (s.regWrite TSU_CTL data (fun s => s.tsuCtlWrite data))

/-- RE_EPOCH (R227). -/
def execReEpoch (data : Data) (s : State) : Host.Outcome State Fault Refusal :=
  done (s.regWrite TSU_CTL data (fun s => s.tsuCtlWrite data))

/-- SYNC_IN_PULSE (R216): a rising edge so many ticks after the last FCK edge. -/
def execSyncInPulse (tick : Fin 40) (s : State) : Host.Outcome State Fault Refusal := done (s.syncPulse tick)

/-- SYNC_LOAD_APPLY (R216). -/
def execSyncLoadApply (s : State) : Host.Outcome State Fault Refusal := done s.syncApply

/-- SYNC_OUT_PULSE (R218). -/
def execSyncOutPulse (s : State) : Host.Outcome State Fault Refusal := done (s.outDue 4)

/-- COMPARE_FIRE (R219). -/
def execCompareFire (k : Fin 4) (s : State) : Host.Outcome State Fault Refusal := done (s.outDue k)

/-- STAMP_WRAP (R214). -/
def execStampWrap (s : State) : Host.Outcome State Fault Refusal := done s.stampWrapped

/-- NOW_READ (R227). -/
def execNowRead (path : ReadPath) (s : State) : Host.Outcome State Fault Refusal :=
  done (s.regRead TSU_NOW_NS (path == .debug) (fun s => (s.nowRead path).1.answerReg (s.nowRead path).2))

/-- BRIDGE_END (R225). -/
def execBridgeEnd (data : Data) (s : State) : Host.Outcome State Fault Refusal :=
  done (s.regWrite TSU_BRIDGE data (fun s => s.bridgeWrite data))

/-- BRIDGE_HOLD_EXPIRY (R225): a HOLD of zero never expires. -/
def execBridgeHoldExpiry (s : State) : Host.Outcome State Fault Refusal :=
  if s.fld TSU_BRIDGE TSU_BRIDGE_HOLD = 0 then done s else done s.endBridge

/-- SYNC_IN_WRITE (R220). -/
def execSyncInWrite (reg : SyncReg) (data : Data) (s : State) : Host.Outcome State Fault Refusal :=
  match reg with
  | .syncIn => done (s.regWrite TSU_SYNC_IN data (fun s => s.syncInRegWrite TSU_SYNC_IN TSU_SYNC_IN_info data))
  | .loadNs => done (s.regWrite TSU_SYNC_LOAD_NS data (fun s => s.syncInRegWrite TSU_SYNC_LOAD_NS TSU_SYNC_LOAD_NS_info data))
  | .loadSec => done (s.regWrite TSU_SYNC_LOAD_SEC data (fun s => s.syncInRegWrite TSU_SYNC_LOAD_SEC TSU_SYNC_LOAD_SEC_info data))

/-- SYNC_OUT_WRITE (R219). -/
def execSyncOutWrite (data : Data) (s : State) : Host.Outcome State Fault Refusal :=
  done (s.regWrite TSU_SYNC_OUT data (fun s => s.outCtlWrite TSU_SYNC_OUT TSU_SYNC_OUT_info data))

/-- CMP_CTL_WRITE (R219). -/
def execCmpCtlWrite (k : Fin 4) (data : Data) (s : State) : Host.Outcome State Fault Refusal :=
  done (s.regWrite (TSU_CMP_CTL k) data (fun s => s.outCtlWrite (TSU_CMP_CTL k) (TSU_CMP_CTL_info) data))

end Sys2Proof.Machine
end

