-- ==== Sys2Proof/Machine/Capture.lean ====
section
/-!
DEFINITION. Capture queues and regions (chapter 05): records, record ports and credit, the queue's states, eviction and overflow, device
records, the drain into a region, and the commands on them.
-/
namespace Sys2Proof.Machine

/-! ### A queue's settings and state -/

def State.capQ (s : State) (q : Nat) : CapQSt := s.cap.qs.get (fun _ => {}) q
def State.setCapQ (s : State) (q : Nat) (v : CapQSt) : State := { s with cap := { s.cap with qs := s.cap.qs.set (fun _ => {}) q v } }
def State.region (s : State) (g : Nat) : RegionSt := s.cap.regions.get (fun _ => {}) g
def State.setRegion (s : State) (g : Nat) (v : RegionSt) : State :=
  { s with cap := { s.cap with regions := s.cap.regions.set (fun _ => {}) g v } }

def State.queueTop (s : State) (q : Nat) : Nat := if s.fldOn (CAP_Q_PORT q) CAP_Q_PORT_TOP then 6 else 3
def State.queueCh (s : State) (q : Nat) : Nat := s.fld (CAP_Q_PORT q) CAP_Q_PORT_CH
def State.queueRegion (s : State) (q : Nat) : Nat := s.fld (CAP_Q_DRAIN q) CAP_Q_DRAIN_REGION
/-- The requester of a queue's drain (R301). -/
def queueReq (q : Nat) : Nat := 24 + q / 32

/-! ### Sources of trigger lines: lanes (R162, R178) -/

/-- The lines of TRIG_LANE that name an event of a lane. -/
def State.laneLines (s : State) (n ev : Nat) : BitVec 64 :=
  BitVec.ofNat 64 ((List.range 12).foldl (fun m k =>
    let r := CAP_TRIG_LANE k
    if s.fldOn r CAP_TRIG_LANE_EN ∧ s.fld r CAP_TRIG_LANE_LANE = n ∧ s.fld r CAP_TRIG_LANE_EVENT = ev then m + 2 ^ (32 + k) else m) 0)

/-! ### Space and what the registers show (R147, R152, R175, R176) -/

def pad16 (n : Nat) : Nat := (n + 15) / 16 * 16

/-- Bytes of the ring that count against its space, with `extra` more payload in the open record: what is held, 64 bytes for the
header and annexes of an open record, and 256 for device records, which do not count themselves. -/
def CapQSt.held (c : CapQSt) (extra : Nat) : Nat :=
  c.wr - c.rd - c.devBytes + 256 + (match c.open_ with
    | some o => pad16 (o.bytes.length + extra) + 64
    | none => 0)

def State.queueFits (s : State) (q extra : Nat) : Bool := decide ((s.capQ q).held extra ≤ s.ringSize q)

/-- FREE of the credit word. -/
def State.queueFree (s : State) (q : Nat) : Nat :=
  if s.queueMode q = 1 then 0xFFFF else min 0xFFFF ((s.ringSize q - (s.capQ q).held 0) / 32)

/-- The registers that follow a queue's ring. -/
def State.showQueue (s : State) (q : Nat) : State :=
  let c := s.capQ q
  let n := max 1 (s.ringSize q)
  let s := s.setFlds (CAP_Q_STATUS q) [(CAP_Q_STATUS_EMPTY, bit01 c.recs.isEmpty), (CAP_Q_STATUS_OPEN, bit01 c.open_.isSome)]
  (s.setReg (CAP_Q_WR q) (BitVec.ofNat 64 (c.wr % n))).setReg (CAP_Q_RD q) (BitVec.ofNat 64 (c.rd % n))

/-! ### Records (R139 to R144, R170) -/

/-- The marks of a stamp formed now for an instant so many ticks ago (R141, R170). -/
def State.timeMark (s : State) (back : Nat) : TimeMark :=
  { hold := s.time.hold.map (fun u => (u - back * unitsPerTick) / unitsPerNs)
    bridge := if s.fldOn TSU_STATUS TSU_STATUS_BRIDGED then some ((s.reg TSU_BRIDGE_INT).toNat, (s.reg TSU_BRIDGE_UNC).toNat) else none }

def noMark : TimeMark := {}

/-- The bytes of a record: header, payload, annexes. `flags` holds FLAGS bits 7:3; `trunc` is the length offered, when it is more. -/
def recordBytes (q : Nat) (stamp : BitVec 64) (source flags seq : Nat) (payload : List Byte) (trunc : Option Nat) (m : TimeMark) : List Byte :=
  let fl := flags + 4 * bit01 m.bridge.isSome + 2 * bit01 m.hold.isSome + bit01 trunc.isSome
  toBytes 8 stamp.toNat ++ toBytes 2 source ++ toBytes 2 payload.length ++ toBytes 1 fl ++ toBytes 1 q ++ toBytes 2 seq
    ++ padBytes (pad16 payload.length) payload
    ++ (match trunc with | some n => toBytes 4 (min n 0xFFFFFFFF) ++ toBytes 12 0 | none => [])
    ++ (match m.hold with | some n => toBytes 8 n ++ toBytes 8 0 | none => [])
    ++ (match m.bridge with | some (a, b) => toBytes 8 a ++ toBytes 8 b | none => [])

/-- Bytes put into a ring's words from a stream position (R158); a FAILED group takes none (R263), nor one in its self-test (R266). The
writes count under the identifier of the queue's drain (DEDUCED, log entry 139). -/
def State.ringPut (q : Nat) : (fuel : Nat) → Nat → List Byte → State → State
  | 0, _, _, s => s
  | k + 1, pos, bytes, s =>
    if bytes.isEmpty ∨ s.oasFailed (s.queueGroup q) ∨ s.oasClearing (s.queueGroup q) then s
    else
      let w := (s.ringBase q + pos % max 1 (s.ringSize q)) / 8
      State.ringPut q k (pos + 8) (bytes.drop 8) (s.oasWhole (s.queueGroup q) w (queueReq q) (oasEncode (ofBytes (bytes.take 8))))

/-- A record placed at the end of the ring: WR advances past it (R152). -/
def State.placeRecord (s : State) (q : Nat) (bytes : List Byte) (isData : Bool) : State :=
  let c := s.capQ q
  let s := State.ringPut q bytes.length c.wr bytes s
  s.setCapQ q { c with wr := c.wr + bytes.length, recs := c.recs ++ [{ pos := c.wr, len := bytes.length, isData := isData }],
                       devBytes := if isData then c.devBytes else c.devBytes + bytes.length }

/-- A device record placed, or counted in DEV when the reserve is full (R152). -/
def State.placeDevice (s : State) (q : Nat) (d : DevRec) : State :=
  let bytes := recordBytes q d.stamp 0xFFFF (64 * d.kind) (s.capQ q).seq d.payload none d.mark
  if (s.capQ q).devBytes + bytes.length > 256 then s.satFld (CAP_Q_CNT_DROP q) CAP_Q_CNT_DROP_DEV 1
  else s.placeRecord q bytes false

/-- A loss marker written at this edge (R144). -/
def State.lossMarker (s : State) (count cause : Nat) : DevRec :=
  { kind := 2, stamp := s.time.stamp, mark := s.timeMark 0, payload := toBytes 4 (min count 0xFFFFFFFF) ++ toBytes 12 cause }

/-- The device records that waited for a commit point, in the order raised (R152). -/
def State.placeWaiting (s : State) (q : Nat) : State :=
  let c := s.capQ q
  c.dev.foldl (fun s d => s.placeDevice q d) (s.setCapQ q { c with dev := [] })

/-- A device record raised at a queue: placed at once, or when the open record commits or is discarded. -/
def State.raiseDevice (s : State) (q : Nat) (d : DevRec) : State :=
  let c := s.capQ q
  if c.open_.isSome then s.setCapQ q { c with dev := c.dev ++ [d] } else (s.placeDevice q d).showQueue q

/-- The producer's loss marker of an open record (R146). -/
def State.dropMarker (s : State) (q drops : Nat) : State := if drops = 0 then s else s.placeDevice q (s.lossMarker drops 0)

/-- An open record discarded: a commit point (R152). Its producer's loss marker is placed all the same (DEDUCED, log entry 27). `rest`
tells that its later beats are discarded with it. -/
def State.discardOpen (s : State) (q : Nat) (rest : Bool) : State :=
  let c := s.capQ q
  match c.open_ with
  | none => s
  | some o => (((s.setCapQ q { c with open_ := none, spill := rest }).dropMarker q o.drops).placeWaiting q).showQueue q

/-- A queue enters FROZEN; an open record is then discarded and counted (R154). -/
def State.freezeNow (s : State) (q : Nat) : State :=
  let s := s.setQueueState q qFrozen
  if (s.capQ q).open_.isSome then (s.satFld (CAP_Q_CNT_DROP q) CAP_Q_CNT_DROP_DISCARD 1).discardOpen q true else s

/-- The POST count has reached zero (R154). -/
def State.postExpired (s : State) (q : Nat) : State :=
  if s.queueState q = qPost ∧ (s.capQ q).post = 0 then s.freezeNow q else s

/-- The open record committed (R142, R152 to R154). -/
def State.commitRecord (s : State) (q : Nat) : State :=
  let c := s.capQ q
  match c.open_ with
  | none => s
  | some o =>
    let s := s.setCapQ q { c with open_ := none, lost := 0 }
    let s := if c.lost = 0 then s else s.placeDevice q (s.lossMarker c.lost 1)
    let s := s.dropMarker q o.drops
    let trunc := if o.bytes.length < o.offered then some o.offered else none
    let s := s.placeRecord q (recordBytes q o.stamp o.source (32 * bit01 o.user + 16 * bit01 o.err) c.seq o.bytes trunc o.mark) true
    let c := s.capQ q
    let s := s.setCapQ q { c with seq := (c.seq + 1) % 65536, post := if s.queueState q = qPost then c.post - 1 else c.post }
    ((s.satFld (CAP_Q_CNT_REC q) CAP_Q_CNT_REC_RECORDS 1).placeWaiting q).showQueue q

/-! ### Eviction and overflow (R150, R153, R565) -/

/-- The oldest record evicted: RD, which lies in it, moves to the oldest record held (R168). -/
def State.evict (s : State) (q : Nat) : State :=
  let c := s.capQ q
  match c.recs with
  | [] => s
  | r :: rest =>
    let rd := match rest with
      | n :: _ => n.pos
      | [] => c.wr
    let s := s.setCapQ q { c with recs := rest, rd := rd, devBytes := if r.isData then c.devBytes else c.devBytes - r.len }
    let s := (if r.isData then s.satFld (CAP_Q_CNT_LOSS q) CAP_Q_CNT_LOSS_LOST 1 else s).pulseNow (s.queueLines q 2)
    (s.setFld (CAP_Q_STATUS q) CAP_Q_STATUS_RD_LOST 1).raiseReg 0x0403 q 0 (CAP_Q_STATUS q)

/-- Oldest records evicted until so much more payload fits. -/
def State.evictFor (q extra : Nat) : (fuel : Nat) → State → State
  | 0, s => s
  | k + 1, s => if s.queueFits q extra then s else State.evictFor q extra k (s.evict q)

/-- A beat that finds no space: the open record and its later beats, where the beat does not end it, are discarded (R153). -/
def State.overflow (s : State) (q : Nat) (eor : Bool) : State :=
  let first := !s.fldOn (CAP_Q_STATUS q) CAP_Q_STATUS_OVF
  let s := (s.satFld (CAP_Q_CNT_LOSS q) CAP_Q_CNT_LOSS_OVERFLOW 1).setFld (CAP_Q_STATUS q) CAP_Q_STATUS_OVF 1
  let s := s.setCapQ q { s.capQ q with lost := (s.capQ q).lost + 1 }
  let s := (s.pulseNow (s.queueLines q 1)).raiseIf first 0x0402 q 0 (CAP_Q_STATUS q)
  s.discardOpen q (!eor)

/-- Stored payload limit of a queue (R148). -/
def State.sliceLimit (s : State) (q : Nat) : Nat :=
  let n := s.fld (CAP_Q_CTL q) CAP_Q_CTL_SLICE
  if n = 0 then 65535 else min (32 * n) 65535

/-- A beat's payload taken into the open record. -/
def State.takePayload (s : State) (q : Nat) (chunk : List Byte) (err eor : Bool) : State :=
  let c := s.capQ q
  match c.open_ with
  | none => s
  | some o =>
    let keep := chunk.take (s.sliceLimit q - o.bytes.length)
    let o := { o with offered := min (o.offered + chunk.length) 0xFFFFFFFF, err := o.err || err }
    let s := s.setCapQ q { c with open_ := some o }
    if keep.isEmpty then s
    else
      let s := if s.queueMode q = 1 then State.evictFor q keep.length c.recs.length s else s
      if s.queueFits q keep.length then s.setCapQ q { s.capQ q with open_ := some { o with bytes := o.bytes ++ keep } }
      else s.overflow q eor

/-! ### Record ports (R143, R145 to R148) -/

/-- The word of a channel of the port at the queue's stop at this edge. -/
def State.portWord (s : State) (q k : Nat) : Nat :=
  (s.chanAt (s.queueWell q) (s.queueCh q + k) (s.queueTop q) (s.queueDie q) (wellDelay (s.queueTop q) (s.queueDie q) - 1)).toNat

/-- Ticks from the instant that the SEQ and ARRIVAL of a record's first beat mark to the present edge: the reference edge lies 25 cycles
before the edge named, the instant ARRIVAL before that (R113, R143, R213). -/
def State.stampBack (s : State) (seq arrival : Nat) : Nat := 40 * ((s.time.fck % 256 + 256 - seq) % 256 + 25) + arrival

/-- A valid beat (R146, R148, R151). -/
def State.validBeat (s : State) (q ctl : Nat) : State :=
  let eor := natBit ctl 16
  let word := fun k => s.portWord q k
  let last := natBits ctl 11 5
  let n := if eor ∧ last ≠ 0 then last else 32
  let chunk := ((List.range 8).flatMap (fun k => toBytes 4 (word k))).take n
  let err := natBit ctl 8
  let finish := fun (s : State) => if eor then s.commitRecord q else s
  if natBit ctl 17 then
    let s := if (s.capQ q).open_.isSome then (s.satFld (CAP_Q_CNT_DROP q) CAP_Q_CNT_DROP_PROTO 1).discardOpen q false else s
    let w9 := word 9
    let drops := w9 % 65536
    let s := if drops = 0 then s else s.satFld (CAP_Q_CNT_FAB q) CAP_Q_CNT_FAB_DROPPED drops
    let st := s.queueState q
    if st = qRun ∨ st = qPost then
      let back := if natBit ctl 7 then 0 else s.stampBack (natBits ctl 24 8) (natBits ctl 18 6)
      let stamp := s.time.stamp - BitVec.ofNat 64 back
      let s := s.setCapQ q { s.capQ q with
                             spill := false
                             open_ := some { stamp := stamp, source := w9 / 65536, user := natBit ctl 9, err := false, mark := s.timeMark back, drops := drops } }
      (finish (s.takePayload q chunk err eor)).showQueue q
    else (s.satFld (CAP_Q_CNT_DROP q) CAP_Q_CNT_DROP_DISCARD 1).setCapQ q { s.capQ q with spill := !eor }
  else if (s.capQ q).open_.isSome then (finish (s.takePayload q chunk err eor)).showQueue q
  else
    let s := if (s.capQ q).spill then s else s.satFld (CAP_Q_CNT_DROP q) CAP_Q_CNT_DROP_PROTO 1
    s.setCapQ q { s.capQ q with spill := (s.capQ q).spill && !eor }

/-- The beat at a queue's stop at this edge. ABORT acts first (R148). -/
def State.beat (s : State) (q : Nat) : State :=
  let ctl := s.portWord q 8
  let s := if natBit ctl 10 then
      let s := s.discardOpen q false
      s.setCapQ q { s.capQ q with spill := false }
    else s
  if natBit ctl 0 then s.validBeat q ctl else s

/-- Queues whose record port is in use. -/
def State.portList (s : State) : List Nat := (List.range 256).filter (fun q => s.fldOn (CAP_Q_PORT q) CAP_Q_PORT_BOUND && decide (s.queueCh q + 10 ≤ 63))

/-- The beat of this edge, taken once. -/
def State.recordBeat (s : State) (q : Nat) : State :=
  let c := s.capQ q
  if s.time.run ∧ s.nodeRuns 5 5 ∧ s.fldOn (CAP_Q_PORT q) CAP_Q_PORT_BOUND ∧ s.queueCh q + 10 ≤ 63 ∧ c.beatAt ≠ s.time.fck + 1 then
    ((s.setCapQ q { c with beatAt := s.time.fck + 1 }).postExpired q).beat q
  else s

/-- The credit word of a queue, when it is enabled (R147). -/
def State.creditWord (s : State) (q : Nat) : Nat :=
  let st := s.queueState q
  s.queueFree q + 65536 * bit01 (st == qRun || st == qPost)



/-! ### Enabling, disabling, configuring (R149, R151, R161, R173, R174) -/

/-- A write, an enable or a pointer refused. -/
def State.queueRefuse (s : State) (q reason : Nat) : State :=
  (s.setFlds (CAP_Q_STATUS q) [(CAP_Q_STATUS_CFG_REFUSED, 1), (CAP_Q_STATUS_REASON, reason)]).raiseReg 0x0401 q 0 (CAP_Q_STATUS q)

/-- Whether valid windows cover addresses from `a` to below `e`. -/
def State.windowsCover (s : State) (e : Nat) : (fuel : Nat) → Nat → Bool
  | 0, a => decide (e ≤ a)
  | k + 1, a =>
    if e ≤ a then true
    else match s.winOf a with
      | some w => s.windowsCover e k ((s.fld (DRMC_WIN_CFG w) DRMC_WIN_CFG_BASE + s.fld (DRMC_WIN_CFG w) DRMC_WIN_CFG_SIZE) * 2 ^ 20)
      | none => false

def regionBytes (cfg : Data) : Nat := CAP_REGION_CFG_SIZE.get cfg * 2 ^ 20
def regionStart (cfg : Data) : Nat := CAP_REGION_CFG_BASE.get cfg * 2 ^ 20

/-- Whether a region is valid, in usable memory, and within a key domain that lets a requester write (R161). -/
def State.regionGood (s : State) (g req : Nat) : Bool :=
  let cfg := s.reg (CAP_REGION_CFG g)
  let a := regionStart cfg
  let e := a + regionBytes cfg
  CAP_REGION_CFG_VALID.on cfg && CAP_REGION_CFG_MODE.get cfg != 3 && decide (a < e) && s.windowsCover e 16 a
    && (match s.keyDomOf a with
      | some d => s.domCovers d (e - 1) && s.rightOf (CRY_DOM_RIGHTS d 0) req == 3
      | none => false)

def State.queuePortClaims (s : State) (q : Nat) : List Claim :=
  let die := s.queueDie q
  let top := s.queueTop q
  chanClaims (.queuePort q) (s.queueWell q) (s.queueCh q + 10) 1 (min die top + 1) (max die top)
def State.drainWidth (s : State) (q : Nat) : Nat := 2 ^ s.fld (CAP_Q_DRAIN q) CAP_Q_DRAIN_WIDTH
def State.queueDrainClaims (s : State) (q : Nat) : List Claim :=
  chanClaims (.queueDrain q) (s.queueWell q) (s.fld (CAP_Q_DRAIN q) CAP_Q_DRAIN_CH) (s.drainWidth q) 1 (s.queueDie q)

/-- Whether a queue's drain channels meet the credit channel of its own port on a bond. -/
def State.drainMeetsPort (s : State) (q : Nat) : Bool :=
  let dch := s.fld (CAP_Q_DRAIN q) CAP_Q_DRAIN_CH
  let c := s.queueCh q + 10
  s.fldOn (CAP_Q_PORT q) CAP_Q_PORT_BOUND && decide (dch ≤ c) && decide (c < dch + s.drainWidth q)
    && decide (min (s.queueDie q) (s.queueTop q) < s.queueDie q)

/-- The lowest of REASONs 1 to 5 that applies to an enable. -/
def State.queueFault (s : State) (q : Nat) : Option Nat :=
  let size := s.fld (CAP_Q_RING q) CAP_Q_RING_SIZE
  let base := s.fld (CAP_Q_RING q) CAP_Q_RING_BASE
  let i := s.queueGroup q
  let die := s.queueDie q
  let top := s.queueTop q
  let meets := fun k => k != q && s.queueState k != qOff && s.queueGroup k == i
    && decide (base * 65536 < s.ringBase k + s.ringSize k) && decide (s.ringBase k < (base + size) * 65536)
  let dch := s.fld (CAP_Q_DRAIN q) CAP_Q_DRAIN_CH
  let owner := (s.region (s.queueRegion q)).queue
  if size < 2 ∨ 256 < size ∨ 256 < base + size then some 1
  else if (List.range 256).any meets || i == s.storeGroup then some 2
  else if s.fldOn (CAP_Q_PORT q) CAP_Q_PORT_BOUND && (decide (63 < s.queueCh q + 10)
      || s.bindRefused (.queuePort q) (s.queueWell q) (s.queueCh q + 10) 1 (s.queuePortClaims q) (min die top + 1) (max die top)) then some 3
  else if s.queueMode q == 2 && (s.drainMeetsPort q || s.bindRefused (.queueDrain q) (s.queueWell q) dch (s.drainWidth q) (s.queueDrainClaims q) 1 die
      || (owner.isSome && owner != some q)) then some 4
  else if s.queueMode q == 2 && !s.regionGood (s.queueRegion q) (queueReq q) then some 5
  else none

/-- The counters of a queue cleared. -/
def State.queueCountersOff (s : State) (q : Nat) : State :=
  [CAP_Q_CNT_REC q, CAP_Q_CNT_LOSS q, CAP_Q_CNT_ECC q, CAP_Q_CNT_DROP q, CAP_Q_CNT_FAB q].foldl (fun s o => s.setReg o 0) s

/-- The region of a drain queue taken anew (R177). -/
def State.regionStartOver (s : State) (g : Nat) : State :=
  (s.setRegion g {}).setReg (CAP_REGION_WR g) 0 |>.setReg (CAP_REGION_RD g) 0 |>.setReg (CAP_REGION_OLDEST g) 0 |>.setReg (CAP_REGION_STATUS g) 0

/-- A queue enters its enable state with an empty ring (R151). `keep` leaves its region as it is (R168). -/
def State.queueStart (s : State) (q : Nat) (keep : Bool) : State :=
  let g := s.queueRegion q
  let s := (s.queueCountersOff q).setCapQ q { beatAt := (s.capQ q).beatAt }
  let s := s.setClaims (.queuePort q) (if s.fldOn (CAP_Q_PORT q) CAP_Q_PORT_BOUND then s.queuePortClaims q else [])
  let s := if s.queueMode q = 2 then
      let s := s.setClaims (.queueDrain q) (s.queueDrainClaims q)
      let s := if keep then s else s.regionStartOver g
      (s.setRegion g { s.region g with queue := some q }).setFld (CAP_REGION_STATUS g) CAP_REGION_STATUS_OWNED 1
    else s
  (s.setQueueState q (if s.queueMode q ≠ 2 ∨ s.fldOn (CAP_Q_CTL q) CAP_Q_CTL_AUTOSTART then qRun else qStopped)).showQueue q

/-- A queue enters OFF: the open record and what was not drained are lost, the region keeps what it holds (R151). -/
def State.queueStop (s : State) (q : Nat) : State :=
  if s.queueState q = qOff then s
  else
    let s := s.discardOpen q false
    let g := s.queueRegion q
    let s := if (s.region g).queue = some q then
        (s.setRegion g { s.region g with queue := none }).setFld (CAP_REGION_STATUS g) CAP_REGION_STATUS_OWNED 0
      else s
    let s := (s.setClaims (.queuePort q) []).setClaims (.queueDrain q) []
    ((s.setCapQ q { beatAt := (s.capQ q).beatAt }).setQueueState q qOff).showQueue q

/-- The enable of a queue with its checks (R151, R174). -/
def State.queueEnable (s : State) (q : Nat) : State :=
  match s.queueFault q with
  | some r => (s.setFld (CAP_Q_CTL q) CAP_Q_CTL_EN 0).queueRefuse q r
  | none => (s.setFld (CAP_Q_CTL q) CAP_Q_CTL_EN 1).queueStart q false

/-- A write of CAP.Q[q].CTL (R151, R173, R174). While the queue is not OFF, a write that leaves the fields beside EN as they stand is not
refused: EN is written only with them (DESIGN CHOICE, log entry 133). -/
def State.queueCtlWrite (s : State) (q : Nat) (data : Data) : State :=
  let r := CAP_Q_CTL q
  let old := s.reg r
  let new := plainWrite CAP_Q_CTL_info old data
  let off : Bool := s.queueState q == qOff
  if off ∧ CAP_Q_CTL_MODE.get new = 3 then s.queueRefuse q 7
  else
    let held := CAP_Q_CTL_EN.put old 0
    let rest := CAP_Q_CTL_EN.put new 0
    let s := if off then s.setReg r (CAP_Q_CTL_EN.put new (CAP_Q_CTL_EN.get old))
      else if rest ≠ held then s.queueRefuse q 6 else s
    let on := CAP_Q_CTL_EN.on new
    if on ∧ off then s.queueEnable q
    else if !on ∧ !off then (s.setFld r CAP_Q_CTL_EN 0).queueStop q
    else s

/-- A write of RING, PORT or DRAIN (R174). -/
def State.queueRegWrite (s : State) (q off : Nat) (data : Data) : State :=
  if s.queueState q = qOff then s.writeReg off data else s.queueRefuse q 6

/-- QUEUE_ENABLE (R151). -/
def execQueueEnable (q : QueueNo) (data : Data) (s : State) : Host.Outcome State Fault Refusal :=
  done (s.regWrite (CAP_Q_CTL q) data (fun s => s.queueCtlWrite q data))

/-- QUEUE_DISABLE (R151). -/
def execQueueDisable (q : QueueNo) (data : Data) (s : State) : Host.Outcome State Fault Refusal :=
  done (s.regWrite (CAP_Q_CTL q) data (fun s => s.queueCtlWrite q data))

/-- QUEUE_CONFIG_WRITE (R174). -/
def execQueueConfigWrite (q : QueueNo) (reg : QueueReg) (data : Data) (s : State) : Host.Outcome State Fault Refusal :=
  match reg with
  | .ctl => done (s.regWrite (CAP_Q_CTL q) data (fun s => s.queueCtlWrite q data))
  | .ring => done (s.regWrite (CAP_Q_RING q) data (fun s => s.queueRegWrite q (CAP_Q_RING q) data))
  | .port => done (s.regWrite (CAP_Q_PORT q) data (fun s => s.queueRegWrite q (CAP_Q_PORT q) data))
  | .drain => done (s.regWrite (CAP_Q_DRAIN q) data (fun s => s.queueRegWrite q (CAP_Q_DRAIN q) data))

/-! ### Commands and the consumer's pointer (R154, R155, R157, R169) -/

/-- The ring freed up to a stream position. -/
def State.freeTo (s : State) (q pos : Nat) : State :=
  let c := s.capQ q
  let gone := c.recs.filter (fun r => decide (r.pos + r.len ≤ pos))
  let dev := (gone.filter (fun r => !r.isData)).foldl (fun n r => n + r.len) 0
  (s.setCapQ q { c with rd := pos, recs := c.recs.filter (fun r => !decide (r.pos + r.len ≤ pos)), devBytes := c.devBytes - dev }).showQueue q

/-- A write of CAP.Q[q].RD (R157). -/
def State.queueRdWrite (s : State) (q : Nat) (data : Data) : State :=
  let c := s.capQ q
  let v := CAP_Q_RD_OFFSET.get data / 16 * 16
  let n := max 1 (s.ringSize q)
  let delta := (v + n - c.rd % n) % n
  if s.queueState q = qOff ∨ s.queueMode q = 2 ∨ n ≤ v ∨ c.wr - c.rd < delta then s.queueRefuse q 6
  else s.freeTo q (c.rd + delta)

/-- DROP_REM (R157). -/
def State.dropRem (s : State) (q : Nat) : State :=
  if s.queueState q = qOff ∨ s.queueMode q = 2 then s.queueRefuse q 6
  else match (s.capQ q).recs with
    | r :: _ => s.freeTo q (r.pos + r.len)
    | [] => s

/-- START of a drain queue. -/
def State.queueStartCmd (s : State) (q : Nat) : State :=
  if s.queueMode q = 2 ∧ s.queueState q = qStopped then s.setQueueState q qRun else s

/-- STOP of a drain queue: an open record may still commit. -/
def State.queueStopCmd (s : State) (q : Nat) : State :=
  if s.queueMode q = 2 ∧ s.queueState q = qRun then s.setQueueState q qStopped else s

/-- FREEZE of an overwrite-oldest queue. -/
def State.queueFreezeCmd (s : State) (q : Nat) : State :=
  if s.queueMode q = 1 ∧ s.queueState q = qRun then
    let n := s.fld (CAP_Q_CTL q) CAP_Q_CTL_POST
    if n = 0 then s.freezeNow q else (s.setCapQ q { s.capQ q with post := n }).setQueueState q qPost
  else s

/-- REARM empties a FROZEN ring, keeping the counters and the sequence numbers. -/
def State.queueRearmCmd (s : State) (q : Nat) : State :=
  if s.queueState q = qFrozen then
    let c := s.capQ q
    ((s.setCapQ q { beatAt := c.beatAt, spill := c.spill, seq := c.seq, lost := c.lost }).setQueueState q qRun).showQueue q
  else s

/-! ### Queue actions of the sequencer (R144, R167) -/

/-- One action at one queue. TREC looks at the state before the others act. -/
def State.actAtQueue (s : State) (a : QAction) (q : Nat) : State :=
  let st := s.queueState q
  let s := s.setCapQ q { s.capQ q with actAt := s.time.fck + 1 }
  let s := match a.trec with
    | some d => if st = qRun ∨ st = qPost ∨ st = qStopped then s.raiseDevice q d else s
    | none => s
  let s := if a.freeze then s.queueFreezeCmd q else s
  let s := if a.start then s.queueStartCmd q else s
  if a.stop then s.queueStopCmd q else s

/-- Actions whose edge has come for a layer's queues. -/
def State.queueActions (s : State) (layer : Nat) : State :=
  let due := fun (a : QAction) => if layer = 0 then !a.doneA && decide (a.atA ≤ s.time.fck) else !a.doneB && decide (a.atB ≤ s.time.fck)
  let now := s.cap.seq.actions.filter due
  let left := (s.cap.seq.actions.map (fun a =>
    if due a then (if layer = 0 then { a with doneA := true } else { a with doneB := true }) else a)).filter (fun a => !(a.doneA && a.doneB))
  let s := { s with cap := { s.cap with seq := { s.cap.seq with actions := left } } }
  now.foldl (fun s a =>
    ((List.range 256).filter (fun q => a.queues.getLsbD q && s.queueLayer q == layer)).foldl (fun s q => s.actAtQueue a q) s) s

/-- QUEUE_ACTION (R167). -/
def execQueueAction (layer : LayerNo) (s : State) : Host.Outcome State Fault Refusal := done (s.queueActions layer)

/-- The beat of this edge after the sequencer's actions of this edge. -/
def State.queueEdge (s : State) (q : Nat) : State := (s.queueActions (s.queueLayer q)).recordBeat q

/-- The credit word driven at this edge: FREE and ACCEPT count the actions and the beat of this edge, which are taken here on a copy. -/
def State.driveCredit (s : State) (q : Nat) : State :=
  if s.queueState q = qOff then s
  else s.drive (s.queueWell q) (s.queueCh q + 10) (s.queueDie q) (s.queueTop q) (BitVec.ofNat 32 ((s.queueEdge q).creditWord q))

/-- RECORD_BEAT (R148). -/
def execRecordBeat (q : QueueNo) (s : State) : Host.Outcome State Fault Refusal := done (s.queueEdge q)

/-- POST_COUNT_EXPIRY (R154). -/
def execPostCountExpiry (q : QueueNo) (s : State) : Host.Outcome State Fault Refusal := done (s.postExpired q)

/-- A write of CAP.Q[q].CMD, or a CAPTURE_CMD item's bits (R169): each bit acts in increasing order. Where an action of the sequencer applies
to the queue at this edge, the command acts at the next, after the beat of this one. -/
def State.queueCmd (s : State) (q bits : Nat) : State :=
  let s := s.queueActions (s.queueLayer q)
  let s := if (s.capQ q).actAt = s.time.fck + 1 then s.recordBeat q else s
  let s := if natBit bits 0 then s.dropRem q else s
  let s := if natBit bits 1 then s.queueStartCmd q else s
  let s := if natBit bits 2 then s.queueStopCmd q else s
  let s := if natBit bits 3 then s.queueFreezeCmd q else s
  if natBit bits 4 then s.queueRearmCmd q else s

/-- QUEUE_RD_WRITE (R157). -/
def execQueueRdWrite (q : QueueNo) (data : Data) (s : State) : Host.Outcome State Fault Refusal :=
  done (s.regWrite (CAP_Q_RD q) data (fun s => s.queueRdWrite q data))

/-- CMD_DROP_REM (R157). -/
def execCmdDropRem (q : QueueNo) (s : State) : Host.Outcome State Fault Refusal :=
  done (s.regWrite (CAP_Q_CMD q) 1 (fun s => s.queueCmd q 1))

/-- CMD_START (R155). -/
def execCmdStart (q : QueueNo) (s : State) : Host.Outcome State Fault Refusal :=
  done (s.regWrite (CAP_Q_CMD q) 2 (fun s => s.queueCmd q 2))

/-- CMD_STOP (R155). -/
def execCmdStop (q : QueueNo) (s : State) : Host.Outcome State Fault Refusal :=
  done (s.regWrite (CAP_Q_CMD q) 4 (fun s => s.queueCmd q 4))

/-- CMD_FREEZE (R154). -/
def execCmdFreeze (q : QueueNo) (s : State) : Host.Outcome State Fault Refusal :=
  done (s.regWrite (CAP_Q_CMD q) 8 (fun s => s.queueCmd q 8))

/-- CMD_REARM (R154). -/
def execCmdRearm (q : QueueNo) (s : State) : Host.Outcome State Fault Refusal :=
  done (s.regWrite (CAP_Q_CMD q) 16 (fun s => s.queueCmd q 16))

/-! ### The drain (R155, R156, R158 to R160) -/

def burstBytes (code : Nat) : Nat := match code with
  | 0 => 256
  | 1 => 1024
  | 2 => 2048
  | _ => 4096

/-- A word of a ring read by the drain: its bytes and whether it is uncorrectable (R158). -/
def State.drainWord (s : State) (q pos : Nat) : State × List Byte × Bool :=
  let w := (s.ringBase q + pos % max 1 (s.ringSize q)) / 8
  let r := (s.oasConflict (s.queueGroup q) w (queueReq q) false).oasRead (s.queueGroup q) w (queueReq q)
  (r.1.ringRead q r.2.2.1 r.2.2.2, toBytes 8 r.2.1, r.2.2.2)

/-- Whether a word of a ring would read uncorrectable. -/
def State.ringWordBad (s : State) (q pos : Nat) : Bool :=
  let x := s.oasStored (s.queueGroup q) ((s.ringBase q + pos % max 1 (s.ringSize q)) / 8)
  s.oasFailed (s.queueGroup q) || x.2 || oasDecode x.1 == .bad

/-- Up to `n` bytes of a record as the drain reads them, from byte `skip` on, and whether a word of it is uncorrectable. DAMAGED is set in a
header that is still to be written, for any word of the record (R158); a word counts as its burst takes it (DEDUCED, log entry 134). -/
def State.drainRecord (s : State) (q skip n : Nat) (r : RingRec) : State × List Byte × Bool :=
  let dam := r.damaged || (skip == 0 && (List.range (r.len / 8)).any (fun k => s.ringWordBad q (r.pos + 8 * k)))
  let x := (List.range (min n (r.len - skip) / 8)).foldl (fun (a : State × List Byte × Bool) k =>
    let y := a.1.drainWord q (r.pos + skip + 8 * k)
    (y.1, a.2.1 ++ y.2.1, a.2.2 || y.2.2)) (s, [], dam)
  let b := x.2.1
  (x.1, if dam ∧ skip = 0 then b.set 12 (b.getD 12 0 ||| 8) else b, x.2.2)

/-- The bytes of the ring from RD on, up to `n`. A record found damaged is remembered so. -/
def State.drainBytes (s : State) (q n : Nat) : State × List Byte :=
  let c := s.capQ q
  let x := c.recs.foldl (fun (a : State × List Byte × List RingRec) r =>
    if a.2.1.length < n then
      let y := a.1.drainRecord q (c.rd - r.pos) (n - a.2.1.length) r
      (y.1, a.2.1 ++ y.2.1, a.2.2 ++ [{ r with damaged := y.2.2 }])
    else (a.1, a.2.1, a.2.2 ++ [r])) (s, [], [])
  (x.1.setCapQ q { x.1.capQ q with recs := x.2.2 }, x.2.1.take n)

/-- The bytes a region has room for: to its end in STOP, to RD in CONSUME (R160). -/
def State.regionRoom (s : State) (g n : Nat) : Nat :=
  let cfg := s.reg (CAP_REGION_CFG g)
  let r := s.region g
  match CAP_REGION_CFG_MODE.get cfg with
  | 0 => regionBytes cfg - r.written
  | 2 => regionBytes cfg - (r.written - r.rdPos)
  | _ => n

/-- Bytes written into a region from a stream position, the part past its end from its start; the status of the write. -/
def State.regionPut (s : State) (q g : Nat) (bytes : List Byte) : State × Nat :=
  let cfg := s.reg (CAP_REGION_CFG g)
  let size := max 1 (regionBytes cfg)
  let off := (s.region g).written % size
  let first := bytes.take (size - off)
  let rest := bytes.drop (size - off)
  let r := s.dramAcc (queueReq q) (regionStart cfg + off) (.write first)
  if r.2.1 ≠ 0 ∨ rest.isEmpty then (r.1, r.2.1)
  else
    let t := r.1.dramAcc (queueReq q) (regionStart cfg) (.write rest)
    (t.1, t.2.1)

/-- Whether a drain may begin a burst. -/
def State.drainReady (s : State) (q : Nat) : Bool :=
  let st := s.queueState q
  s.clk.rootRun && !s.oasClearing (s.queueGroup q) && s.queueMode q == 2 && st != qOff && st != qFault && (s.capQ q).burst.isNone && !s.fldOn (CAP_REGION_STATUS (s.queueRegion q)) CAP_REGION_STATUS_FULL

/-- The drain halted at a region's end or at RD (R160). -/
def State.regionFull (s : State) (g : Nat) : State :=
  if s.fldOn (CAP_REGION_STATUS g) CAP_REGION_STATUS_FULL then s
  else (s.setFld (CAP_REGION_STATUS g) CAP_REGION_STATUS_FULL 1).raiseReg 0x0405 g 0 (CAP_REGION_STATUS g)

/-- A drain of `n` committed bytes, completed to a line with a pad record when it is the tail, as far as the region has room (R155, R156,
R160). -/
def State.drainStart (s : State) (q n : Nat) (tail : Bool) : State :=
  let g := s.queueRegion q
  let short := n % 64
  let pad := if tail ∧ short ≠ 0 then
      recordBytes q s.time.stamp 0xFFFF (64 * 3) (s.capQ q).seq (List.replicate (48 - short) 0) none noMark
    else []
  let len := n + pad.length
  let room := s.regionRoom g len
  let fit := if len ≤ room then len else room / 64 * 64
  let s := if fit = 0 then s
    else
      let x := s.drainBytes q (min fit n)
      let chunk := x.2 ++ (if fit = len then pad else [])
      let y := x.1.regionPut q g chunk
      y.1.setCapQ q { y.1.capQ q with burst := some { taken := min fit n, bytes := chunk, padded := decide (n < fit), status := y.2 } }
  if fit < len then s.regionFull g else s

/-- Committed bytes not yet drained. -/
def State.undrained (s : State) (q : Nat) : Nat := (s.capQ q).wr - (s.capQ q).rd
def State.burstOf (s : State) (q : Nat) : Nat := burstBytes (s.fld (CAP_Q_CTL q) CAP_Q_CTL_BURST)

/-- DRAIN_BURST (R155). -/
def execDrainBurst (q : QueueNo) (s : State) : Host.Outcome State Fault Refusal :=
  if s.drainReady q ∧ s.burstOf q ≤ s.undrained q then done (s.drainStart q (s.burstOf q) false) else done s

/-- TAIL_TIMER_EXPIRY (R156). -/
def execTailTimerExpiry (q : QueueNo) (s : State) : Host.Outcome State Fault Refusal :=
  if s.drainReady q ∧ 0 < s.undrained q ∧ s.undrained q < s.burstOf q then done (s.drainStart q (s.undrained q) true) else done s

/-- What a region's registers show (R177). -/
def State.showRegion (s : State) (g : Nat) : State :=
  let cfg := s.reg (CAP_REGION_CFG g)
  let r := s.region g
  let size := max 1 (regionBytes cfg)
  let wr := if CAP_REGION_CFG_MODE.get cfg = 0 then r.whole else r.whole % size
  let s := (s.setReg (CAP_REGION_WR g) (BitVec.ofNat 64 wr)).setReg (CAP_REGION_OLDEST g) (BitVec.ofNat 64 ((r.starts.headD r.whole) % size))
  if CAP_REGION_CFG_MODE.get cfg = 1 then s.setFld (CAP_REGION_STATUS g) CAP_REGION_STATUS_WRAPS (r.written / size) else s

/-- A queue in FAULT (R168). -/
def State.queueToFault (s : State) (q : Nat) : State :=
  let s := s.setCapQ q { s.capQ q with burst := none }
  (s.setFlds (CAP_Q_STATUS q) [(CAP_Q_STATUS_STATE, qFault), (CAP_Q_STATUS_REASON, 8)]).raiseReg 0x0406 q 0 (CAP_Q_STATUS q)

/-- A burst acknowledged: the ring's read pointer and the region's WR advance (R155, R159, R160). -/
def State.burstDone (s : State) (q : Nat) (b : Burst) : State :=
  let g := s.queueRegion q
  let c := s.capQ q
  let r := s.region g
  let upto := c.rd + b.taken
  let begun := (c.recs.filter (fun x => decide (c.rd ≤ x.pos) && decide (x.pos < upto))).map (fun x => r.written + (x.pos - c.rd))
  let ended := c.recs.filter (fun x => decide (x.pos + x.len ≤ upto))
  let whole := ended.foldl (fun _ x => r.written + (x.pos + x.len - c.rd)) r.whole
  let starts := r.starts ++ begun ++ (if b.padded then [r.written + b.taken] else [])
  let written := r.written + b.bytes.length
  let size := max 1 (regionBytes (s.reg (CAP_REGION_CFG g)))
  let s := s.setRegion g { r with written := written, whole := if b.padded then written else whole,
                                  starts := starts.filter (fun x => decide (written ≤ x + size)) }
  let s := ((s.setCapQ q { c with burst := none }).freeTo q upto).showRegion g
  if s.regionRoom g 1 = 0 then s.regionFull g else s

/-- The status of a burst's write known: it waits, it is acknowledged or it failed. -/
def State.burstEnd (s : State) (q : Nat) (b : Burst) : State :=
  if b.status = 0 then s.burstDone q b
  else if b.status = memWait then
    let y := s.regionPut q (s.queueRegion q) b.bytes
    let b := { b with status := y.2 }
    if y.2 = 0 then y.1.burstDone q b
    else if y.2 = memWait then y.1.setCapQ q { y.1.capQ q with burst := some b }
    else y.1.queueToFault q
  else s.queueToFault q

/-- DRAIN_WRITE_ACK (R155). -/
def execDrainWriteAck (q : QueueNo) (s : State) : Host.Outcome State Fault Refusal :=
  match (s.capQ q).burst with
  | some b => done (s.burstEnd q b)
  | none => done s

/-- DRAIN_WRITE_ERROR (R168). -/
def execDrainWriteError (q : QueueNo) (s : State) : Host.Outcome State Fault Refusal :=
  if (s.capQ q).burst.isSome then done (s.queueToFault q) else done s

/-! ### Regions (R160, R177) -/

/-- A write of CAP.REGION[g].CFG. -/
def State.regionCfgWrite (s : State) (g : Nat) (data : Data) : State :=
  if (s.region g).queue.isSome then s.raiseReg 0x0407 g 0 (CAP_REGION_CFG g) else s.writeReg (CAP_REGION_CFG g) data

/-- REGION_CFG_WRITE (R177). -/
def execRegionCfgWrite (g : RegionNo) (data : Data) (s : State) : Host.Outcome State Fault Refusal :=
  done (s.regWrite (CAP_REGION_CFG g) data (fun s => s.regionCfgWrite g data))

/-- A write of CAP.REGION[g].RD. -/
def State.regionRdWrite (s : State) (g : Nat) (data : Data) : State :=
  let cfg := s.reg (CAP_REGION_CFG g)
  let r := s.region g
  let v := CAP_REGION_RD_OFFSET.get data / 64 * 64
  if CAP_REGION_CFG_MODE.get cfg = 2 then
    let size := max 1 (regionBytes cfg)
    let rd := s.fld (CAP_REGION_RD g) CAP_REGION_RD_OFFSET
    let delta := (v + size - rd) % size
    let dist := if r.rdPos % size = rd then r.whole - r.rdPos else (s.fld (CAP_REGION_WR g) CAP_REGION_WR_OFFSET + size - rd) % size
    if size ≤ v ∨ dist < delta then s.raiseReg 0x0407 g 0 (CAP_REGION_CFG g)
    else
      let s := (s.setRegion g { r with rdPos := r.whole - (dist - delta) }).setReg (CAP_REGION_RD g) (BitVec.ofNat 64 v)
      if delta = 0 then s else s.setFld (CAP_REGION_STATUS g) CAP_REGION_STATUS_FULL 0
  else s.setReg (CAP_REGION_RD g) (BitVec.ofNat 64 v)

/-- REGION_RD_WRITE (R177). -/
def execRegionRdWrite (g : RegionNo) (data : Data) (s : State) : Host.Outcome State Fault Refusal :=
  done (s.regWrite (CAP_REGION_RD g) data (fun s => s.regionRdWrite g data))

/-- The reset of a capture queue's domain (R168). -/
def State.queueReset (s : State) (q : Nat) : State :=
  let s := s.discardOpen q false
  let en := s.fldOn (CAP_Q_CTL q) CAP_Q_CTL_EN
  if en then s.queueStart q true else (s.queueCountersOff q).setCapQ q { beatAt := (s.capQ q).beatAt }

end Sys2Proof.Machine
end

