-- ==== Sys2Proof/Machine/Cores.lean ====
section
/-!
DEFINITION. The three management cores as their debug logic and watchdogs hold them: halting and resuming (chapter 20).
-/
namespace Sys2Proof.Machine

def State.core (s : State) (c : Nat) : CoreSt := s.cores.get (fun _ => {}) c
def State.setCore (s : State) (c : Nat) (v : CoreSt) : State := { s with cores := s.cores.set (fun _ => {}) c v }
def State.coreHalted (s : State) (c : Nat) : Bool := s.fldOn (DBG_CORE_STATUS c) DBG_CORE_STATUS_HALTED

/-! ### SUP.STATUS (R535) -/

def svOff := 0
def svLeading := 1
def svFollowing := 2
def svResetting := 3
def svHalted := 4
def svFailed := 5
def State.sv (s : State) (c : Nat) : Nat := if c = 0 then s.fld SUP_STATUS SUP_STATUS_SVA else s.fld SUP_STATUS SUP_STATUS_SVB
def State.setSv (s : State) (c st : Nat) : State := if c = 0 then s.setFld SUP_STATUS SUP_STATUS_SVA st else s.setFld SUP_STATUS SUP_STATUS_SVB st
def State.leaderNo (s : State) : Nat := s.fld SUP_STATUS SUP_STATUS_LEADER

/-- A supervisor shown as halted, or again as what it is (R517). -/
def State.showCore (s : State) (c : Nat) (halted : Bool) : State :=
  if 2 ≤ c then s
  else if halted then s.setSv c svHalted
  else s.setSv c (if s.leaderNo = c then svLeading else svFollowing)

/-! ### Halting (R519, R525, R529) -/

/-- What a core's firmware leaves in its registers, its PC, its status word and its own address space: free values, fixed while it is
halted. -/
def State.coreFree (s : State) (c : Nat) : State :=
  let regs := SMap.tab 34 (fun _ => 0) (fun k => Config.freeValue 32 (s.freeCtr + k))
  (s.setCore c { s.core c with regs := regs, space := {} }).spend 34

/-- Core c halted with its cause: 0 request, 1 comparator, 2 step. PC shows (R537). -/
def State.haltNow (s : State) (c cause : Nat) : State :=
  let s := s.coreFree c
  let s := s.setCore c { s.core c with haltWait := false }
  let pc := ((s.core c).regs.get (fun _ => 0) 32).toNat
  let s := s.setFlds (DBG_CORE_STATUS c) [(DBG_CORE_STATUS_HALTED, 1), (DBG_CORE_STATUS_LOCK_WAIT, 0), (DBG_CORE_STATUS_CAUSE, cause), (DBG_CORE_STATUS_PC, pc)]
  let s := (s.setFld (SUP_WDOG c) SUP_WDOG_FROZEN 1).showCore c true
  { s with sec := { s.sec with haltEver := true } }.raiseReg 0x0007 c 0 (DBG_CORE_STATUS c)

/-- A halt asked for: at once, or after the reservation that the core holds (R529). Whether its firmware holds one is a free value. -/
def State.askHalt (s : State) (c cause : Nat) : State :=
  if s.coreHalted c ∨ s.clk.mgmtReset then s
  else
    let holds := Config.freeValue 1 s.freeCtr != 0
    let s := (s.setCore c { s.core c with reservation := holds, haltWait := holds }).spend 1
    if holds then s.setFlds (DBG_CORE_STATUS c) [(DBG_CORE_STATUS_LOCK_WAIT, 1), (DBG_CORE_STATUS_CAUSE, cause)]
    else s.haltNow c cause

/-- A halted core resumed: its watchdog goes on from at least 1,000 µs (R519). -/
def State.resumeNow (s : State) (c : Nat) : State :=
  if !s.coreHalted c then s
  else
    let s := s.setFlds (DBG_CORE_STATUS c) [(DBG_CORE_STATUS_HALTED, 0), (DBG_CORE_STATUS_PC, 0)]
    let s := s.setFlds (SUP_WDOG c) [(SUP_WDOG_FROZEN, 0), (SUP_WDOG_REMAIN, max (s.fld (SUP_WDOG c) SUP_WDOG_REMAIN) 1000)]
    (s.showCore c false).raiseReg 0x0008 c 0 (DBG_CORE_STATUS c)

/-! ### Unlocks (R479, R481, R534) -/

def State.jtagOpen (s : State) : Bool := s.fldOn SEC_STATUS SEC_STATUS_JTAG_DBG
def State.hostOpen (s : State) : Bool := s.fldOn SEC_STATUS SEC_STATUS_HOST_DBG
def State.unlockScope (s : State) : Nat := s.fld SEC_STATUS SEC_STATUS_JTAG_DBG + 2 * s.fld SEC_STATUS SEC_STATUS_HOST_DBG

/-- Every debug unlock ended: halted cores resume with grace (R479, R534). -/
def State.endUnlock (s : State) : State :=
  let scope := s.unlockScope
  if scope = 0 then s
  else
    let s := s.setFlds SEC_STATUS [(SEC_STATUS_JTAG_DBG, 0), (SEC_STATUS_HOST_DBG, 0)]
    let s := (s.setReg SEC_DEBUG 0).setFld DBG_ATTACH DBG_ATTACH_HOST 0
    let s := { s with sec := { s.sec with unlockForever := false } }.raiseReg 0x000A scope 2 SEC_STATUS
    [0, 1, 2].foldl (fun s c => s.resumeNow c) s

/-- An unlock granted for so many seconds, 0 until reset (R477, R481). -/
def State.beginUnlock (s : State) (scope seconds : Nat) : State :=
  let s := s.setFlds SEC_STATUS [(SEC_STATUS_JTAG_DBG, scope % 2), (SEC_STATUS_HOST_DBG, scope / 2)]
  let s := if scope < 2 then s.setFld DBG_ATTACH DBG_ATTACH_HOST 0 else s
  let s := s.setFld SEC_DEBUG SEC_DEBUG_REMAIN (if seconds = 0 then 0xFFFFFFFF else seconds)
  { s with sec := { s.sec with unlockForever := seconds == 0 } }.raiseReg 0x000A scope 1 SEC_STATUS

end Sys2Proof.Machine
end

