-- ==== Sys2Proof/Machine/SchedOps.lean ====
section
/-!
DEFINITION. The shared operations of the queue interface and the scheduler: rings, the journal, tags, the stages of an item, the
release of completions (R393 to R408, R416 to R433, R471 to R474).
-/
namespace Sys2Proof.Machine

/-! ### Rings -/

def State.ring (s : State) (r : Nat) : RingSt := s.rings.get (fun _ => {}) r
def State.setRing (s : State) (r : Nat) (q : RingSt) : State := { s with rings := s.rings.set (fun _ => {}) r q }
def State.ringState (s : State) (r : Nat) : Nat := s.fld (QIF_RING_STATUS r) QIF_RING_STATUS_STATE
def ringOff := 0
def ringChecking := 1
def ringHeld := 2
def ringRun := 3
def ringStopping := 4
def ringError := 5

/-- The rings whose state satisfies a test. -/
def State.ringsWhere (s : State) (p : Nat → Bool) : List Nat := (List.range 256).filter (fun r => p (s.ringState r))

def State.allRingsOff (s : State) : Bool := (s.ringsWhere (fun x => x != 0)).isEmpty

/-- The state of the queue interface (R413). -/
def State.qif (s : State) : Nat := s.fld QIF_STATUS QIF_STATUS_STATE

/-- Whether power lets acceptance and dispatch go on (R500 step 1). -/
def State.workRuns (s : State) : Bool :=
  match s.pwr.st with
  | .active => true
  | .quiet => true
  | _ => false

/-- A ring placed in a state. -/
def State.setRingState (s : State) (r st : Nat) : State := s.setFld (QIF_RING_STATUS r) QIF_RING_STATUS_STATE st

/-- A ring entered ERROR with a reason (R410, R414). -/
def State.ringToError (s : State) (r reason : Nat) : State :=
  let s := s.setFlds (QIF_RING_STATUS r) [(QIF_RING_STATUS_STATE, ringError), (QIF_RING_STATUS_REASON, reason)]
  s.raiseReg 0x0C02 r 0 (QIF_RING_STATUS r)

/-- A doorbell ignored (R398, R410). -/
def State.doorbellIgnored (s : State) (r reason : Nat) : State :=
  let s := s.setFlds QIF_STATUS [(QIF_STATUS_DB_ERR, 1), (QIF_STATUS_REASON, reason)]
  s.raiseReg 0x0C01 r 0 QIF_STATUS

/-- A QIF write refused (R410, R413). -/
def State.qifRefused (s : State) : State :=
  let s := s.setFlds QIF_STATUS [(QIF_STATUS_REFUSED, 1), (QIF_STATUS_REASON, 1)]
  s.raiseReg 0x0C04 0 0 QIF_STATUS

/-- The control block's address (R414). -/
def State.cbAddr (s : State) (r : Nat) : Nat := s.fld (QIF_RING_CB r) QIF_RING_CB_ADDR * 128

/-- One device word of a control block written (R394). -/
def State.cbWrite (s : State) (r off v : Nat) : State := s.hostWrite (s.cbAddr r + off) (toBytes 8 v)

/-- The ring words copied into the retained journal (R430). -/
def State.retainRing (s : State) (r : Nat) : State :=
  let q := s.ring r
  let v : RetRing := { accept := q.accept, done := q.done, cqCount := q.cqCount, confirmed := q.confirmed, lastTail := q.lastTail }
  { s with jr := { s.jr with rings := s.jr.rings.set (fun _ => {}) r v } }

/-- The low 64 bits of the module's serial number (R393). -/
def State.serialLo (s : State) : Nat := s.fuses.serial.toNat % 2 ^ 64

/-! ### The journal -/

def State.pageAddr (s : State) : Nat := s.fld QIF_JOURNAL QIF_JOURNAL_PAGE * 4096
def State.jentry (s : State) (e : Nat) : JEntry := s.jr.entries.get (fun _ => {}) e

/-- The 64 bytes of a journal entry (R432). -/
def jentryBytes (j : JEntry) : List Byte :=
  toBytes 8 j.wsn ++ toBytes 2 j.ring ++ toBytes 1 j.state ++ toBytes 1 j.opc ++ toBytes 4 j.writes ++ toBytes 48 j.body.toNat

/-- The journal entry in 64 bytes (R432). -/
def jentryOf (b : List Byte) : JEntry :=
  let n := ofBytes b
  { wsn := natBits n 0 64, ring := natBits n 64 16, state := natBits n 80 8, opc := natBits n 88 8, writes := natBits n 96 32,
    body := BitVec.ofNat 384 (natBits n 128 384) }

/-- An entry written to the retained journal and then to the page (R433); WRITES counts. -/
def State.journalPut (s : State) (e : Nat) (j : JEntry) : State :=
  let j := { j with writes := ((s.jentry e).writes + 1) % 2 ^ 32 }
  let s := { s with jr := { s.jr with entries := s.jr.entries.set (fun _ => {}) e j } }
  s.hostWrite (s.pageAddr + 64 * e) (jentryBytes j)

/-- An entry written to the page alone: the first of an item that stands behind the one whose entry the retained journal holds (R184, R202). -/
def State.journalPage (s : State) (e : Nat) (j : JEntry) : State :=
  s.hostWrite (s.pageAddr + 64 * e) (jentryBytes { j with writes := ((s.jentry e).writes + 1) % 2 ^ 32 })

/-- An entry written to the retained journal alone (R433 step 2). -/
def State.journalRetain (s : State) (e : Nat) (j : JEntry) : State :=
  let j := { j with writes := ((s.jentry e).writes + 1) % 2 ^ 32 }
  { s with jr := { s.jr with entries := s.jr.entries.set (fun _ => {}) e j } }

/-- The body of a started entry (R432). -/
def startBody (s : State) (it : Item) : Nat :=
  if it.opc = opTask then (s.fld (SCH_TP (it.movedTo.getD it.unit)) SCH_TP_TASKNO + 1) % 65536
  else if it.opc = opErgSwitch then it.num 16 1
  else if it.opc = opCaptureCmd then it.num 16 1
  else 0

/-- The body of a finished entry (R432). -/
def finishBody (it : Item) (r : Result) : Nat :=
  r.status + 2 ^ 32 * (r.detail % 2 ^ 32) + 2 ^ 64 * (r.count % 2 ^ 64) + 2 ^ 128 * (2 * bit01 it.late + 4 * bit01 it.resumed)

/-- An item's executor entry freed, if it is that item's (R433 step 4). PENDING of a task port follows the entry (R439). -/
def State.journalFree (s : State) (it : Item) : State :=
  match it.execOf.bind journalEntry with
  | none => s
  | some e =>
    let j := s.jentry e
    if j.state ≠ 0 ∧ j.wsn = it.wsn ∧ j.ring = it.ring then
      let s := s.journalPut e { j with state := 0 }
      if it.opc = opTask then s.setFld (SCH_TP (e - 49)) SCH_TP_PENDING 0 else s
    else s

/-! ### Executors -/

def State.exec? (s : State) (k : Nat) : ExecSt := s.sched.execs.get (fun _ => {}) k
def State.setExec (s : State) (k : Nat) (e : ExecSt) : State :=
  { s with sched := { s.sched with execs := s.sched.execs.set (fun _ => {}) k e } }
def State.cur (s : State) (k : Nat) : Option Running := (s.exec? k).cur
def State.setCur (s : State) (k : Nat) (c : Option Running) : State := s.setExec k { s.exec? k with cur := c }

/-- The leading supervisor's state in SUP.STATUS (R535). -/
def State.leaderState (s : State) : Nat :=
  if s.fldOn SUP_STATUS SUP_STATUS_LEADER then s.fld SUP_STATUS SUP_STATUS_SVB else s.fld SUP_STATUS SUP_STATUS_SVA

/-- Whether an executor stands still: the security controller while it is halted or held in reset, the configuration engine while the management
class has no clock, the supervisor while none leads or it is halted (R485, R517, R525); a player, the capture controller or an engine while its
node of the gate tree stops its clock (R489). -/
def State.execStill (s : State) (k : Nat) : Bool :=
  (k == keySecurity && (s.clk.mgmtReset || s.fldOn (DBG_CORE_STATUS 2) DBG_CORE_STATUS_HALTED)) || (k == keySupervisor && s.leaderState != 1)
    || (k == keyConfig && s.clk.mgmtReset) || (k == keyCapture && !s.nodeRuns 5 5)
    || (decide (16 ≤ k) && decide (k < 64) && !s.nodeRuns (0x240 + (k - 16)) 4)
    || (decide (65 ≤ k) && decide (k < 89) && !s.nodeRuns (0x220 + (k - 65)) 3)

/-- The item an executor performs, when it is of an opcode, may take effect and has not finished. While the device departs, and after it,
executors stop (R411). -/
def State.curOp (s : State) (k opc : Nat) : Option Running :=
  match s.cur k with
  | some c =>
    if c.item.opc = opc ∧ c.phase = .effective ∧ c.result = none ∧ s.qif ≠ 3 ∧ s.qif ≠ 4 ∧ !s.execStill k then some c else none
  | none => none

/-- The item an executor performs given its result. -/
def State.finish (s : State) (k : Nat) (r : Result) : State :=
  match s.cur k with
  | some c => s.setCur k (some { c with result := some r })
  | none => s

/-- The item an executor performs finished with a status alone. -/
def State.finishSt (s : State) (k st : Nat) : State := s.finish k { status := st }

/-- The executor's own step recorded in the retained journal and mirrored to the page (R432, R433 step 2). -/
def State.journalStep (s : State) (k step : Nat) (record : Nat) : State :=
  let s := match s.cur k with
    | some c => s.setCur k (some { c with step := step })
    | none => s
  match journalEntry k with
  | some e =>
    let j := s.jentry e
    if j.state = 1 then s.journalPut e { j with body := BitVec.ofNat 384 (step % 2 ^ 32 + 2 ^ 32 * record) } else s
  | none => s

/-- Bits set in the body of a started entry, mirrored to the page: a delivery, a switch edge (R432, R433 step 2). -/
def State.journalMark (s : State) (k bits : Nat) : State :=
  match journalEntry k with
  | some e =>
    let j := s.jentry e
    if j.state = 1 then s.journalPut e { j with body := j.body ||| BitVec.ofNat 384 bits } else s
  | none => s

/-- The scheduler's own switch item of a move: no ring sees it and no entry is kept (R425). -/
def ownRing : Nat := 0xFFFF
def Item.isOwn (it : Item) : Bool := it.ring == ownRing

/-- An executor with nothing in hand takes the head of its ready queue. The start of a non-idempotent item other than a play item
is journalled and a read of the page is issued; where the write cannot be issued the item finishes with host memory error
(R433 step 1). While the device departs, and after it, nothing is started (R411); nor while an item that a reset of the executor interrupted
waits to be settled (R4, R429). -/
def State.takeNext (s : State) (k : Nat) : State :=
  let e := s.exec? k
  match e.cur, e.queue with
  | none, it :: rest =>
    if s.qif = 3 ∨ s.qif = 4 ∨ s.sched.lost.any (fun x => x.1 == k) then s
    else
    let s := s.setExec k { queue := rest, cur := some { item := it } }
    if !opcodeJournalled it.opc || it.opc == opPlay || it.isOwn then
      s.setExec k { queue := rest, cur := some { item := it, phase := .effective } }
    else
      match journalEntry k with
      | none => s.setExec k { queue := rest, cur := some { item := it, phase := .effective } }
      | some j =>
        if s.mayIssue then
          let s := s.journalPut j { wsn := it.wsn, ring := it.ring, state := 1, opc := it.opc, body := BitVec.ofNat 384 (startBody s it) }
          s.setExec k { queue := rest, cur := some { item := it, phase := .reading } }
        else s.setExec k { queue := rest, cur := some { item := it, result := some { status := stHostError } } }
  | _, _ => s

/-! ### Tags, the reorder store, flows -/

def tagCount := 131072
def reservedTags := 4096

/-- The lowest number from `n` on that a list does not hold. -/
def lowestFree (used : List Nat) : (fuel : Nat) → Nat → Nat
  | 0, n => n
  | k + 1, n => if used.contains n then lowestFree used k (n + 1) else n

/-- A free tag for an item of a class (R422); the lowest free number is taken (DESIGN CHOICE, log entry 12). -/
def State.freeTag (s : State) (cls : Nat) : Option Nat :=
  let lo := if cls = 0 then 0 else reservedTags
  let t := lowestFree s.sched.tags (s.sched.tags.length + 1) lo
  if t < tagCount then some t else none

/-- The tag counts of SCH.STATUS follow the tags in use (R438). -/
def State.showTags (s : State) : State :=
  s.setFlds SCH_STATUS [(SCH_STATUS_TAGS, s.sched.tags.length), (SCH_STATUS_C0_TAGS, (s.sched.tags.filter (· < reservedTags)).length)]

def State.takeTag (s : State) (t : Nat) : State := { s with sched := { s.sched with tags := t :: s.sched.tags } }.showTags
def State.dropTag (s : State) (t : Nat) : State := { s with sched := { s.sched with tags := s.sched.tags.filter (· != t) } }.showTags

def State.reorderAt (s : State) (t : Nat) : Option Finished := s.sched.reorder.get (fun _ => none) t
def State.setReorder (s : State) (t : Nat) (f : Option Finished) : State :=
  { s with sched := { s.sched with reorder := s.sched.reorder.set (fun _ => none) t f } }

/-- Whether a result is a failure of an IMAGE_LOAD item, which event 0x0D01 reports (R460). -/
def imageFailed (it : Item) (r : Result) : Bool :=
  it.opc == opImageLoad && r.status != stSuccess && r.status != stCancelled && r.status != stInterrupted

/-- A finished item's completion entry put into the reorder store under its tag (R418). -/
def State.toReorder (s : State) (it : Item) (r : Result) : State :=
  let s := s.setReorder it.tag (some { item := it, res := r })
  if imageFailed it r then s.raiseReg 0x0D01 (r.status + 65536 * (if r.status = stImageRejected then r.detail else 0)) 0 CFG_STATUS else s

/-- The finished and unreleased item of a ring with a WSN. -/
def State.finishedOf (s : State) (r w : Nat) : Option Finished :=
  s.sched.reorder.cells.findSome? (fun c => match c.2 with
    | some f => if f.item.ring = r ∧ f.item.wsn = w ∧ !f.released then some f else none
    | none => none)

def State.flowAt (s : State) (f : Nat) : FlowSt := s.sched.flows.get (fun _ => {}) f
def State.setFlow (s : State) (f : Nat) (v : FlowSt) : State :=
  { s with sched := { s.sched with flows := s.sched.flows.set (fun _ => {}) f v } }

/-! ### The stages of an item -/

/-- An item enters the ready stage (R418). A TASK item of an erg whose work moves goes to the other erg's port (R425). -/
def State.toReady (s : State) (it : Item) : State :=
  let mv := if it.opc = opTask then (s.thm.ergs.get (fun _ => {}) it.unit).moveTo else none
  let it := { it with readyNo := s.sched.readyNo, readyAt := s.time.fck, movedTo := mv }
  { s with sched := { s.sched with ready := s.sched.ready ++ [it], readyNo := s.sched.readyNo + 1 } }

/-- The device time of a sandglass item's RELEASE in ns, with seconds bits 47:34 taken from device time (R401). -/
def State.releaseTime (s : State) (it : Item) : Nat :=
  let sec := s.time.dev / 24576000000000000 % 2 ^ 48
  let low := it.release / 2 ^ 30
  (sec / 2 ^ 34 * 2 ^ 34 + low) * 1000000000 + it.release % 2 ^ 30

/-- The items held in a sandglass list, by release time (R195). -/
def State.sglHeld (s : State) (l : Nat) : List Item := s.sched.held.get (fun _ => []) l
def State.setSgl (s : State) (l : Nat) (v : List Item) : State :=
  let s := { s with sched := { s.sched with held := s.sched.held.set (fun _ => []) l v } }
  s.setFld (SCH_SGL_STATUS l) SCH_SGL_STATUS_HELD v.length

/-- An item put into a sorted list behind those not released later than it (R195). -/
def insertByTime (it : Item) : List Item → List Item
  | [] => [it]
  | x :: r => if it.rel < x.rel then it :: x :: r else x :: insertByTime it r

/-- Device time in ns, truncated (R209). -/
def State.nowNs (s : State) : Nat := s.time.dev / 24576000

/-- A sandglass list's tick in ns (R195, R208). -/
def State.sglTick (s : State) (l : Nat) : Nat := 64 * min (max (s.fld (SCH_SGL_CFG l) SCH_SGL_CFG_TICK) 1) 15625

/-- The first tick boundary of a list at or after a time in ns (R195). -/
def State.sglBoundary (s : State) (l t : Nat) : Nat := (t + s.sglTick l - 1) / s.sglTick l * s.sglTick l

/-- An item that reaches its list now, unless it has before (R197). -/
def State.sglReach (s : State) (it : Item) : Item := if it.reach ≠ 0 then it else { it with reach := s.nowNs + 1 }

/-- The boundary at which a held item is due: at or after its release time, and not before it reached its list (R195, R197). -/
def State.sglDue (s : State) (it : Item) : Nat := s.sglBoundary it.sglList (max it.rel (it.reach - 1))

/-- A tagged and verified item goes to its sandglass list or to the ready stage (R195, R418). -/
def State.pastTag (s : State) (it : Item) : State :=
  if it.sgl then
    s.setSgl it.sglList (insertByTime { s.sglReach it with rel := s.releaseTime it, since := s.nowNs } (s.sglHeld it.sglList))
  else s.toReady it

/-! ### Authentication (R471 to R474) -/

/-- What the store holds for a slot from manufacture: the transport key in slot 0 (R466). -/
def slotStart (k : Nat) : SlotKey := if k = 0 then { key := Config.transportKey } else {}
def State.slotKey (s : State) (k : Nat) : SlotKey := s.sec.slots.get slotStart k
def State.setSlotKey (s : State) (k : Nat) (v : SlotKey) : State := { s with sec := { s.sec with slots := s.sec.slots.set slotStart k v } }
def slotEmpty := 0
def slotActive := 1
def slotExhausted := 2

/-- The message under the tag: the descriptor and bytes 0 to 7 of the extension (R471). -/
def Item.authMessage (it : Item) : List Byte := toBytes 64 it.desc.toNat ++ toBytes 8 (it.extNum 0 8)

/-- The checks of R472: the status of the first that fails. The counter is fresh too when it equals the last accepted value and the
recorded ring and WSN are the item's own (R473). -/
def State.authFault (s : State) (it : Item) : Option Nat :=
  let k := it.slot
  let st := s.fld (SEC_SLOT k) SEC_SLOT_STATE
  let last := s.fld (SEC_SLOT k) SEC_SLOT_LAST
  if st = slotEmpty then some stAuthFailed
  else if st = slotExhausted then some stCounterExhausted
  else if (hmacTag (s.slotKey k).key it.authMessage).toNat ≠ it.authTag then some stAuthFailed
  else if it.counter > last ∨ (it.counter = last ∧ (s.slotKey k).by_ = some (it.ring, it.wsn)) then none
  else some stCounterNotFresh

/-- An item accepted by its slot (R472, R475). -/
def State.authAccept (s : State) (it : Item) : State :=
  let k := it.slot
  let s := s.setFlds (SEC_SLOT k) [(SEC_SLOT_LAST, it.counter),
    (SEC_SLOT_STATE, if it.counter = 0xFFFFFFFF then slotExhausted else slotActive)]
  s.setSlotKey k { s.slotKey k with by_ := some (it.ring, it.wsn) }

/-- A tagged item verified: it fails, it waits for the ceiling's write, or it goes on (R472, R474, R478). -/
def State.verifyItem (s : State) (it : Item) : State :=
  match it.settled, s.authFault it with
  | some r, _ => s.toReorder it r
  | none, some st =>
    -- a transfer of ownership through an exhausted owner slot stands on its owner signatures alone (R478)
    if st = stCounterExhausted ∧ it.opc = opOwner ∧ it.slot = 0 then s.pastTag { it with verified := true }
    else s.toReorder { it with resumed := false } { status := st }
  | none, none =>
    if it.counter ≥ (s.slotKey it.slot).ceiling ∧ (s.slotKey it.slot).ceiling < 0xFFFFFFFF then
      s.setSlotKey it.slot { s.slotKey it.slot with waiting := [it] }
    else (s.authAccept it).pastTag { it with verified := true }

/-- An item that has its tag: the result it has been given without being performed (R407, R429), its faults, its authentication, its next stage (R402, R404, R418, R472). -/
def State.tagged (s : State) (it : Item) : State :=
  match it.settled, s.descFault it with
  | some r, _ => s.toReorder it r
  | none, some st => s.toReorder { it with resumed := false } { status := st }
  | none, none =>
    if it.auth ∧ !it.verified then
      if (s.slotKey it.slot).waiting.isEmpty then s.verifyItem it
      else s.setSlotKey it.slot { s.slotKey it.slot with waiting := (s.slotKey it.slot).waiting ++ [it] }
    else s.pastTag it

/-! ### Acceptance -/

/-- The next power of two place of the class-0 queue (R419). -/
def c0Depth := 4096
def queueDepth := 256

/-- The 64 × slot address of an item in the spill region (R420). -/
def State.spillAddr (s : State) (r w : Nat) : Nat := s.fld SCH_SPILL SCH_SPILL_BASE * 2 ^ 20 + 2 ^ 22 * r + 64 * (w % 65536)

/-- A slot of the spill region written under requester 22 (R420), and whether the write was refused or failed: it may wait at a controller,
and without a valid region there is nowhere to write. -/
def State.spillPut (s : State) (r w : Nat) (d : BitVec 512) : State × Bool :=
  if s.fldOn SCH_SPILL SCH_SPILL_VALID then
    let a := s.spillAddr r w
    let x := s.dramAcc 22 a (.write (toBytes 64 d.toNat))
    if x.2.1 = memWait then (x.1.dramRequest 22 a (.write (toBytes 64 d.toNat)), false) else (x.1, x.2.1 != 0)
  else (s, true)

/-- A slot of the spill region read under requester 22: its status and content (R420). -/
def State.spillGet (s : State) (r w : Nat) : State × Nat × BitVec 512 :=
  let x := s.dramAcc 22 (s.spillAddr r w) (.read 64)
  (x.1, x.2.1, BitVec.ofNat 512 (ofBytes x.2.2))

/-- An accepted item placed: a class-0 item into the class-0 queue while it has room, another into its ring's queue, or into the
spill region when that is full (R420, R423). -/
def State.placeItem (s : State) (it : Item) : State :=
  let q := s.ring it.ring
  if it.cls = 0 ∧ s.sched.c0.length < c0Depth then { s with sched := { s.sched with c0 := s.sched.c0 ++ [it] } }
  else if q.spilled.isEmpty ∧ q.queue.length < queueDepth then s.setRing it.ring { q with queue := q.queue ++ [it] }
  else
    let a := s.spillPut it.ring it.wsn it.desc
    let b := match it.ext with | some x => a.1.spillPut it.ring (it.wsn + 1) x | none => (a.1, false)
    let q := b.1.ring it.ring
    (b.1.setRing it.ring { q with spilled := q.spilled ++ [{ it with spillBad := a.2 || b.2 }] }).satFld SCH_CNT_SPILL SCH_CNT_SPILL_SPILLED 1

/-- The bytes of a submission entry as one number (R396). -/
def State.entryAt (s : State) (r w : Nat) : BitVec 512 :=
  let q := s.ring r
  BitVec.ofNat 512 (s.hostNum (q.sqBase + 64 * (w % 2 ^ q.sqLog2)) 64)

/-- Entries fetched and items accepted while R399 lets acceptance go on. `failAt` is the fetch that fails, counted from this one. -/
def State.acceptLoop (r : Nat) : (fuel : Nat) → Option Nat → State → State
  | 0, _, s => s
  | k + 1, failAt, s =>
    let q := s.ring r
    if q.accept ≥ q.lastTail then s
    else if failAt = some 0 then s.ringToError r 4
    else
      let d := s.entryAt r q.accept
      let auth := natBit (descNum d 1 1) 7
      if auth ∧ q.accept + 1 ≥ q.lastTail then s
      else if q.unconsumed.length + 1 > 2 ^ q.cqLog2 then s
      else if auth ∧ failAt = some 1 then s.ringToError r 4
      else
        let ext := if auth then some (s.entryAt r (q.accept + 1)) else none
        let n := if auth then 2 else 1
        let it : Item := { ring := r, wsn := q.accept, desc := d, ext := ext }
        let fl := s.flowAt it.flow
        let it := if it.hasFlow then { it with flowSeq := fl.next } else it
        let s := if it.hasFlow then s.setFlow it.flow { fl with next := (fl.next + 1) % 2 ^ 32 } else s
        let s := s.setRing r { q with accept := q.accept + n, order := q.order ++ [(q.accept, n)], unconsumed := q.unconsumed ++ [q.accept] }
        let s := s.wrapFld SCH_CNT_ACCEPT SCH_CNT_ACCEPT_ITEMS 1
        let s := s.wrapFld (QIF_RING_STATUS r) QIF_RING_STATUS_INFLIGHT 1
        State.acceptLoop r k (failAt.map (· - n)) (s.placeItem it)

/-- Acceptance on a ring up to the last tail acted on, and the write of ACCEPT where it moved (R399, R400). While the link is down the
reads that it needs are held (R410). -/
def State.acceptRing (s : State) (r : Nat) (failAt : Option Nat) : State :=
  if s.ringState r = ringRun ∧ s.qif = 2 ∧ s.workRuns ∧ s.host.linkUp ∧ s.host.present then
    let q := s.ring r
    let t := State.acceptLoop r (q.lastTail - q.accept) failAt s
    if (t.ring r).accept ≠ q.accept then (t.retainRing r).cbWrite r 64 (t.ring r).accept else t
  else s

/-- WSN of the oldest accepted item whose completion is not consumed, or ACCEPT (R398). -/
def RingSt.oldest (q : RingSt) : Nat := q.unconsumed.headD q.accept

/-- A tail acted on, or ignored (R398). -/
def State.actTail (s : State) (r tail : Nat) (failAt : Option Nat) : State :=
  let q := s.ring r
  if tail = q.lastTail then s
  else if q.lastTail < tail ∧ tail ≤ q.oldest + 2 ^ q.sqLog2 then
    ((s.setRing r { q with lastTail := tail }).retainRing r).acceptRing r failAt
  else s.doorbellIgnored r 2

/-- The work-sequence numbers of the completions from count `lo` up to `hi`, as the completion ring holds them (R405). -/
def State.unread (s : State) (r lo hi : Nat) : List Nat :=
  let q := s.ring r
  (List.range (hi - lo)).map (fun k => s.hostNum (q.cqBase + 32 * ((lo + k) % 2 ^ q.cqLog2)) 8)

/-- A head acted on, or ignored (R398). The first one after a ring was rebuilt may show completions that the host has not consumed: they
count as unconsumed again (R5; DEDUCED, log entry 145). -/
def State.actHead (s : State) (r head : Nat) : State :=
  let q := s.ring r
  if q.lastHead ≤ head ∧ head ≤ q.cqCount then
    let lo := max head (q.unBase - 2 ^ q.cqLog2)
    if lo < q.unBase then
      s.setRing r { q with lastHead := head, unconsumed := s.unread r lo q.unBase ++ q.unconsumed, unBase := lo }
    else s.setRing r { q with lastHead := head, unconsumed := q.unconsumed.drop (head - q.unBase), unBase := max q.unBase head }
  else s.doorbellIgnored r 2

/-- The doorbells recorded while the ring could not act are acted on (R410). -/
def State.actRecorded (s : State) (r : Nat) : State :=
  let q := s.ring r
  let s := s.setRing r { q with recTail := none, recHead := none }
  let s := match q.recHead with | some h => s.actHead r h | none => s
  match q.recTail with | some t => s.actTail r t none | none => s

/-- A ring whose accepted items are all completed leaves STOPPING for OFF (R395). What its last completions still owe goes on: their
confirmation (R426) and a message at the end of the interval (R408). -/
def State.stopIfDone (s : State) (r : Nat) : State :=
  if s.ringState r = ringStopping ∧ (s.ring r).order.isEmpty then
    let s := s.setRingState r ringOff
    let q := s.ring r
    (s.setRing r { confirming := q.confirming, vector := q.vector, modRun := q.modRun, modPend := q.modPend }).retainRing r
  else s

/-! ### Completions -/

/-- The 32 bytes of a completion entry (R405). -/
def completionBytes (f : Finished) (phase : Nat) : List Byte :=
  let it := f.item
  toBytes 8 it.wsn ++ toBytes 2 f.res.status ++ toBytes 1 it.opc
    ++ toBytes 1 (phase + 2 * bit01 it.late + 4 * bit01 it.resumed + 8 * bit01 it.handed)
    ++ toBytes 4 f.res.detail ++ toBytes 8 f.res.count ++ toBytes 8 it.user

/-- The message of a completion under the ring's moderation (R408). -/
def State.completionMessage (s : State) (r : Nat) (noIrq : Bool) : State :=
  let q := s.ring r
  if noIrq then s
  else if q.modUs = 0 then s.signal q.vector
  else if q.modRun then s.setRing r { q with modPend := true }
  else (s.setRing r { q with modRun := true }).signal q.vector

/-- A player in FAULT goes to IDLE when its item's completion is written (R188). -/
def State.faultSettled (s : State) (it : Item) : State :=
  let r := SCH_PLY_STATUS it.unit
  if it.opc = opPlay ∧ it.unit < 48 ∧ s.fld r SCH_PLY_STATUS_STATE = 6 ∧ s.fld r SCH_PLY_STATUS_TAG = it.tag then
    s.setFld r SCH_PLY_STATUS_STATE 1
  else s

/-- A completion entry written with CQ_COUNT and DONE, its journal entry freed, and the read of the control block issued
(R405, R408, R426, R433). -/
def State.writeCompletion (s : State) (r n : Nat) (f : Finished) : State :=
  let q := s.ring r
  let size := 2 ^ q.cqLog2
  let s := s.hostWrite (q.cqBase + 32 * (q.cqCount % size)) (completionBytes f (phaseBit q.cqCount size))
  let q := { q with cqCount := q.cqCount + 1, done := f.item.wsn + n, order := q.order.drop 1, confirming := q.confirming ++ [f.item.tag] }
  let s := s.setRing r q
  let s := (s.cbWrite r 80 q.cqCount).cbWrite r 72 q.done
  let s := s.retainRing r
  let s := (s.journalFree f.item).faultSettled f.item
  let s := s.setReorder f.item.tag (some { f with released := true })
  let s := if f.item.hasFlow then s.setFlow f.item.flow { s.flowAt f.item.flow with release := (f.item.flowSeq + 1) % 2 ^ 32 } else s
  let s := s.setFld (QIF_RING_STATUS r) QIF_RING_STATUS_INFLIGHT (s.fld (QIF_RING_STATUS r) QIF_RING_STATUS_INFLIGHT - 1)
  (s.completionMessage r f.item.noIrq).stopIfDone r

/-- Whether a finished item may be released: it stands first in its ring and in its flow, and the completion ring has room
(R426, R427). -/
def State.releasable (s : State) (r : Nat) (f : Finished) : Bool :=
  let q := s.ring r
  (!f.item.hasFlow || (s.flowAt f.item.flow).release == f.item.flowSeq) && decide (q.cqCount - q.unBase < 2 ^ q.cqLog2)

/-! ### Dispatch -/

/-- The DMA engine the scheduler chooses: the fewest items in its ready queue, the lowest number among equals (R416). -/
def State.dmaChoice (s : State) : Nat :=
  (List.range 16).foldl (fun b e => if (s.exec? e).queue.length < (s.exec? b).queue.length then e else b) 0

/-- Whether a stretch of the shade planner has passed for an item of a task port: STRETCH × 64 ns, 64 ns being 61.44 cycles (R350). -/
def State.stretchPast (s : State) (k : Nat) (it : Item) : Bool :=
  if 90 ≤ k ∧ k < 218 then decide (it.readyAt + (s.fld (FAB_ERG_SHADE (k - 90)) FAB_ERG_SHADE_STRETCH * 1536 + 24) / 25 ≤ s.time.fck) else true

/-- Whether a ready item is for an executor instance. -/
def State.readyFor (s : State) (k : Nat) (it : Item) : Bool :=
  (match it.execOf with
  | some j => j == k
  | none => s.dmaChoice == k) && s.stretchPast k it

/-- The switch item of a move to erg j that has not been dispatched yet: the erg whose work moves (R425). -/
def State.moveDue (s : State) (k : Nat) : Option Nat :=
  if 90 ≤ k ∧ k < 218 then
    s.thm.ergs.keys.find? (fun i => let t := s.thm.ergs.get (fun _ => {}) i; t.moveTo == some (k - 90) && !t.moved)
  else none

/-- It: an ERG_SWITCH of erg j to the context of erg i. -/
def switchItem (j ctx : Nat) : Item := { ring := ownRing, wsn := 0, desc := BitVec.ofNat 512 (opErgSwitch + 2 ^ 48 * j + 2 ^ 128 * (ctx % 8)) }

/-- Whether one ready item stands before another (R424). -/
def dispatchBefore (a b : Item) : Bool :=
  let ca := if a.cls = 0 then 0 else 1
  let cb := if b.cls = 0 then 0 else 1
  if ca ≠ cb then ca < cb
  else if a.prio ≠ b.prio then b.prio < a.prio
  else if a.readyNo ≠ b.readyNo then a.readyNo < b.readyNo
  else if a.ring ≠ b.ring then a.ring < b.ring
  else a.wsn < b.wsn

/-- The item that stands first. -/
def firstItem : List Item → Option Item
  | [] => none
  | a :: r => match firstItem r with
    | none => some a
    | some b => if dispatchBefore a b then some a else some b

/-- Whether an executor is enabled: a player and a measurement engine by their EN (R206, R247); the others always are. -/
def State.execEnabled (s : State) (k : Nat) : Bool :=
  if 16 ≤ k ∧ k < 64 then s.fldOn (SCH_PLY_CFG (k - 16)) SCH_PLY_CFG_EN
  else if 65 ≤ k ∧ k < 89 then s.fldOn (MEA_CTL (k - 65)) MEA_CTL_EN
  else true

end Sys2Proof.Machine
end

