-- ==== Sys2Proof/Machine/Sup.lean ====
section
/-!
DEFINITION. The recovery record and the queue of recoveries (R512 to R514), and the hold and release of the management domain (R488).
-/
namespace Sys2Proof.Machine

/-- FAULT# asserted. -/
def State.faultPin (s : State) : State := { s with pins := { s.pins with fault := true } }

/-- The registers of the recovery record (R512, R535). -/
def State.showRec (s : State) : State :=
  let r := s.sup
  (s.setFlds SUP_RECOVERY [(SUP_RECOVERY_GEN, r.gen), (SUP_RECOVERY_PENDING, r.queue.length), (SUP_RECOVERY_STEP, r.step),
    (SUP_RECOVERY_KIND, r.kind)]).setReg SUP_RECOVERY_TARGET r.target

/-- A recovery begun, with its event (R512, R521). -/
def State.recBegin (s : State) (kind : Nat) (target : BitVec 64) : State :=
  let s := { s with sup := { s.sup with gen := (s.sup.gen + 1) % 2 ^ 32, kind := kind, step := 1, target := target, stamp := s.time.stamp } }
  s.showRec.raiseReg 0x0004 kind 0 SUP_RECOVERY

/-- A step of the recovery in progress recorded before it begins (R512). -/
def State.recStep (s : State) (step : Nat) : State := { s with sup := { s.sup with step := step } }.showRec

/-- A need put into the queue: a reconciliation before every queued need of another kind (R514). -/
def queueNeed (q : List (Nat × BitVec 64)) (n : Nat × BitVec 64) : List (Nat × BitVec 64) :=
  if n.1 = 1 then q.filter (·.1 == 1) ++ n :: q.filter (·.1 != 1) else q ++ [n]

/-- A recovery need: it begins, or joins the queue; a full queue asserts FAULT# (R514). -/
def State.needRecovery (s : State) (kind : Nat) (target : BitVec 64) : State :=
  if s.sup.kind = 0 then s.recBegin kind target
  else if s.sup.queue.length < 14 then { s with sup := { s.sup with queue := queueNeed s.sup.queue (kind, target) } }.showRec
  else s.faultPin.raiseReg 0x0006 0 0 SUP_STATUS

/-- The recovery in progress ended with its event; the first queued need begins (R512, R514). -/
def State.recEnd (s : State) : State :=
  let kind := s.sup.kind
  if kind = 0 then s
  else
    let s := { s with sup := { s.sup with kind := 0, step := 0, target := 0 } }.showRec.raiseReg 0x0005 kind 0 SUP_RECOVERY
    match s.sup.queue with
    | [] => s
    | n :: rest => { s with sup := { s.sup with queue := rest } }.recBegin n.1 n.2

/-- The TARGET of a reconciliation: a bit for each of rings 0 to 63 that is running, stopping or HELD, since step 1 holds all of them (R434,
R513). -/
def State.reconTarget (s : State) : BitVec 64 :=
  BitVec.ofNat 64 (ofBits ((List.range 64).map (fun r => let st := s.ringState r; st == ringRun || st == ringStopping || st == ringHeld)))

/-- A reconciliation needed (R434). One that has begun or is queued covers it, with the rings that it is for now too: it settles every ring HELD
when it runs. -/
def State.needRecon (s : State) : State :=
  let t := s.reconTarget
  if s.sup.kind = 1 then { s with sup := { s.sup with target := s.sup.target ||| t } }.showRec
  else if s.sup.queue.any (fun n => n.1 == 1) then
    { s with sup := { s.sup with queue := s.sup.queue.map (fun n => if n.1 = 1 then (1, n.2 ||| t) else n) } }
  else s.needRecovery 1 t

/-- Whether a supervisor leads and runs, so that recoveries proceed (R513, R517). -/
def State.leads (s : State) : Bool := s.leaderState == svLeading

/-- What an executor performs is lost to its reset (R429): the item waits for reconciliation. -/
def State.execLost (s : State) (k : Nat) : State :=
  match s.cur k with
  | some c =>
    let s := s.setCur k none
    if c.item.isOwn then s else { s with sched := { s.sched with lost := s.sched.lost ++ [(k, c)] } }
  | none => s

/-- A core reset: its halt ends with the event of resumption, its watchdog is reset (R534, R542). -/
def State.coreReset (s : State) (c : Nat) : State :=
  let s := if s.coreHalted c then s.raiseReg 0x0008 c 0 (DBG_CORE_STATUS c) else s
  let s := { s with cores := s.cores.set (fun _ => {}) c {} }
  let s := s.setReg (SUP_WDOG c) ((s.reg (SUP_WDOG c)) &&& 0xFFFF000000000000)
  ((s.resetReg (DBG_CORE_CTL c)).resetReg (DBG_CORE_STATUS c)).resetReg (DBG_CORE_DDATA c)

/-! ### The drift over a reset (R321, R322) -/

def driftState (s : State) : Nat := s.fld CRY_DRIFT_STATUS CRY_DRIFT_STATUS_STATE
def State.driftDom (s : State) : Nat := s.fld CRY_DRIFT_CTL CRY_DRIFT_CTL_DOMAIN

/-- What STATUS.STATE shows while a drift is under way and not stopped for Rest: PAUSED, a zone, or RUNNING (R317, R320, R326). -/
def State.driftShow (s : State) : State :=
  if driftState s = 0 ∨ driftState s = 4 then s
  else
    let st := if s.fldOn CRY_DRIFT_CTL CRY_DRIFT_CTL_PAUSE ∨ s.mem.ckpt = some true then 2 else if s.mem.zone then 3 else 1
    s.setFld CRY_DRIFT_STATUS CRY_DRIFT_STATUS_STATE st

def State.setMem (s : State) (m : MemSt) : State := { s with mem := m }

/-- The drift resumed at its last checkpoint with the uncertain zone, after a reset, a takeover or a wake (R321, R322). -/
def State.driftResume (s : State) : State :=
  if driftState s = 0 then s
  else
    let line := s.fld CRY_DRIFT_CHECKPOINT CRY_DRIFT_CHECKPOINT_LINE
    let s := s.setFld CRY_DRIFT_BOUNDARY CRY_DRIFT_BOUNDARY_LINE line
    let s := (s.setMem { s.mem with zone := true, ckpt := none }).setFld CRY_DRIFT_STATUS CRY_DRIFT_STATUS_STATE 3
    s.driftShow.raiseReg 0x080C s.driftDom 2 CRY_DRIFT_BOUNDARY

/-- The management domain put into reset (R488): both supervisors and the security controller. -/
def State.mgmtHold (s : State) : State :=
  let s := ((s.coreReset 0).coreReset 1).coreReset 2
  let s := (s.execLost keySecurity).execLost keySupervisor
  { s with clk := { s.clk with mgmtReset := true } }.setFlds SUP_STATUS [(SUP_STATUS_SVA, svResetting), (SUP_STATUS_SVB, svResetting)]

/-- It released, as a reset short of power loss: the drift resumes at its checkpoint and reconciliation follows (R321, R434, R488). -/
def State.mgmtRelease (s : State) : State :=
  ({ s with clk := { s.clk with mgmtReset := false, ioscWait := false } }.setFld RST_CAUSE RST_CAUSE_CLOCK 1).driftResume.needRecon

end Sys2Proof.Machine
end

