-- ==== Sys2Proof/Machine/Clocks.lean ====
section
/-!
DEFINITION. Clocks (chapter 19): the root, the crystal and the internal oscillator with their monitors, the gate tree, the frequency
meter (R482 to R491).
-/
namespace Sys2Proof.Machine

def State.setClk (s : State) (c : ClkSt) : State := { s with clk := c }

/-! ### The frequency meter (R491) -/

def State.meterBusy (s : State) : Bool := s.fldOn CLK_FMETER_RES CLK_FMETER_RES_BUSY

/-- Whether a clock source of the meter is declared lost, or its lane direction is disabled. -/
def State.sourceLost (s : State) (src : Nat) : Bool :=
  let n := s.fld CLK_FMETER_CTL CLK_FMETER_CTL_LANE
  match src with
  | 0 => !s.clk.refin
  | 1 => !s.clk.xtal
  | 2 => s.clk.iosc != .ready
  | 3 => s.clk.mgmtReset
  | 8 => s.fld (LANE_STATUS n) LANE_STATUS_RX_STATE == 0
  | 9 => s.fld (LANE_STATUS n) LANE_STATUS_TX_STATE == 0
  | _ => !s.clk.rootRun

def State.meterEnd (s : State) (aborted : Bool) (count : Nat) : State :=
  s.setFlds CLK_FMETER_RES [(CLK_FMETER_RES_VALID, bit01 (!aborted)), (CLK_FMETER_RES_ABORTED, bit01 aborted), (CLK_FMETER_RES_BUSY, 0),
    (CLK_FMETER_RES_COUNT, count)]

/-- A measurement in progress whose source is lost ends aborted. -/
def State.meterCheck (s : State) : State :=
  if s.meterBusy ∧ (s.sourceLost (s.fld CLK_FMETER_CTL CLK_FMETER_CTL_REF) ∨ s.sourceLost (s.fld CLK_FMETER_CTL CLK_FMETER_CTL_MEAS)) then s.meterEnd true 0
  else s

/-- A write of FMETER_CTL: fields beside GO hold while a measurement runs, which uses them (DESIGN CHOICE, log entry 47). -/
def State.fmeterWrite (s : State) (data : Data) : State :=
  if s.meterBusy then s
  else
    let s := s.writeReg CLK_FMETER_CTL data
    if CLK_FMETER_CTL_GO.on data ∧ s.fld CLK_FMETER_CTL CLK_FMETER_CTL_REF < 10 ∧ s.fld CLK_FMETER_CTL CLK_FMETER_CTL_MEAS < 10 then
      (s.setReg CLK_FMETER_RES 0).setFld CLK_FMETER_RES CLK_FMETER_RES_BUSY 1 |>.meterCheck
    else s

/-- FMETER_GO (R491). -/
def execFmeterGo (data : Data) (s : State) : Host.Outcome State Fault Refusal :=
  done (s.regWrite CLK_FMETER_CTL data (fun s => s.fmeterWrite data))

/-- FMETER_DONE (R491, R223): the gate has ended with so many cycles counted, or a source is lost. -/
def execFmeterDone (count : BitVec 48) (s : State) : Host.Outcome State Fault Refusal :=
  if !s.meterBusy then done s
  else
    let t := s.meterCheck
    if !t.meterBusy then done t
    else
      let log2 := min (max (s.fld CLK_FMETER_CTL CLK_FMETER_CTL_LOG2) 10) 30
      let s := s.meterEnd false count.toNat
      if s.fld CLK_FMETER_CTL CLK_FMETER_CTL_REF = 1 ∧ s.fld CLK_FMETER_CTL CLK_FMETER_CTL_MEAS = 0 then
        done (s.ratioMeasured count.toNat log2)
      else done s

/-! ### The root (R483, R484, R488) -/

/-- Whether the device is awake: neither unpowered nor in Rest or Dormant. -/
def State.awake (s : State) : Bool := s.pwr.powered && s.pwr.st != .rest && s.pwr.st != .dormant

/-- The root running again after a stop: it relocks, or runs in holdover, without REFIN or because it was in holdover as it stopped and has
yet to relock (R226). -/
def State.rootAgain (s : State) : State :=
  let s := s.setClk { s.clk with rootRun := true, rootEver := true, xtalGap := false }
  if s.clk.refin ∧ s.time.hold.isNone then (s.setFld CLK_STATUS CLK_STATUS_ROOT 1).setFld TSU_STATUS TSU_STATUS_LOCKED 1
  else (s.setFld CLK_STATUS CLK_STATUS_ROOT 2).holdBegin

/-- Both counts bridged at the always-on count at which the dividers restart, and the root running (R222, R226). -/
def State.rootBridged (s : State) (aon : Data) : State :=
  let s := (s.bridgeApply aon s.clk.xtalGap).rootAgain
  let s := { s with time := { s.time with run := true, bridgeDue := false }, pwr := { s.pwr with aonCount := aon } }
  s.setReg PWR_AON_COUNT aon

/-- The root relocked in phase: holdover ends (R221). -/
def State.relocked (s : State) : State := (((s.setFld CLK_STATUS CLK_STATUS_ROOT 1).holdEnd).raiseReg 0x0102 0 0 CLK_STATUS)

/-- ROOT_WAIT_EVENT (R484). -/
def execRootWaitEvent (s : State) : Host.Outcome State Fault Refusal :=
  if s.awake ∧ !s.clk.rootEver then done (s.raiseReg 0x0106 0 0 CLK_STATUS) else done s

/-- REFIN_LOST (R221, R488). -/
def execRefinLost (s : State) : Host.Outcome State Fault Refusal :=
  if s.clk.refin then
    let s := (s.setClk { s.clk with refin := false }).ratioTripped
    let s := s.setFld CLK_STATUS CLK_STATUS_REFIN_LOST 1
    let s := if s.clk.rootRun then (s.setFld CLK_STATUS CLK_STATUS_ROOT 2).holdBegin else s
    done (s.meterCheck.raiseReg 0x0101 0 0 CLK_STATUS)
  else done s

/-- REFIN_PRESENT (R221, R488). -/
def execRefinPresent (s : State) : Host.Outcome State Fault Refusal :=
  if s.clk.refin then done s
  else
    let s := s.setClk { s.clk with refin := true }
    if s.clk.rootRun ∧ s.time.hold.isSome then done s.relocked else done s

/-! ### The management class (R485, R486, R488) -/

/-- Both sources lost: FAULT#, and the management domain in reset until either is present again. -/
def State.mgmtDead (s : State) : State := s.faultPin.mgmtHold

/-- CRYSTAL_LOST (R488). -/
def execCrystalLost (s : State) : Host.Outcome State Fault Refusal :=
  if s.clk.xtal then
    let s := (s.setClk { s.clk with xtal := false, xtalGap := !s.clk.rootRun }).ratioTripped.setFlds CLK_STATUS [(CLK_STATUS_XTAL_OK, 0)]
    match s.clk.iosc with
    | .ready => done (((s.setFlds CLK_STATUS [(CLK_STATUS_MGMT_SRC, 0), (CLK_STATUS_XTAL_LOST, 1)]).meterCheck).raiseReg 0x0103 0 0 CLK_STATUS)
    | .starting => done ((s.mgmtHold).setClk { s.mgmtHold.clk with ioscWait := true }).meterCheck
    | .lost => done ((s.setFlds CLK_STATUS [(CLK_STATUS_XTAL_LOST, 1)]).mgmtDead).meterCheck
  else done s

/-- CRYSTAL_QUALIFIED (R486, R488). -/
def execCrystalQualified (s : State) : Host.Outcome State Fault Refusal :=
  if s.clk.xtal ∨ !s.pwr.powered then done s
  else
    let again := s.clk.xtalWas
    let s := (s.setClk { s.clk with xtal := true, xtalWas := true }).setFlds CLK_STATUS [(CLK_STATUS_XTAL_OK, 1), (CLK_STATUS_MGMT_SRC, 1)]
    let s := if s.clk.mgmtReset ∧ again then s.mgmtRelease else s
    done (if again then s.raiseReg 0x0104 0 0 CLK_STATUS else s)

/-- IOSC_READY (R486, R488): the management domain is released; one that waited since a crystal trip runs from the oscillator. -/
def execIoscReady (s : State) : Host.Outcome State Fault Refusal :=
  if s.clk.iosc = .ready ∨ !s.awake then done s
  else
    let lost := s.clk.iosc = .lost
    let s := (s.setClk { s.clk with iosc := .ready }).setFld CLK_STATUS CLK_STATUS_IOSC_READY 1
    if !s.clk.mgmtReset then done s
    else if s.clk.ioscWait then
      done (((s.setFlds CLK_STATUS [(CLK_STATUS_XTAL_LOST, 1), (CLK_STATUS_MGMT_SRC, 0)]).mgmtRelease).raiseReg 0x0103 0 0 CLK_STATUS)
    else if lost then done (((s.setFld CLK_STATUS CLK_STATUS_MGMT_SRC 0).mgmtRelease).raiseReg 0x0105 0 0 CLK_STATUS)
    else done (s.setClk { s.clk with mgmtReset := false })

/-- IOSC_LOST (R488). -/
def execIoscLost (s : State) : Host.Outcome State Fault Refusal :=
  if s.clk.iosc = .ready then
    let s := (s.setClk { s.clk with iosc := .lost }).setFlds CLK_STATUS [(CLK_STATUS_IOSC_READY, 0), (CLK_STATUS_IOSC_FAIL, 1)]
    if s.fldOn CLK_STATUS CLK_STATUS_MGMT_SRC then done (s.meterCheck.raiseReg 0x0105 0 0 CLK_STATUS) else done s.mgmtDead.meterCheck
  else done s

/-- IOSC_READY_TIMEOUT (R488). -/
def execIoscReadyTimeout (s : State) : Host.Outcome State Fault Refusal :=
  if s.clk.ioscWait ∧ s.clk.iosc = .starting then done s.faultPin else done s

/-! ### The gate tree (R489, R490) -/

/-- The parent of a node of R489, none at the top; none of both for a number absent from it. -/
def gateParent (n : Nat) : Option (Option Nat) :=
  if n < 6 then some none
  else if 0x100 ≤ n ∧ n < 0x180 then some (some (if n < 0x140 then 0 else 1))
  else if 0x200 ≤ n ∧ n < 0x20C then some (some 2)
  else if 0x220 ≤ n ∧ n < 0x238 then some (some 3)
  else if 0x240 ≤ n ∧ n < 0x270 then some (some 4)
  else none

def gateChildren (n : Nat) : List Nat :=
  match n with
  | 0 => (List.range 64).map (· + 0x100)
  | 1 => (List.range 64).map (· + 0x140)
  | 2 => (List.range 12).map (· + 0x200)
  | 3 => (List.range 24).map (· + 0x220)
  | 4 => (List.range 48).map (· + 0x240)
  | _ => []

/-- Whether the block of a node is busy (R490 REASON 2). -/
def State.gateBusy (s : State) (n : Nat) : Bool :=
  if 0x200 ≤ n ∧ n < 0x20C then
    (List.range 4).any (fun k => let l := LANE_STATUS (4 * (n - 0x200) + k); s.fld l LANE_STATUS_RX_STATE != 0 || s.fld l LANE_STATUS_TX_STATE != 0)
  else if 0x220 ≤ n ∧ n < 0x238 then decide (2 ≤ s.fld (MEA_STATUS (n - 0x220)) MEA_STATUS_STATE)
  else if 0x240 ≤ n ∧ n < 0x270 then decide (2 ≤ s.fld (SCH_PLY_STATUS (n - 0x240)) SCH_PLY_STATUS_STATE)
  else if n = 5 then !s.queuesOff
  else false

/-- The REASON that refuses a gate write, if one does (R490). -/
def State.gateRefusal (s : State) (n : Nat) (en : Bool) : Option Nat :=
  match gateParent n with
  | none => some 4
  | some p =>
    if !en ∧ (gateChildren n).any (fun c => !s.clk.gatedNodes.contains c) then some 1
    else if !en ∧ s.gateBusy n then some 2
    else if en ∧ p.any (fun q => s.clk.gatedNodes.contains q) then some 3
    else none

/-- A write of CLK.GATE (R490). -/
def State.gateWrite (s : State) (data : Data) : State :=
  let n := s.fld CLK_GATE_SEL CLK_GATE_SEL_NODE
  let s := if CLK_GATE_REFUSED.on data then s.setFld CLK_GATE CLK_GATE_REFUSED 0 else s
  let en := CLK_GATE_EN.on data
  match s.gateRefusal n en with
  | some r => (s.setFlds CLK_GATE [(CLK_GATE_REFUSED, 1), (CLK_GATE_REASON, r)]).raiseReg 0x0107 n 0 CLK_GATE
  | none =>
    let g := s.clk.gatedNodes.filter (· != n)
    (s.setClk { s.clk with gatedNodes := if en then g else sortOn id (n :: g) }).setFld CLK_GATE CLK_GATE_EN (bit01 en)

/-- GATE_WRITE (R490). -/
def execGateWrite (data : Data) (s : State) : Host.Outcome State Fault Refusal :=
  done (s.regWrite CLK_GATE data (fun s => s.gateWrite data))

end Sys2Proof.Machine
end

