-- ==== Sys2Proof/Machine/Cell.lean ====
section
/-!
DEFINITION. The cell: its instruction word, its operands and its opcodes, bit by bit (R30 to R40), and the cell's step over one
fabric cycle.
-/
namespace Sys2Proof.Machine

/-! ### The instruction word (R33) -/

def insOpc (i : BitVec 48) : Nat := natBits i.toNat 42 6
def insAsel (i : BitVec 48) : Nat := natBits i.toNat 39 3
def insBsel (i : BitVec 48) : Nat := natBits i.toNat 36 3
def insCsel (i : BitVec 48) : Nat := natBits i.toNat 34 2
def insDst (i : BitVec 48) : Nat := natBits i.toNat 31 3
def insCy (i : BitVec 48) : Nat := natBits i.toNat 29 2
def insPred (i : BitVec 48) : Nat := natBits i.toNat 27 2
def insMod (i : BitVec 48) : Nat := natBits i.toNat 16 11
def insImm (i : BitVec 48) : Nat := natBits i.toNat 0 16

/-- A value on the crossbar: 32 bits and a flag (R34, R47). -/
structure Flagged where
  v : Nat := 0
  f : Bool := false
deriving DecidableEq, Repr

/-! ### Operands (R33, R34) -/

def operandA (i : BitVec 48) (c : CellSt) (x : Flagged) : Flagged :=
  match insAsel i with
  | 0 => x
  | 1 => { v := c.l0.toNat }
  | 2 => { v := c.l1.toNat }
  | 3 => { v := c.l2.toNat }
  | 4 => { v := c.l3.toNat }
  | 5 => { v := c.q.toNat, f := c.f }
  | 6 => { v := natBits c.acc.toNat 0 32 }
  | _ => {}

def operandB (i : BitVec 48) (c : CellSt) (x : Flagged) : Flagged :=
  match insBsel i with
  | 0 => x
  | 1 => { v := c.l0.toNat }
  | 2 => { v := c.l1.toNat }
  | 3 => { v := c.l2.toNat }
  | 4 => { v := c.l3.toNat }
  | 5 => { v := c.q.toNat, f := c.f }
  | 6 => { v := wrapInt 32 (signed 16 (insImm i)) }
  | _ => {}

def operandC (i : BitVec 48) (c : CellSt) (x : Flagged) : Flagged :=
  match insCsel i with
  | 0 => x
  | 1 => { v := c.l3.toNat }
  | 2 => { v := c.q.toNat, f := c.f }
  | _ => {}

/-! ### Opcodes of latency 1 (R37, R39) -/

def allOnes32 : Nat := 0xFFFFFFFF
def not32 (x : Nat) : Nat := allOnes32 - x % 2 ^ 32

/-- CMP's condition. -/
def cmpCond (m a b : Nat) : Bool :=
  match m % 8 with
  | 0 => a == b
  | 1 => a != b
  | 2 => a < b
  | 3 => b ≤ a
  | 4 => signed 32 a < signed 32 b
  | _ => signed 32 b ≤ signed 32 a

/-- Whether x lies strictly below y in the sense of MIN and MAX. -/
def lessBy (m a b : Nat) : Bool := if natBit m 0 then signed 32 a < signed 32 b else a < b

def logic3 (imm a b c : Nat) : Nat :=
  ofBits ((List.range 32).map (fun i => natBit imm (4 * bit01 (natBit a i) + 2 * bit01 (natBit b i) + bit01 (natBit c i))))

/-- SHIFT: kind 0 left, 1 logical right, 2 arithmetic right, 3 rotate left; the result and the last bit out. -/
def shiftOp (kind a k : Nat) : Nat × Bool :=
  if k = 0 then (a, false)
  else match kind % 4 with
    | 0 => (a * 2 ^ k % 2 ^ 32, natBit a (32 - k))
    | 1 => (a / 2 ^ k, natBit a (k - 1))
    | 2 => (wrapInt 32 (signed 32 a / (2 ^ k : Nat)), natBit a (k - 1))
    | _ => (a * 2 ^ k % 2 ^ 32 + a / 2 ^ (32 - k), false)

def funnelOp (a b k : Nat) : Nat := natBits ((a * 2 ^ 32 + b) * 2 ^ k) 32 32

def shufOp (m imm a b : Nat) : Nat :=
  let s := a + 2 ^ 32 * b
  ofBytes ((List.range 4).map (fun i => if natBit m i then 0 else BitVec.ofNat 8 (natBits s (8 * natBits imm (3 * i) 3) 8)))

/-- The number of leading zeros of a 32-bit word. -/
def clz32 (a : Nat) : Nat := (((List.range 32).map (fun i => natBit a (31 - i))).takeWhile (fun b => !b)).length

/-- One bit of the CRC step (R39). -/
def crcBit (reflected : Bool) (poly s : Nat) (d : Bool) : Nat :=
  if reflected then
    let fb := natBit s 0 != d
    let s := s / 2
    if fb then s ^^^ poly else s
  else
    let fb := natBit s 31 != d
    let s := s * 2 % 2 ^ 32
    if fb then s ^^^ poly else s

def crc8Op (m a b c : Nat) : Nat :=
  let d := natBits c (8 * natBits m 1 2) 8
  let bits := if natBit m 0 then toBits 8 d else (toBits 8 d).reverse
  bits.foldl (crcBit (natBit m 0) b) a

/-- A product in GF(2^8) modulo x^8 + g(x) (R39). -/
def gfmul8 (x y g : Nat) : Nat :=
  (List.range 8).reverse.foldl (fun p j =>
    let q := p * 2 % 256
    let q := if natBit p 7 then q ^^^ g else q
    if natBit y j then q ^^^ x else q) 0

def gfmulOp (imm a b : Nat) : Nat :=
  ofBytes ((List.range 4).map (fun i => BitVec.ofNat 8 (gfmul8 (natBits a (8 * i) 8) (natBits b (8 * i) 8) (imm % 256))))

/-- The result, the flag and the carry-out of an opcode of latency 1 (R32, R37, R39); `q` is the cell's old Q. -/
def aluOp (i : BitVec 48) (a b c : Flagged) (cin : Bool) (q : Nat) : Nat × Bool × Bool :=
  let m := insMod i
  let imm := insImm i
  match insOpc i with
  | 0x01 | 0x02 =>
    let b' := if insOpc i = 0x02 then not32 b.v else b.v
    let s := a.v + b' + bit01 cin
    let r := s % 2 ^ 32
    let ov := natBit a.v 31 == natBit b' 31 && natBit r 31 != natBit a.v 31
    (r, if natBit m 0 then ov else 2 ^ 32 ≤ s, 2 ^ 32 ≤ s)
  | 0x03 => let t := cmpCond m a.v b.v; (if t then allOnes32 else 0, t, false)
  | 0x04 => let t := lessBy m b.v a.v; (if t then b.v else a.v, t, false)
  | 0x05 => let t := lessBy m a.v b.v; (if t then b.v else a.v, t, false)
  | 0x06 => let r := logic3 imm a.v b.v c.v; (r, r != 0, false)
  | 0x07 => let r := shiftOp m a.v (if natBit m 2 then imm % 32 else b.v % 32); (r.1, r.2, false)
  | 0x08 => (funnelOp a.v b.v (if natBit m 2 then imm % 32 else c.v % 32), false, false)
  | 0x09 => (shufOp m imm a.v b.v, false, false)
  | 0x0A => let r := popCount 32 (if natBit m 0 then a.v &&& b.v else a.v); (r, natBit r 0, false)
  | 0x0B => (clz32 a.v, a.v == 0, false)
  | 0x0C => let r := crc8Op m a.v b.v c.v; (r, r == 0, false)
  | 0x0D => (gfmulOp imm a.v b.v, false, false)
  | 0x0E => let t := ((a.v ^^^ b.v) &&& c.v == 0) != natBit m 0; (if t then allOnes32 else 0, t, false)
  | 0x10 => let t := if natBit m 0 then c.v != 0 else c.f; (if t then a.v else b.v, t, false)
  | 0x11 => let r := if c.f then a.v else (q + b.v) % 2 ^ 32; (r, r == 0, false)
  | _ => (a.v, a.f, false)

/-! ### MAC16 (R40) -/

/-- The operand kind: 0 both unsigned, 1 both signed, 2 a signed and b unsigned; 3 is treated as 1. -/
def macKind (i : BitVec 48) : Nat := if insMod i % 4 = 3 then 1 else insMod i % 4

/-- The exact product, extended to 48 bits. -/
def macProduct (i : BitVec 48) (a b : Nat) : BitVec 48 :=
  let lo := if natBit (insMod i) 4 then 16 else 0
  let x := natBits a lo 16
  let y := natBits b lo 16
  let k := macKind i
  let xi : Int := if k = 0 then x else signed 16 x
  let yi : Int := if k = 1 then signed 16 y else y
  BitVec.ofNat 48 (wrapInt 48 (xi * yi))

/-- The new accumulator. -/
def macAcc (i : BitVec 48) (p acc : BitVec 48) : BitVec 48 :=
  if natBit (insMod i) 2 then p else if natBit (insMod i) 3 then acc - p else acc + p

/-- The narrowed output and its flag. -/
def macOut (i : BitVec 48) (acc : BitVec 48) : Nat × Bool :=
  let kind := macKind i
  let x : Int := if kind = 0 then acc.toNat else signed 48 acc.toNat
  let k := insImm i % 64
  let t : Int := if k = 0 then x else (x + (2 ^ (k - 1) : Nat)) / (2 ^ k : Nat)
  let lo : Int := if kind = 0 then 0 else -(2 ^ 31 : Nat)
  let hi : Int := if kind = 0 then (2 ^ 32 - 1 : Nat) else (2 ^ 31 - 1 : Nat)
  let out := t < lo || hi < t
  let r := if natBit (insMod i) 5 then (if t < lo then lo else if hi < t then hi else t) else t
  (wrapInt 32 r, out)

/-! ### The cell's step -/

/-- Whether a slot is treated as NOP (R38): a reserved opcode, a reserved condition, or a memory whose port 1 the cell does not own. -/
def slotIllegal (i : BitVec 48) (owns : Nat → Bool) : Bool :=
  let o := insOpc i
  0x15 ≤ o || (o == 0x03 && 6 ≤ insMod i % 8) || ((o == 0x12 || o == 0x13) && !owns (insMod i % 4))

/-- Whether the predicate lets the slot execute (R33, R35). -/
def predOk (i : BitVec 48) (c : Flagged) : Bool :=
  match insPred i with
  | 1 => c.f
  | 2 => !c.f
  | _ => true

/-- A result written to Q, F and the local register DST names (R36). -/
def writeResult (i : BitVec 48) (r : Nat) (f : Bool) (c : CellSt) : CellSt :=
  let v := BitVec.ofNat 32 r
  let c := { c with q := v, f := f }
  match insDst i with
  | 1 => { c with l0 := v }
  | 2 => { c with l1 := v }
  | 3 => { c with l2 := v }
  | 4 => { c with l3 := v }
  | _ => c

/-- An access of a cell to block memory through port 1: the memory, the address and the word written, if any. -/
structure BmReq where
  mem : Nat
  addr : Nat
  data : Option Nat
deriving DecidableEq, Repr

/-- What a cell does in one cycle. `fOne` is whether F was written with 1 (R65), `bmDone` the memory and word that completed. -/
structure CellOut where
  st : CellSt
  carry : Bool := false
  ran : Bool := false
  illegal : Bool := false
  fOne : Bool := false
  req : Option BmReq := none
  bmDone : Option (Nat × BmOut) := none
deriving DecidableEq, Repr

/-- The completion of a latency-2 operation from its pipeline register (R40, R42, R63). -/
def cellComplete (c : CellSt) : CellSt × Bool × Option (Nat × BmOut) :=
  match c.pipe with
  | none => (c, false, none)
  | some (.mac p i) =>
    let acc := macAcc i p c.acc
    let r := macOut i acc
    ({ writeResult i r.1 r.2 c with acc := acc, pipe := none }, r.2, none)
  | some (.bm w e i) =>
    ({ writeResult i w.toNat e c with pipe := none }, e, some (insMod i % 4, { word := w, perr := e }))

/-- A cell over one fabric cycle (R30 to R40). `x`, `y`, `z` are its crossbar operands, `west` the chained carry-in, `owns` the
memories whose port 1 it owns, `word` the word and parity flag a memory holds at an address. -/
def cellStep (i : BitVec 48) (c : CellSt) (x y z : Flagged) (west : Bool) (owns : Nat → Bool) (word : Nat → Nat → BmOut) : CellOut :=
  let fin := cellComplete c
  let a := operandA i c x
  let b := operandB i c y
  let k := operandC i c z
  let ill := slotIllegal i owns
  if ill || insOpc i == 0 || !predOk i k then
    { st := fin.1, carry := west, illegal := ill, fOne := fin.2.1, bmDone := fin.2.2 }
  else
    let o := insOpc i
    if o = 0x0F then
      { st := { fin.1 with pipe := some (.mac (macProduct i a.v b.v) i) }, ran := true, fOne := fin.2.1, bmDone := fin.2.2 }
    else if o = 0x12 ∨ o = 0x13 then
      let m := insMod i % 4
      let addr := a.v % 4096
      let w := word m addr
      { st := { fin.1 with pipe := some (.bm w.word w.perr i) }, ran := true, fOne := fin.2.1, bmDone := fin.2.2,
        req := some { mem := m, addr := addr, data := if o = 0x13 then some b.v else none } }
    else
      let cin := match insCy i with
        | 0 => false
        | 1 => true
        | 2 => west
        | _ => k.f
      let r := aluOp i a b k cin c.q.toNat
      { st := writeResult i r.1 r.2.1 fin.1, carry := r.2.2, ran := true, fOne := fin.2.1 || r.2.1, bmDone := fin.2.2 }

end Sys2Proof.Machine
end

