-- ==== Sys2Proof/Machine/Dune.lean ====
section
/-!
DEFINITION. A plane's payload (R447, R448), the dune's crossbar (R45 to R48), its block memories (R41 to R43) and the dune's step
over one fabric cycle.
-/
namespace Sys2Proof.Machine

/-! ### A frame's payload -/

def plByte (p : Payload) (k : Nat) : Nat := natBits p.toNat (8 * k) 8
def plSlot (p : Payload) (c : Nat) : BitVec 48 := BitVec.ofNat 48 (natBits p.toNat (48 * c) 48)
def plSel (p : Payload) (d : Nat) : Nat := plByte p (384 + d)
def plOwner (p : Payload) (m : Nat) : Option Nat := let b := plByte p (612 + m); if natBit b 7 then some (b % 64) else none

/-- A well binding: die code of the far end and channel (R447). -/
def plBinding (p : Payload) (k : Nat) : Option (Nat × Nat) :=
  let b := natBits p.toNat (8 * (616 + 2 * k)) 16
  if natBit b 15 then some (natBits b 12 3, natBits b 0 6) else none

def plBorderMode (p : Payload) (o : Nat) : Nat := natBits p.toNat (8 * 2352 + 2 * o) 2
def plBorderConst (p : Payload) (o : Nat) : BitVec 32 := BitVec.ofNat 32 (natBits p.toNat (8 * (2358 + 4 * o)) 32)

/-- The initial state of a cell (R55, R447). -/
def plCellInit (p : Payload) (c : Nat) : CellSt :=
  let n := natBits p.toNat (8 * 648 + 209 * c) 209
  { q := BitVec.ofNat 32 (natBits n 0 32), f := natBit n 32, l0 := BitVec.ofNat 32 (natBits n 33 32),
    l1 := BitVec.ofNat 32 (natBits n 65 32), l2 := BitVec.ofNat 32 (natBits n 97 32), l3 := BitVec.ofNat 32 (natBits n 129 32),
    acc := BitVec.ofNat 48 (natBits n 161 48) }

def plBmInit (p : Payload) (mp : Nat) : BmOut := { word := BitVec.ofNat 32 (natBits p.toNat (8 * (2320 + 4 * mp)) 32) }

/-- The erg-level settings, in the frame of the south-west dune (R448). -/
def plErg (p : Payload) (k : Nat) : Nat := plByte p (2454 + k)
def plSettleMode (p : Payload) : Nat := plErg p 0 % 4
def plSettleCount (p : Payload) : Nat := plErg p 1

/-- A named cell of the erg: its dune within the erg (4y + x) and its number (R448). -/
def plNamedCell (p : Payload) (k : Nat) : Option (Nat × Nat) :=
  let n := plErg p k + 256 * plErg p (k + 1)
  if natBit n 15 then some (4 * natBits n 12 2 + natBits n 10 2, natBits n 0 6) else none

def plReady (p : Payload) : Option (Nat × Nat) := plNamedCell p 2
def plTrigger (p : Payload) : Option (Nat × Nat) := plNamedCell p 4
def plFlagTarget (p : Payload) : Nat := plErg p 6 % 8
def plLinkValid (p : Payload) : Bool := natBit (plErg p 7) 7
def plLinkTarget (p : Payload) : Nat := natBits (plErg p 7) 4 3
def plLinkMode (p : Payload) : Bool := natBit (plErg p 7) 3
def plLinkSource (p : Payload) : Nat := plErg p 7 % 8
def plShadePrio (p : Payload) : Nat := plErg p 8 % 8
def plMovable (p : Payload) : Bool := natBit (plErg p 8) 3
def plLockstep (p : Payload) : Bool := natBit (plErg p 8) 4
def plGioOe (p : Payload) : Bool := natBit (plErg p 8) 5

/-! ### Block memory -/

/-- The even parity of the four bytes of a word (R41). -/
def parity4 (w : Nat) : Nat := ofBits ((List.range 4).map (fun j => popCount 8 (natBits w (8 * j) 8) % 2 == 1))

def bmKey (dune m addr : Nat) : Nat := dune * 16384 + m * 4096 + addr

/-- A word as stored, with its parity bits above it. -/
def bmStore (w : Nat) : BitVec 36 := BitVec.ofNat 36 (w % 2 ^ 32 + 2 ^ 32 * parity4 w)

/-- A word read: the data as stored, with the parity flag (R42). -/
def bmRead (bm : SMap (BitVec 36)) (dune m addr : Nat) : BmOut :=
  let n := (bm.get (fun _ => 0) (bmKey dune m addr)).toNat
  { word := BitVec.ofNat 32 n, perr := parity4 (natBits n 0 32) != natBits n 32 4 }

/-! ### The crossbar -/

/-- The value of a crossbar source (R47). -/
def xbarSource (st : DuneSt) (trk : Nat → BitVec 32) (well : Nat → BitVec 32) (n : Nat) : Flagged :=
  if n < 64 then
    let c := st.cells.get (fun _ => {}) n
    { v := c.q.toNat, f := c.f }
  else if n < 72 then
    let b := st.bmOut.get (fun _ => {}) (n - 64)
    { v := b.word.toNat, f := b.perr }
  else if n < 88 then { v := (trk (n - 72)).toNat }
  else if n < 96 then { v := (well (n - 88)).toNat }
  else {}

/-- The value a destination takes (R45). -/
def xbarDest (p : Payload) (src : Nat → Flagged) (d : Nat) : Flagged :=
  let b := plSel p d
  if natBit b 7 then src (b % 128) else {}

/-! ### The dune's step -/

/-- A parity error: memory, port, address (R57). -/
structure BmErr where
  mem : Nat
  port : Nat
  addr : Nat
deriving DecidableEq, Repr

/-- What a dune does in one cycle, before borders: its new state with routed track and well outputs, the words it writes into its
block memories, in order, parity errors, cells treated as NOP, cells that wrote F = 1, and operations executed. -/
structure DuneOut where
  st : DuneSt
  writes : List (Nat × Nat × Nat) := []
  errs : List BmErr := []
  illegal : List Nat := []
  fOnes : List Nat := []
  ops : Nat := 0
deriving DecidableEq, Repr

/-- The cells of one carry group, from its lowest cell on (R32). -/
def groupStep (p : Payload) (st : DuneSt) (src : Nat → Flagged) (word : Nat → Nat → BmOut) : (n : Nat) → (c : Nat) → Bool → List CellOut
  | 0, _, _ => []
  | n + 1, c, west =>
    let o := cellStep (plSlot p c) (st.cells.get (fun _ => {}) c) (xbarDest p src (3 * c)) (xbarDest p src (3 * c + 1))
      (xbarDest p src (3 * c + 2)) west (fun m => plOwner p m == some c) word
    o :: groupStep p st src word n (c + 1) o.carry

/-- The dune's 64 cells (R31, R32). -/
def cellsStep (p : Payload) (st : DuneSt) (src : Nat → Flagged) (word : Nat → Nat → BmOut) : List CellOut :=
  (List.range 16).flatMap (fun g => groupStep p st src word 4 (4 * g) false)

/-- Port 0 of a memory (R41): the read it takes, if any, and the write. -/
def port0Step (p : Payload) (src : Nat → Flagged) (m : Nat) (word : Nat → Nat → BmOut) : Option (Nat × BmOut) × Option (Nat × Nat × Nat) :=
  let en := (xbarDest p src (194 + 3 * m)).v
  let addr := (xbarDest p src (192 + 3 * m)).v % 4096
  if natBit en 0 then
    if natBit en 1 then (none, some (m, addr, (xbarDest p src (193 + 3 * m)).v)) else (some (addr, word m addr), none)
  else (none, none)

/-- A dune over one fabric cycle. `trk` and `well` are its track and well inputs, `word` its block-memory words. -/
def duneStep (p : Payload) (st : DuneSt) (trk well : Nat → BitVec 32) (word : Nat → Nat → BmOut) : DuneOut :=
  let src := xbarSource st trk well
  let outs := cellsStep p st src word
  let cells := outs.map (·.st)
  let reqs := outs.filterMap (·.req)
  let p0 := (List.range 4).map (fun m => port0Step p src m word)
  let bmOut := (List.range 4).foldl (fun b m =>
    match st.bmPipe.get (fun _ => none) m with
    | some w => b.set (fun _ => {}) (2 * m) w
    | none => b) st.bmOut
  let bmOut := outs.foldl (fun b o => match o.bmDone with
    | some (m, w) => b.set (fun _ => {}) (2 * m + 1) w
    | none => b) bmOut
  { st := { cells := SMap.tab 64 (fun _ => {}) (fun c => cells.getD c {})
            bmOut := bmOut
            bmPipe := SMap.tab 4 (fun _ => none) (fun m => (p0.getD m (none, none)).1.map (·.2))
            trk := SMap.tab 16 (fun _ => 0) (fun t => BitVec.ofNat 32 (xbarDest p src (204 + t)).v)
            well := SMap.tab 8 (fun _ => 0) (fun j => BitVec.ofNat 32 (xbarDest p src (220 + j)).v) }
    writes := reqs.filterMap (fun r => r.data.map (fun w => (r.mem, r.addr, w))) ++ p0.filterMap (·.2)
    errs := (List.range 4).flatMap (fun m =>
      (match (p0.getD m (none, none)).1 with
        | some (a, w) => if w.perr then [{ mem := m, port := 0, addr := a }] else []
        | none => []) ++
      (reqs.filter (fun r => r.mem == m && (word m r.addr).perr)).map (fun r => { mem := m, port := 1, addr := r.addr }))
    illegal := (List.range 64).filter (fun c => (outs.map (·.illegal)).getD c false)
    fOnes := (List.range 64).filter (fun c => (outs.map (·.fOne)).getD c false)
    ops := (outs.filter (·.ran)).length }

end Sys2Proof.Machine
end

