-- ==== Sys2Proof/Machine/Fabric.lean ====
section
/-!
DEFINITION. The ergs (chapters 02 and 03): a fabric cycle of every erg, isolation and settling, switch requests and the switch,
lockstep pairs, snapshots, erg reset and power-gating.
-/
namespace Sys2Proof.Machine

/-! ### An erg's clock (R351, R490, R498) -/

def State.ergThm (s : State) (i : Nat) : ErgThm := s.thm.ergs.get (fun _ => {}) i
def State.setErgThm (s : State) (i : Nat) (t : ErgThm) : State := { s with thm := { s.thm with ergs := s.thm.ergs.set (fun _ => {}) i t } }

/-- Whether the shade planner gates an erg's clock in this cycle (R350, R354). -/
def State.planGated (s : State) (i : Nat) : Bool :=
  let t := s.ergThm i
  let n := s.fld (FAB_ERG_SHADE i) FAB_ERG_SHADE_GATE_N
  t.full || (n != 0 && s.time.fck % n == t.phase % n)

/-- Whether an erg's clock runs in this cycle. -/
def State.ergClock (s : State) (i : Nat) : Bool :=
  !s.planGated i && !s.clk.gatedNodes.contains (if i < 64 then 0 else 1) && !s.clk.gatedNodes.contains (0x100 + i)
    && s.pwr.st != .quiet && s.isUp (0x300 + i) && !s.pwr.inReset.contains (0x300 + i) && !s.pwr.inReset.contains (ergDie i)

/-! ### Inputs of a dune -/

def ErgSt.dune (e : ErgSt) (d : Nat) : DuneSt := e.live.get (fun _ => {}) d
def ErgSt.setDune (e : ErgSt) (d : Nat) (v : DuneSt) : ErgSt := { e with live := e.live.set (fun _ => {}) d v }
def PlaneSt.frame (p : PlaneSt) (d : Nat) : Payload := p.frames.get (fun _ => 0) d
/-- The erg-level settings stand in the frame of the south-west dune (R59). -/
def PlaneSt.settings (p : PlaneSt) : Payload := p.frame 0
/-- The plane of an erg's active context. -/
def State.activePlane (s : State) (i : Nat) : PlaneSt := (s.erg i).plane ((s.ergActive i).getD 0)

/-- A track input: 4 × side + track (R47, R49). -/
def State.trackIn (s : State) (i d n : Nat) : BitVec 32 :=
  if n % 4 = 3 then (s.erg i).expIn.get (fun _ => 0) (4 * d + n / 4)
  else match duneAt i d (n / 4) 1 with
    | some (j, e) => ((s.erg j).dune e).trk.get (fun _ => 0) (4 * ((n / 4 + 2) % 4) + n % 4)
    | none => 0

/-- Whether an output crosses the erg border: a track whose destination dune lies in another erg, or a well output (R69). -/
def crossesBorder (i d o : Nat) : Bool :=
  if o < 16 then
    match duneAt i d (o / 4) (if o % 4 = 3 then 4 else 1) with
    | some (j, _) => j != i
    | none => false
  else true

/-- The border value of an output (R69). -/
def borderValue (p : Payload) (o : Nat) (held : BitVec 32) : BitVec 32 :=
  match plBorderMode p o with
  | 0 => held
  | 1 => 0
  | 2 => 0xFFFFFFFF
  | _ => plBorderConst p o

/-- A dune's outputs after a border: those that cross take their border values. -/
def borderDune (i d : Nat) (p : Payload) (old new : DuneSt) : DuneSt :=
  { new with
    trk := SMap.tab 16 (fun _ => 0) (fun o =>
      if crossesBorder i d o then borderValue p o (old.trk.get (fun _ => 0) o) else new.trk.get (fun _ => 0) o)
    well := SMap.tab 8 (fun _ => 0) (fun j => borderValue p (16 + j) (old.well.get (fun _ => 0) j)) }

/-- The values of a dune's isolation registers, in increasing output number (R89). -/
def isoValues (i d : Nat) (st : DuneSt) : List (BitVec 32) :=
  ((List.range 16).filter (crossesBorder i d)).map (fun o => st.trk.get (fun _ => 0) o)
    ++ (List.range 8).map (fun j => st.well.get (fun _ => 0) j)

/-- CRC-32C over bytes (R89, R446). -/
def crc32cStep (c : Nat) (b : Byte) : Nat :=
  (List.range 8).foldl (fun c _ => if c % 2 = 1 then (c / 2) ^^^ 0x82F63B78 else c / 2) (c ^^^ b.toNat)
def crc32c (bytes : List Byte) : Nat := (bytes.foldl crc32cStep 0xFFFFFFFF) ^^^ 0xFFFFFFFF

/-! ### One erg over an edge -/

/-- What an erg does in a cycle. -/
structure ErgOut where
  live : SMap DuneSt
  writes : List (Nat × Nat) := []
  errs : List (Nat × BmErr) := []
  illegal : List (Nat × Nat) := []
  fOnes : List (Nat × Nat) := []
  ops : Nat := 0
  crc : BitVec 32 := 0
  shadow : SMap DuneSt := {}
deriving DecidableEq, Repr

/-- A dune's registers as written at an edge, the isolation registers with the border values of a plane if one applies. -/
def borderWith (i : Nat) (border : Option PlaneSt) (old : SMap DuneSt) (d : Nat) (new : DuneSt) : DuneSt :=
  match border with
  | some b => borderDune i d (b.frame d) (old.get (fun _ => {}) d) new
  | none => new

/-- An erg's dunes over an edge. `border` is the plane whose border values apply, when the erg is isolated at this edge. The CRC is over
what is written into the isolation registers (R89). A twin's are always written with border values (R88), so its CRC is over what
they would take if it wrote them as its primary did one edge before: `follow` is the plane whose border values then apply (DEDUCED,
log entry 116). -/
def State.ergStep (s : State) (i : Nat) (pl : PlaneSt) (border follow : Option PlaneSt) (twin : Bool) : ErgOut :=
  let e := s.erg i
  let outs := (List.range 16).map (fun d =>
    let pk := packDune i d
    (d, duneStep (pl.frame d) (e.dune d) (s.trackIn i d) (fun j => e.wellIn.get (fun _ => 0) (8 * d + j))
      (fun m a => bmRead s.fab.bm pk m a)))
  let live := outs.foldl (fun l o => l.set (fun _ => {}) o.1 (borderWith i border e.live o.1 o.2.st)) ({} : SMap DuneSt)
  let seen := if twin then outs.foldl (fun l o => l.set (fun _ => {}) o.1 (borderWith i follow e.shadow o.1 o.2.st)) ({} : SMap DuneSt) else live
  { live := live
    shadow := if twin then seen else {}
    writes := outs.flatMap (fun o => o.2.writes.map (fun w => (bmKey (packDune i o.1) w.1 w.2.1, w.2.2)))
    errs := outs.flatMap (fun o => o.2.errs.map (fun x => (packDune i o.1, x)))
    illegal := outs.flatMap (fun o => o.2.illegal.map (fun c => (packDune i o.1, c)))
    fOnes := outs.flatMap (fun o => o.2.fOnes.map (fun c => (o.1, c)))
    ops := outs.foldl (fun n o => n + o.2.ops) 0
    crc := BitVec.ofNat 32 (crc32c ((List.range 16).flatMap (fun d =>
      (isoValues i d (seen.get (fun _ => {}) d)).flatMap (fun v => toBytes 4 v.toNat)))) }

/-! ### Lockstep pairs (R87 to R89) -/

/-- Whether a lockstep pair is active on erg n of F-A and F-B. -/
def State.paired (s : State) (i : Nat) : Bool := s.fldOn (FAB_ERG_LOCK (i % 64)) FAB_ERG_LOCK_PAIRED
/-- Whether an erg is the twin of an active pair. -/
def State.isTwin (s : State) (i : Nat) : Bool := decide (64 ≤ i) && s.paired i
/-- PAIRED follows the active planes: both declare the pair and hold one context. -/
def State.showPaired (s : State) (n : Nat) : State :=
  let on := match s.ergActive n, s.ergActive (n + 64) with
    | some a, some b => a == b && plLockstep (s.activePlane n).settings && plLockstep (s.activePlane (n + 64)).settings
    | _, _ => false
  s.setFld (FAB_ERG_LOCK n) FAB_ERG_LOCK_PAIRED (bit01 on)

/-! ### Switch requests (R65 to R68) -/

/-- The refusal of a request (R66 to R68, R88). A lockstep switch refused leaves the pair (DEDUCED, log entry 116). -/
def State.refuseSwitch (s : State) (i : Nat) (src : SwSrc) (busy : Bool) : State :=
  match src with
  | .register => (s.setFld (FAB_ERG_CTX i) FAB_ERG_CTX_REFUSED 1).raiseReg 0x0203 i 1 (FAB_ERG_STATUS i)
  | .dispatch => s.finishSt (keyTask i) (if busy then stContextBusy else stContextNotValid)
  | .lockstep => (s.raiseReg 0x0203 i 2 (FAB_ERG_STATUS i)).showPaired (i % 64)
  | _ => s.raiseReg 0x0203 i 2 (FAB_ERG_STATUS i)

def State.showHeld (s : State) (i : Nat) : State :=
  s.setFld (FAB_ERG_STATUS i) FAB_ERG_STATUS_HELD (bit01 (s.erg i).held.isSome)

/-- Whether a failed load has stopped an erg: its active plane is INVALID (R560). -/
def State.ergStopped (s : State) (i : Nat) : Bool :=
  match s.ergActive i with
  | some a => s.planeState i a == plInvalid
  | none => false

/-- A request put to an erg: `left` ungated edges before its switch edge. An erg that a failed load has stopped switches at the
first edge (R560). -/
def State.askSwitch (s : State) (i : Nat) (src : SwSrc) (target left : Nat) : State :=
  let e := s.erg i
  if s.isTwin i ∧ src ≠ .lockstep then s.refuseSwitch i src true
  else if s.fldOn (FAB_ERG_STATUS i) FAB_ERG_STATUS_ACTIVE_WRITE then s.refuseSwitch i src true
  else
    let left := if s.ergStopped i then 1 else left
    s.setErg i { e with pend := e.pend ++ [{ src := src, target := target % 8, left := left }] }

def isImageReq (r : SwReq) : Bool := r.src == .flag || r.src == .link || r.src == .lockstep

/-- Whether an erg's configuration layer is in die reset: its plane ports stand still and its switches wait (R494). -/
def State.cfgDieReset (s : State) (i : Nat) : Bool := s.pwr.inReset.contains (if i < 64 then 2 else 5)

/-- Requests whose edge this is, resolved to at most one (R68). Of two register requests due at one edge while none is held, the first is
applied and the second held (DESIGN CHOICE, log entry 118). A register or dispatch request that names an INVALID active plane counts as one
for the context already active (DESIGN CHOICE, log entry 119). -/
def State.resolve (s : State) (i : Nat) : State :=
  let e := s.erg i
  if s.cfgDieReset i then s.setErg i { e with pend := e.pend.map (fun r => { r with left := max 1 (r.left - 1) }) }
  else
  let pend := e.pend.map (fun r => { r with left := r.left - 1 })
  let now := pend.filter (fun r => r.left == 0)
  let held := e.held
  let s := s.setErg i { e with pend := pend.filter (fun r => r.left != 0) }
  let lock := now.filter (fun r => r.src == .lockstep)
  let flags := now.filter (fun r => r.src == .flag)
  let links := now.filter (fun r => r.src == .link)
  let img := lock ++ flags ++ links
  let s := if !flags.isEmpty || !lock.isEmpty then
      links.foldl (fun s _ => (s.satFld (FAB_ERG_STATUS i) FAB_ERG_STATUS_LINK_DISCARD 1).raiseReg 0x0203 i 3 (FAB_ERG_STATUS i)) s
    else s
  let fresh := now.filter (fun r => r.src == SwSrc.dispatch) ++ now.filter (fun r => r.src == .register)
  -- while one is held every new register or dispatch request is refused
  let refused := match held with
    | some _ => fresh
    | none => if img.isEmpty then fresh.drop 2 else fresh.drop 1
  let s := refused.foldl (fun s r => s.refuseSwitch i r.src true) s
  let first := match held with
    | some h => some h
    | none => fresh.head?
  let second := match held with
    | some _ => none
    | none => fresh[1]?
  let (chosen, keep) := match img.head? with
    | some r => (some r, first)
    | none => (first, second)
  let s := s.setErg i { s.erg i with held := keep }
  let s := match chosen with
    | none => s
    | some r =>
      if s.ergActive i = some r.target then
        (if r.src == SwSrc.dispatch then s.finishSt (keyTask i) stSuccess else s)
      else
        let st := s.planeState i r.target
        if st = plFresh ∨ st = plValid then s.setErg i { s.erg i with due := some r }
        else s.refuseSwitch i r.src false
  s.showHeld i

/-! ### The switch (R64) -/

/-- The state a plane brings at its first activation (R55). Isolation registers are set by the caller. -/
def initialDune (p : Payload) : DuneSt :=
  { cells := SMap.tab 64 (fun _ => {}) (fun c => plCellInit p c)
    bmOut := SMap.tab 8 (fun _ => {}) (fun k => plBmInit p k) }

/-- A dune brought in with the isolation registers of the one going out. -/
def bringDune (i d : Nat) (now new : DuneSt) : DuneSt :=
  { new with
    trk := SMap.tab 16 (fun _ => 0) (fun o => if crossesBorder i d o then now.trk.get (fun _ => 0) o else new.trk.get (fun _ => 0) o)
    well := now.well }

/-- The memory frames staged for a context applied, with parity generated (R55, R449). -/
def State.applyStaging (s : State) (i c : Nat) : State :=
  let e := s.erg i
  match e.staging with
  | some st =>
    if st.ctx = c then
      let bm := st.parts.cells.foldl (fun bm (k, v) =>
        (List.range 512).foldl (fun bm w =>
          bm.set (fun _ => 0) (bmKey (packDune i (k / 32)) (k / 8 % 4) (512 * (k % 8) + w)) (bmStore (natBits (v.getD 0).toNat (32 * w) 32))) bm) s.fab.bm
      { s with fab := { s.fab with bm := bm } }.setErg i { e with staging := none }
    else s
  | none => s

/-- Settling under a plane's mode from this edge on (R71). -/
def settleOf (p : Payload) : Settle :=
  match plSettleMode p with
  | 1 => .count (plSettleCount p)
  | 2 => .ready
  | _ => .none

def State.showSettle (s : State) (i : Nat) : State :=
  s.setFld (FAB_ERG_STATUS i) FAB_ERG_STATUS_SETTLE (match (s.erg i).settle with | .count n => n | _ => 0)

/-- The context of plane `c` brought into the registers: saved state, or initial values with the staged memory (R55, R64). The plane's
initial values are its saved state until it is first switched out (DEDUCED from R450, log entry 44). `keepIso`
tells whether there is an outgoing context; without one the isolation registers take zero. -/
def State.bringIn (s : State) (i c : Nat) (keepIso : Bool) : State :=
  let e := s.erg i
  let pl := e.plane c
  let valid := s.planeState i c = plValid
  let live := (List.range 16).foldl (fun l d =>
    let now := if keepIso then e.dune d else {}
    let new := if valid then pl.saved.get (fun _ => {}) d else initialDune (pl.frame d)
    l.set (fun _ => {}) d (bringDune i d now new)) ({} : SMap DuneSt)
  let s := s.setErg i { e with live := live, readySeen := false }
  let s := if valid then s else (s.setErg i ((s.erg i).setPlane c { pl with saved := live })).applyStaging i c
  let s := (s.setPlaneState i c plValid).copyDirs i pl
  s.setFlds (FAB_ERG_CTX i) [(FAB_ERG_CTX_NONE, 0), (FAB_ERG_CTX_ACTIVE, c)]

/-- The outgoing context saved into its plane (R62, R64); nothing is saved into an INVALID plane (R560). A plane that uses moved
channels becomes STALE (R337), one with an uncorrectable word INVALID (R463). -/
def State.saveOut (s : State) (i c : Nat) : State :=
  if s.planeState i c = plValid then
    let e := s.erg i
    let pl := e.plane c
    let s := s.setErg i (e.setPlane c { pl with saved := e.live, staleDue := false, badDue := false })
    if pl.badDue then (s.dropClaims i c).setPlaneState i c plInvalid else if pl.staleDue then s.setPlaneState i c plStale else s
  else s

/-- The ergs linked to erg `i` with their requests (R65, R448). None arises in an erg whose clock the engine gates (R68, R560). -/
def State.linkAsks (s : State) (i target : Nat) : State :=
  let cand := ((List.range 4).filterMap (fun sd => (ergBeside i sd).map (fun j => (j, (sd + 2) % 4, 1)))) ++ [(ergAbove i, 4, 2)]
  cand.foldl (fun s (j, code, delay) =>
    match s.ergActive j with
    | some a =>
      let p := ((s.erg j).plane a).settings
      if plLinkValid p ∧ plLinkSource p = code ∧ !(s.erg j).loadGate then
        s.askSwitch j .link (if plLinkMode p then plLinkTarget p else target) delay
      else s
    | none => s) s

def swCode : SwSrc → Nat
  | .register => 1
  | .dispatch => 2
  | .flag => 3
  | .link => 4
  | .lockstep => 5

/-- The switch due at this edge performed (R64, R65, R71). The twin of a pair follows its primary one edge later, whatever the context
(R88), and PAIRED with it. -/
def State.doSwitch (s : State) (i : Nat) : State :=
  match (s.erg i).due with
  | none => s
  | some r =>
    let out := s.ergActive i
    let s := s.setErg i { s.erg i with due := none }
    let s := match out with
      | some a => s.saveOut i a
      | none => s
    let s := s.bringIn i r.target out.isSome
    let s := s.setErg i { s.erg i with settle := settleOf ((s.erg i).plane r.target).settings, forceEnd := false, loadGate := false,
                                       newContent := false, swAt := s.time.fck, swFrom := out }
    let s := s.showSettle i
    let s := (s.wrapFld (FAB_ERG_STATUS i) FAB_ERG_STATUS_SWITCHES 1).setFld (FAB_ERG_STATUS i) FAB_ERG_STATUS_LAST_SRC (swCode r.src)
    let s := if s.paired i ∧ i < 64 then s.askSwitch (i + 64) .lockstep r.target 1 else s.showPaired (i % 64)
    let s := if r.src == SwSrc.dispatch then (s.journalMark (keyTask i) 256).finishSt (keyTask i) stSuccess else s
    s.linkAsks i r.target

/-- An erg's active context given its initial values: an erg reset (R68), or new content of the active plane (R76). -/
def State.reinit (s : State) (i : Nat) : State :=
  match s.ergActive i with
  | none => s
  | some a =>
    let e := s.erg i
    let pl := e.plane a
    let live := (List.range 16).foldl (fun l d => l.set (fun _ => {}) d (bringDune i d (e.dune d) (initialDune (pl.frame d)))) ({} : SMap DuneSt)
    s.setErg i { e with live := live, readySeen := false }

/-! ### Isolation (R70 to R72, R562) -/

def State.forced (s : State) (i : Nat) : Bool := s.fldOn (FAB_ERG_ISO i) FAB_ERG_ISO_FORCE
def State.activeWrite (s : State) (i : Nat) : Bool := s.fldOn (FAB_ERG_STATUS i) FAB_ERG_STATUS_ACTIVE_WRITE

/-- Whether an erg is isolated at the edge to come (R70). -/
def State.isoNext (s : State) (i : Nat) : Bool :=
  s.forced i || s.activeWrite i || (s.erg i).forceEnd ||
    (match (s.erg i).settle with
      | .none => false
      | .count n => n != 0
      | .ready => !(s.erg i).readySeen)

/-- Settling that has run out, or whose ready cell has written F = 1, ended (R71). -/
def State.settleEnd (s : State) (i : Nat) : State :=
  let e := s.erg i
  let settled := match e.settle with
    | .none => false
    | .count n => n == 0
    | .ready => e.readySeen
  if settled then (s.setErg i { e with settle := .none, readySeen := false }).showSettle i else s

/-- Settling advanced over an isolated edge (R71, R562). -/
def State.settleStep (s : State) (i : Nat) (pl : PlaneSt) (readyNow : Bool) : State :=
  let e := s.erg i
  let st : Settle :=
    if e.forceEnd then settleOf pl.settings
    else match e.settle with
      | .count n => .count (n - 1)
      | x => x
  (s.setErg i { e with settle := st, forceEnd := false, readySeen := readyNow && !e.forceEnd }).showSettle i

/-! ### Errors of a cycle (R38, R42, R57, R58) -/

/-- Parity errors of a cycle recorded, counted and reported. -/
def State.bmErrors (s : State) (errs : List (Nat × BmErr)) : State :=
  let l := sortOn (fun (x : Nat × BmErr) => x.1 * 8 + x.2.mem * 2 + x.2.port) errs
  match l with
  | [] => s
  | f :: _ =>
    let s := if s.fldOn FAB_BM_PERR FAB_BM_PERR_VALID then s
      else s.setFlds FAB_BM_PERR [(FAB_BM_PERR_VALID, 1), (FAB_BM_PERR_DUNE, f.1), (FAB_BM_PERR_MEM, f.2.mem), (FAB_BM_PERR_PORT, f.2.port),
        (FAB_BM_PERR_ADDR, f.2.addr)]
    let s := s.satFld FAB_BM_PERR FAB_BM_PERR_COUNT l.length
    l.foldl (fun s x => s.raiseReg 0x0202 x.1 0 FAB_BM_PERR) s

/-- Cells treated as NOP in a cycle: the first recorded, each reported once for its context. -/
def State.illops (s : State) (ills : List (Nat × Nat)) : State :=
  let l := sortOn (fun (x : Nat × Nat) => x.1 * 64 + x.2) ills
  match l with
  | [] => s
  | f :: _ =>
    let ctxOf := fun (p : Nat) => (s.ergActive (duneErg p)).getD 0
    let s := if s.fldOn FAB_ILLOP FAB_ILLOP_VALID then s
      else s.setFlds FAB_ILLOP [(FAB_ILLOP_VALID, 1), (FAB_ILLOP_DUNE, f.1), (FAB_ILLOP_CELL, f.2), (FAB_ILLOP_CTX, ctxOf f.1)]
    l.foldl (fun s x =>
      let i := duneErg x.1
      let k := duneLocal x.1 * 512 + x.2 * 8 + ctxOf x.1
      if (s.erg i).illop.contains k then s
      else (s.setErg i { s.erg i with illop := (s.erg i).illop ++ [k] }).raiseReg 0x0201 x.1 0 FAB_ILLOP) s

/-! ### All ergs over an edge -/

/-- An erg's result put into the state: registers, block memory, settling, and a trigger flag's request (R65). -/
def State.applyErg (s : State) (i : Nat) (pl : PlaneSt) (iso : Bool) (o : ErgOut) : State :=
  let bm := o.writes.foldl (fun bm w => bm.set (fun _ => 0) w.1 (bmStore w.2)) s.fab.bm
  let s := { s with fab := { s.fab with bm := bm } }
  let e := s.erg i
  let crcs := if s.paired i then (o.crc :: e.crcs).take 5 else []
  let s := s.setErg i { e with live := o.live, crcs := crcs, shadow := o.shadow }
  let named : Option (Nat × Nat) → Bool := fun x => match x with | some c => o.fOnes.contains c | none => false
  let s := if iso then s.settleStep i pl (named (plReady pl.settings)) else s.setErg i { s.erg i with readySeen := named (plReady pl.settings) }
  let s := s.setFld (FAB_ERG_STATUS i) FAB_ERG_STATUS_ISOLATED (bit01 iso)
  let s := s.setErgThm i { s.ergThm i with ops := (s.ergThm i).ops + o.ops }
  if named (plTrigger pl.settings) then s.askSwitch i .flag (plFlagTarget pl.settings) 1 else s

/-- New content of an active plane taken at the first edge after FORCE is cleared (R76, R562). RELEASE lets it run at once (R72). -/
def State.takeNew (s : State) (i : Nat) : State :=
  let e := s.erg i
  match s.ergActive i with
  | some a =>
    let pl := e.plane a
    let s := (s.reinit i).copyDirs i pl
    let s := s.setErg i ((s.erg i).setPlane a { pl with saved := (s.erg i).live })
    let s := ((s.applyStaging i a).setPlaneState i a plValid).showPaired (i % 64)
    let e := s.erg i
    if e.relEnd then (s.setErg i { e with newContent := false, relEnd := false, loadGate := false, settle := .none, forceEnd := false }).setFld
        (FAB_ERG_STATUS i) FAB_ERG_STATUS_ISOLATED 0
    else
      let live := (List.range 16).foldl (fun l d => l.set (fun _ => {}) d (borderDune i d (pl.frame d) (e.dune d) (e.dune d))) ({} : SMap DuneSt)
      ((s.setErg i { e with live := live, newContent := false, loadGate := false, settle := settleOf pl.settings, forceEnd := false }).showSettle i).setFld
        (FAB_ERG_STATUS i) FAB_ERG_STATUS_ISOLATED 1
  | none => s

/-- The ergs that can act in this cycle. -/
def State.ergList (s : State) : List Nat := s.fab.ergs.keys.filter (fun i => decide (i < 128))

/-- ISOLATED of an erg that executes nothing at this edge (R70, R91). -/
def State.showIdle (s : State) (i : Nat) : State :=
  let on := if (s.erg i).loadGate then s.forced i || s.activeWrite i else s.isoNext i
  if s.fldOn (FAB_ERG_STATUS i) FAB_ERG_STATUS_ISOLATED == on then s else s.setFld (FAB_ERG_STATUS i) FAB_ERG_STATUS_ISOLATED (bit01 on)

/-- Every erg over one edge: requests resolved, then every ungated erg stepped from the registers as they stood, and the errors
recorded. `s.time.fck` already counts this edge. At a switch edge within the settling of an earlier switch the isolation registers take
their routed values and the edge counts as isolated (DESIGN CHOICE, log entry 115). SETTLE_COUNT stands still in cycles in which the clock
is gated (DESIGN CHOICE, log entry 117). -/
def State.ergsEdge (s : State) : State :=
  let live := s.ergList
  let s := live.foldl (fun s i => if s.ergClock i then s.resolve i else s) s
  let runs := live.filterMap (fun i =>
    match s.ergActive i with
    | some a =>
      let e := s.erg i
      if s.ergClock i ∧ !e.loadGate then
        let pl := e.plane a
        let iso := s.isoNext i || s.isTwin i
        let plain := e.due.isSome && !s.forced i && !e.forceEnd && !s.isTwin i
        let inc := match e.due with
          | some r => e.plane r.target
          | none => pl
        let follow := s.isTwin i && s.fldOn (FAB_ERG_STATUS (i - 64)) FAB_ERG_STATUS_ISOLATED
        some (i, pl, s.isoNext i, s.ergStep i pl (if iso && !plain then some inc else none) (if follow then some pl else none) (s.isTwin i))
      else none
    | none => none)
  let taking := live.filter (fun i => let e := s.erg i; e.newContent && !s.forced i && s.ergClock i)
  let s := runs.foldl (fun s (i, pl, iso, o) => s.applyErg i pl iso o) s
  let s := taking.foldl (fun s i => s.takeNew i) s
  let idle := (List.range 128).filter (fun i => !runs.any (fun r => r.1 == i) && !taking.contains i)
  let s := idle.foldl (fun s i => s.showIdle i) s
  let s := s.bmErrors (runs.flatMap (fun (_, _, _, o) => o.errs))
  s.illops (runs.flatMap (fun (_, _, _, o) => o.illegal))

/-- The well outputs of every erg driven on their channels at this edge; a twin's do not drive (R50, R88), nor those of an erg without
power (R490) or of a die in reset (R341). -/
def State.driveWells (s : State) : State :=
  s.ergList.foldl (fun s i =>
    match s.ergActive i with
    | some a =>
      if s.isTwin i || !s.isUp (0x300 + i) || s.pwr.inReset.contains (ergDie i) then s
      else
        let e := s.erg i
        let pl := e.plane a
        (List.range 16).foldl (fun s d =>
          (List.range 8).foldl (fun s j =>
            match plBinding (pl.frame d) j with
            | some (far, ch) =>
              let v := (e.dune d).well.get (fun _ => 0) j
              s.driveLess (i % 64) ch (ergDie i) far v (fun b => dirLost (s.stopDir (i % 64) b ch).word (ergDie i < far) v)
            | none => s) s) s
    | none => s) s

/-- Well and express inputs taken at this edge by every ungated erg (R51, R53). `old` is the state before the edge. At a switch edge the
well inputs still follow the bindings of the outgoing plane (DESIGN CHOICE, log entry 120). -/
def State.takeInputs (s old : State) : State :=
  s.ergList.foldl (fun s i =>
    match s.ergActive i with
    | some a =>
      if old.ergClock i ∧ !(s.erg i).loadGate then
        let e := s.erg i
        let pl := e.plane a
        let wellIn := SMap.tab 128 (fun _ => 0) (fun k =>
          match plBinding (pl.frame (k / 8)) (8 + k % 8) with
          | some (src, ch) => s.wellWord i src ch
          | none => 0)
        let expIn := SMap.tab 64 (fun _ => 0) (fun k =>
          match duneAt i (k / 4) (k % 4) 4 with
          | some (j, d) => ((old.erg j).dune d).trk.get (fun _ => 0) (4 * ((k % 4 + 2) % 4) + 3)
          | none => 0)
        s.setErg i { e with wellIn := wellIn, expIn := expIn }
      else s
    | none => s) s

/-- A lockstep pair compared: the twin's value of two edges ago with the primary's of three edges ago (R89). -/
def State.lockCompare (s : State) (n : Nat) : State :=
  if s.paired n then
    match (s.erg n).crcs[3]?, (s.erg (n + 64)).crcs[2]? with
    | some a, some b =>
      if a ≠ b then
        let s := (s.setFld (FAB_ERG_LOCK n) FAB_ERG_LOCK_MISMATCH 1).raiseReg 0x0205 n 0 (FAB_ERG_LOCK n)
        match s.fld (FAB_ERG_LOCK n) FAB_ERG_LOCK_ACTION with
        | 1 => s.setFld (FAB_ERG_ISO n) FAB_ERG_ISO_FORCE 1
        | 2 =>
          let e := s.erg n
          s.setErg n { e with pend := e.pend ++ [{ src := .lockstep, target := s.fld (FAB_ERG_LOCK n) FAB_ERG_LOCK_SAFE_CTX, left := 1 }] }
        | _ => s
      else s
    | _, _ => s
  else s

/-! ### Snapshots (R82 to R84) -/

/-- A snapshot of one erg. At a switch edge the outgoing context's state is stored, which the switch has saved into its plane; the settle
count is then the incoming plane's. An erg without an active plane is stored with the frames of plane 0 as context 0 (DESIGN CHOICE, log
entry 121). -/
def State.snapErg (s : State) (i : Nat) : State :=
  let snap := FAB_ERG_SNAP i
  let p := s.fld snap FAB_ERG_SNAP_PLANE
  if s.fldOn snap FAB_ERG_SNAP_RESERVE ∧ s.planeState i p = plSnapFree ∧ !s.activeWrite i then
    let e := s.erg i
    let atSwitch := e.swAt = s.time.fck ∧ e.swFrom.isSome
    let c := if atSwitch then e.swFrom.getD 0 else (s.ergActive i).getD 0
    let st := if atSwitch then (e.plane c).saved else e.live
    let img := (e.plane c).imageId
    let settle := match e.settle with | .count n => n | _ => 0
    let iso := s.fldOn (FAB_ERG_STATUS i) FAB_ERG_STATUS_ISOLATED
    let s := s.setErg i (e.setPlane p { frames := (e.plane c).frames, imageId := img, saved := st, snapIso := iso, snapSettle := settle })
    let s := s.setPlaneState i p plSnapFull
    s.setFlds snap [(FAB_ERG_SNAP_FULL, 1), (FAB_ERG_SNAP_CTX, c)]
  else s.setFld snap FAB_ERG_SNAP_SKIPPED 1

/-- The snapshot taken at this edge (R83). -/
def State.snapshot (s : State) : State :=
  let mask := fun (i : Nat) => natBit (s.fld (FAB_SNAP_MASK (i / 64)) FAB_SNAP_MASK_ERGS) (i % 64)
  let s := ((List.range 128).filter mask).foldl (fun s i => s.snapErg i) s
  let s := s.setReg FAB_SNAP_TIME s.time.stamp
  { s with fab := { s.fab with snap := none } }.setFld FAB_SNAP_CTL FAB_SNAP_CTL_BUSY 0

end Sys2Proof.Machine
end

