-- ==== Sys2Proof/Machine/Ergs.lean ====
section
/-!
DEFINITION. The commands on ergs, snapshots, fabric error registers and wells (chapters 02, 03 and 12). FABRIC_CYCLE itself stands in
Edge.lean, after the hard blocks it drives.
-/
namespace Sys2Proof.Machine

/-! ### Switches and isolation -/

/-- A write of FAB.ERG[i].CTX (R65, R67, R90). -/
def State.ctxWrite (s : State) (i : Nat) (data : Data) : State :=
  let s := s.writeReg (FAB_ERG_CTX i) data
  if FAB_ERG_CTX_GO.on data then
    if s.ergReserved i then s.refuseSwitch i .register false
    else s.askSwitch i .register (FAB_ERG_CTX_TARGET.get data) 1
  else s

/-- CTX_GO (R65). -/
def execCtxGo (i : ErgNo) (data : Data) (s : State) : Host.Outcome State Fault Refusal :=
  done (s.regWrite (FAB_ERG_CTX i) data (fun s => s.ctxWrite i data))

/-- SWITCH_EDGE (R64): the switch that this edge owes the erg. -/
def execSwitchEdge (i : ErgNo) (s : State) : Host.Outcome State Fault Refusal := done (s.doSwitch i)

/-- SETTLE_END (R71). -/
def execSettleEnd (i : ErgNo) (s : State) : Host.Outcome State Fault Refusal := done (s.settleEnd i)

/-- A write of FAB.ERG[i].ISO (R70, R72, R93, R562). RELEASE acts before FORCE of the same write and clears it. -/
def State.isoWrite (s : State) (i : Nat) (data : Data) : State :=
  let e := s.erg i
  if FAB_ERG_ISO_RELEASE.on data then
    if s.activeWrite i then s
    else
      let s := s.setFld (FAB_ERG_ISO i) FAB_ERG_ISO_FORCE 0
      (s.setErg i { e with settle := .none, forceEnd := false, readySeen := false, relEnd := e.newContent }).showSettle i
  else if FAB_ERG_ISO_FORCE.on data then
    (s.setFld (FAB_ERG_ISO i) FAB_ERG_ISO_FORCE 1).setErg i { e with forceEnd := false, relEnd := false }
  else if s.forced i then
    (s.setFld (FAB_ERG_ISO i) FAB_ERG_ISO_FORCE 0).setErg i { e with forceEnd := !e.loadGate && (s.ergActive i).isSome }
  else s

/-- ISO_FORCE_SET (R70). -/
def execIsoForceSet (i : ErgNo) (data : Data) (s : State) : Host.Outcome State Fault Refusal :=
  done (s.regWrite (FAB_ERG_ISO i) data (fun s => s.isoWrite i data))

/-- ISO_FORCE_CLEAR (R562). -/
def execIsoForceClear (i : ErgNo) (data : Data) (s : State) : Host.Outcome State Fault Refusal :=
  done (s.regWrite (FAB_ERG_ISO i) data (fun s => s.isoWrite i data))

/-- ISO_RELEASE (R72). -/
def execIsoRelease (i : ErgNo) (data : Data) (s : State) : Host.Outcome State Fault Refusal :=
  done (s.regWrite (FAB_ERG_ISO i) data (fun s => s.isoWrite i data))

/-! ### Fabric error registers -/

/-- A write of FAB.ILLOP (R38, R58). -/
def State.illopWrite (s : State) (data : Data) : State :=
  if FAB_ILLOP_VALID.on data then
    let s := s.setFld FAB_ILLOP FAB_ILLOP_VALID 0
    s.ergList.foldl (fun s i => s.setErg i { s.erg i with illop := [] }) s
  else s

/-- ILLOP_CLEAR (R58). -/
def execIllopClear (data : Data) (s : State) : Host.Outcome State Fault Refusal :=
  done (s.regWrite FAB_ILLOP data (fun s => s.illopWrite data))

/-- A write of FAB.BM_PERR (R57). -/
def State.bmPerrWrite (s : State) (data : Data) : State :=
  if FAB_BM_PERR_VALID.on data then s.setFlds FAB_BM_PERR [(FAB_BM_PERR_VALID, 0), (FAB_BM_PERR_COUNT, 0)] else s

/-- BM_PERR_CLEAR (R57). -/
def execBmPerrClear (data : Data) (s : State) : Host.Outcome State Fault Refusal :=
  done (s.regWrite FAB_BM_PERR data (fun s => s.bmPerrWrite data))

/-- A write of FAB.DIR_PERR (R96). -/
def State.dirPerrWrite (s : State) (data : Data) : State :=
  if FAB_DIR_PERR_VALID.on data then s.setFlds FAB_DIR_PERR [(FAB_DIR_PERR_VALID, 0), (FAB_DIR_PERR_COUNT, 0)] else s

/-- DIR_PERR_CLEAR (R96). -/
def execDirPerrClear (data : Data) (s : State) : Host.Outcome State Fault Refusal :=
  done (s.regWrite FAB_DIR_PERR data (fun s => s.dirPerrWrite data))

/-! ### Snapshots -/

/-- A write of FAB.ERG[i].SNAP (R82, R86, R94): SKIPPED and FULL first, then the reservation. A released plane reads EMPTY (DEDUCED,
log entry 22). -/
def State.snapWrite (s : State) (i : Nat) (data : Data) : State :=
  let r := FAB_ERG_SNAP i
  let p := s.fld r FAB_ERG_SNAP_PLANE
  let s := if FAB_ERG_SNAP_SKIPPED.on data then s.setFld r FAB_ERG_SNAP_SKIPPED 0 else s
  let s := if FAB_ERG_SNAP_FULL.on data ∧ s.fldOn r FAB_ERG_SNAP_FULL then
      (s.setFld r FAB_ERG_SNAP_FULL 0).setPlaneState i p plSnapFree
    else s
  let want := FAB_ERG_SNAP_RESERVE.on data
  let q := FAB_ERG_SNAP_PLANE.get data
  let ignored := fun (s : State) => s.raiseReg 0x0206 i 0 r
  if s.fldOn r FAB_ERG_SNAP_RESERVE then
    if want then (if q = p then s else ignored s)
    else if s.planeState i p = plSnapFree then
      (s.setFlds r [(FAB_ERG_SNAP_RESERVE, 0), (FAB_ERG_SNAP_PLANE, q)]).setPlaneState i p plEmpty
    else ignored s
  else if want then
    let st := s.planeState i q
    if st = plEmpty ∨ st = plInvalid then
      (s.setFlds r [(FAB_ERG_SNAP_RESERVE, 1), (FAB_ERG_SNAP_PLANE, q)]).setPlaneState i q plSnapFree
    else ignored s
  else s.setFld r FAB_ERG_SNAP_PLANE q

/-- SNAP_PLANE_RESERVE (R82). -/
def execSnapPlaneReserve (i : ErgNo) (data : Data) (s : State) : Host.Outcome State Fault Refusal :=
  done (s.regWrite (FAB_ERG_SNAP i) data (fun s => s.snapWrite i data))

/-- SNAP_PLANE_RELEASE (R82). -/
def execSnapPlaneRelease (i : ErgNo) (data : Data) (s : State) : Host.Outcome State Fault Refusal :=
  done (s.regWrite (FAB_ERG_SNAP i) data (fun s => s.snapWrite i data))

/-- SNAP_FREE (R86). -/
def execSnapFree (i : ErgNo) (data : Data) (s : State) : Host.Outcome State Fault Refusal :=
  done (s.regWrite (FAB_ERG_SNAP i) data (fun s => s.snapWrite i data))

/-- A snapshot asked for (R83, R84): within so many edges, or at exactly the last of them; ignored while one is pending. -/
def State.askSnap (s : State) (edges : Nat) (exact_ : Bool) : State :=
  match s.fab.snap with
  | some _ => s
  | none => ({ s with fab := { s.fab with snap := some (edges, exact_) } }).setFld FAB_SNAP_CTL FAB_SNAP_CTL_BUSY 1

/-- A write of FAB.SNAP_CTL (R97). -/
def State.snapCtlWrite (s : State) (data : Data) : State :=
  let s := s.writeReg FAB_SNAP_CTL data
  if FAB_SNAP_CTL_GO.on data then s.askSnap 16 false else s

/-- SNAP_GO (R83). -/
def execSnapGo (data : Data) (s : State) : Host.Outcome State Fault Refusal :=
  done (s.regWrite FAB_SNAP_CTL data (fun s => s.snapCtlWrite data))

/-- SNAPSHOT_EDGE (R83): the edge of a pending snapshot. One asked for by the trigger line falls at its sixth edge alone. -/
def execSnapshotEdge (s : State) : Host.Outcome State Fault Refusal :=
  match s.fab.snap with
  | some (n, ex) => if ex ∧ n ≠ 0 then done s else done s.snapshot
  | none => done s

/-! ### Erg reset and power-gating (R68) -/

/-- An erg reset: the active context takes its initial values; saved states and block memories stay (R68). The erg's SHADE is reset
(R364). -/
def State.ergReset (s : State) (i : Nat) : State :=
  let s := (s.reinit i).resetReg (FAB_ERG_SHADE i)
  s.setErgThm i {}

/-- An erg's active state saved into its plane at the gating edge (R68). -/
def State.ergGateOff (s : State) (i : Nat) : State :=
  match s.ergActive i with
  | some a => if s.planeState i a = plValid then s.setErg i ((s.erg i).setPlane a { (s.erg i).plane a with saved := (s.erg i).live }) else s
  | none => s

/-- It is restored at the first edge after power returns, with settling as for a switch. -/
def State.ergGateOn (s : State) (i : Nat) : State :=
  match s.ergActive i with
  | some a =>
    if s.planeState i a = plValid then
      let e := s.erg i
      (s.setErg i { e with live := (e.plane a).saved, settle := settleOf (e.plane a).settings, readySeen := false }).showSettle i
    else s
  | none => s

/-! ### Wells -/

/-- LANE_DECLARED_FAILING (R331 to R334). -/
def execLaneDeclaredFailing (x : Crossing) (lane : Fin 76) (s : State) : Host.Outcome State Fault Refusal :=
  done (s.laneFails (crossKey x.well x.bundle x.bond) lane)

/-- The lanes that waited for a swap declared again, until another swap begins (R333). -/
def State.nextSwap (s : State) (key : Nat) : State :=
  let c := s.cross key
  match c.waiting with
  | [] => s
  | l :: rest =>
    let s := s.setCross key { c with waiting := [] }
    let s := s.laneFails key l
    rest.foldl (fun s l => s.laneFails key l) s

/-- SPARE_SWAP_END (R333): the spare is taken into use when it agrees, and marked failed when it does not, the swap then starting
anew. -/
def execSpareSwapEnd (x : Crossing) (agree : Bool) (s : State) : Host.Outcome State Fault Refusal :=
  let key := crossKey x.well x.bundle x.bond
  let c := s.cross key
  match c.swap with
  | none => done s
  | some (lane, sp) =>
    if agree then
      let c := { c.mark WELL_XDATA_SPARE_USED sp true with swap := none, carries := c.carries.set (fun _ => 99) sp lane }
      done ((s.crossTo key lane c.ladder (fun _ => c)).nextSwap key)
    else
      let c := { c.mark WELL_XDATA_SPARE_FAILED sp true with swap := none }
      done (((s.crossTo key lane c.ladder (fun _ => c)).repairLane key lane).nextSwap key)

/-- REPAIR_RECORD_WRITE (R335). -/
def execRepairRecordWrite (s : State) : Host.Outcome State Fault Refusal :=
  let rec_ := s.fab.repairDue.foldl (fun m k => m.set (fun _ => {}) k { s.cross k with swap := none, waiting := [], corrs := [] }) s.store.crossRec
  let s := { s with store := { s.store with crossRec := rec_, mapGen := s.fld WELL_MAP_GEN WELL_MAP_GEN_GEN } }
  done { s with fab := { s.fab with repairDue := [] } }

/-- The die at the receiving end of a riser crossing. -/
def riserFar (x : RiserNo) : Nat := if x.up then x.bond else x.bond - 1

/-- RISER_TRANSFER (R340, R341): the transfer numbered `seq` for a stop on die `dest` crosses, new or resent. A new one enters the sender's
replay buffer, unless that is full. The receiving side drops it on a CRC error, and when the stop it is for is its own and the die in
reset; what passes through goes on (R26). It delivers it in sequence, and discards it when its number is not the next. -/
def execRiserTransfer (x : RiserNo) (dest : Fin 7) (seq : BitVec 10) (body : List (BitVec 8)) (crc : BitVec 16) (s : State) : Host.Outcome State Fault Refusal :=
  let k := riserKey x
  let r := s.riser k
  let isNew := seq.toNat = r.nextSend
  let held := r.replay.any (fun e => e.1 == seq.toNat)
  if isNew ∧ r.replay.length ≥ 64 then done s
  else if !isNew ∧ !held then done s
  else
    let r := if isNew then { r with replay := r.replay ++ [(seq.toNat, body)], nextSend := (r.nextSend + 1) % 1024 } else r
    let good := crc16 (toBytes 2 seq.toNat ++ body) = crc.toNat
    if good ∧ seq.toNat = r.expected ∧ !(dest.val == riserFar x && s.pwr.inReset.contains (riserFar x)) then
      done (s.setRiser k { r with expected := (r.expected + 1) % 1024, delivered := r.delivered ++ [body] })
    else done (s.setRiser k r)

/-- RISER_ACK (R340): a delivered transfer leaves the replay buffer. -/
def execRiserAck (x : RiserNo) (seq : BitVec 10) (s : State) : Host.Outcome State Fault Refusal :=
  let k := riserKey x
  let r := s.riser k
  let back := (r.expected + 1024 - seq.toNat) % 1024
  if 1 ≤ back ∧ back ≤ 512 then done (s.setRiser k { r with replay := r.replay.filter (fun e => e.1 != seq.toNat) }) else done s

/-- RISER_REPLAY_TIMEOUT (R340): the transfer not acknowledged in time and every later one are resent, in order. -/
def execRiserReplayTimeout (x : RiserNo) (s : State) : Host.Outcome State Fault Refusal :=
  done (s.satFld WELL_REPLAY WELL_REPLAY_RESENT (s.riser (riserKey x)).replay.length)

end Sys2Proof.Machine
end

