-- ==== Sys2Proof/Machine/Rs.lean ====
section
/-!
DEFINITION. The forward error correction code of the lanes: RS(544,514) over GF(2^10) with the field polynomial x^10 + x^3 + 1 (R118).
The spec gives neither the generator's roots nor the order of symbols and bits; they are IEEE 802.3's: roots α^0 to α^29 with α = x, the
first symbol of the highest degree, a symbol's first bit its bit 0 (PRESUMED, log entry 23).
-/
namespace Sys2Proof.Machine

/-- A field element times x. -/
def gfTwice (a : Nat) : Nat := let b := a * 2; if natBit b 10 then (b ^^^ 0x409) % 1024 else b

/-- The product in GF(2^10). -/
def gfMul (a b : Nat) : Nat := (List.range 10).reverse.foldl (fun p k => let q := gfTwice p; if natBit b k then q ^^^ a else q) 0

def gfPow (a : Nat) : Nat → Nat
  | 0 => 1
  | n + 1 => gfMul a (gfPow a n)

/-- The inverse, a^1022. -/
def gfInv (a : Nat) : Nat := (List.range 8).foldl (fun p _ => let q := gfMul p p; gfMul q (gfMul a a)) (gfMul a a)

/-- A polynomial, lowest coefficient first, times (x - r). -/
def gfTimesRoot (p : List Nat) (r : Nat) : List Nat :=
  List.zipWith (fun a b => a ^^^ b) (0 :: p) (p.map (gfMul r) ++ [0])

def gfEval (p : List Nat) (x : Nat) : Nat := p.foldr (fun c acc => c ^^^ gfMul x acc) 0

/-- The generator polynomial's 31 coefficients, lowest first. -/
def rsGenerator : List Nat := (List.range 30).foldl (fun p j => gfTimesRoot p (gfPow 2 j)) [1]

/-- The symbols of a word of bits, in order of transmission. -/
def rsSymbols (n w : Nat) : List Nat := (List.range n).map (fun k => natBits w (10 * k) 10)

/-- The 30 parity symbols of 514 message symbols, in order of transmission. -/
def rsParitySymbols (msg : List Nat) : List Nat :=
  let g := (rsGenerator.take 30).reverse
  msg.foldl (fun rem m =>
    let f := m ^^^ rem.headD 0
    List.zipWith (fun r c => r ^^^ gfMul f c) (rem.drop 1 ++ [0]) g) (List.replicate 30 0)

/-- The number whose 10-bit symbols these are. -/
def ofSymbols : List Nat → Nat
  | [] => 0
  | x :: r => x % 1024 + 1024 * ofSymbols r

/-- The codeword of a 5,140-bit message: the message, then the parity (R116). -/
def rsEncode (msg : Nat) : Nat := msg % 2 ^ 5140 + 2 ^ 5140 * ofSymbols (rsParitySymbols (rsSymbols 514 msg))

/-- The 30 syndromes of a received word. -/
def rsSyndromes (syms : List Nat) : List Nat :=
  (List.range 30).map (fun j => let a := gfPow 2 j; syms.foldl (fun acc c => c ^^^ gfMul a acc) 0)

/-- The state of the search for the error locator: locator, previous locator, its length, gap and previous discrepancy. -/
structure RsLocator where
  c : List Nat := [1]
  b : List Nat := [1]
  len : Nat := 0
  gap : Nat := 1
  last : Nat := 1

def gfAddPoly (a b : List Nat) : List Nat :=
  (List.range (max a.length b.length)).map (fun k => a.getD k 0 ^^^ b.getD k 0)

/-- One step of the Berlekamp-Massey search. -/
def rsLocate (s : List Nat) (x : RsLocator) (n : Nat) : RsLocator :=
  let d := (List.range (x.len + 1)).foldl (fun acc i => acc ^^^ gfMul (x.c.getD i 0) (s.getD (n - i) 0)) 0
  if d = 0 then { x with gap := x.gap + 1 }
  else
    let c' := gfAddPoly x.c (List.replicate x.gap 0 ++ x.b.map (gfMul (gfMul d (gfInv x.last))))
    if 2 * x.len ≤ n then { c := c', b := x.c, len := n + 1 - x.len, gap := 1, last := d }
    else { x with c := c', gap := x.gap + 1 }

/-- A received codeword decoded: none when it is uncorrectable, else the number of symbols corrected and the corrected word. -/
def rsDecode (word : Nat) : Option (Nat × Nat) :=
  let syms := rsSymbols 544 word
  let s := rsSyndromes syms
  if s.all (· == 0) then some (0, word)
  else
    let loc := (List.range 30).foldl (rsLocate s) {}
    let omega := (List.range 30).map (fun k =>
      (List.range (k + 1)).foldl (fun acc i => acc ^^^ gfMul (loc.c.getD i 0) (s.getD (k - i) 0)) 0)
    let deriv := (List.range loc.c.length).map (fun k => if k % 2 = 0 then loc.c.getD (k + 1) 0 else 0)
    let fix := (List.range 544).map (fun i =>
      let xi := gfPow 2 (543 - i)
      let inv := gfInv xi
      if gfEval loc.c inv = 0 then gfMul xi (gfMul (gfEval omega inv) (gfInv (gfEval deriv inv))) else 0)
    let n := (fix.filter (· != 0)).length
    let out := List.zipWith (fun a b => a ^^^ b) syms fix
    if 1 ≤ n ∧ n ≤ 15 ∧ (rsSyndromes out).all (· == 0) then some (n, ofSymbols out) else none

end Sys2Proof.Machine
end

