-- ==== Sys2Proof/Machine/Lanes.lean ====
section
/-!
DEFINITION. Port lanes, FEC blocks and GIO pins (chapter 04): enables and refusals, bindings, the receive and transmit paths over a
fabric cycle, margin points.
-/
namespace Sys2Proof.Machine

def State.lane (s : State) (n : Nat) : LaneSt := s.lanes.get (fun _ => {}) n
def State.setLane (s : State) (n : Nat) (l : LaneSt) : State := { s with lanes := s.lanes.set (fun _ => {}) n l }
def State.rxState (s : State) (n : Nat) : Nat := s.fld (LANE_STATUS n) LANE_STATUS_RX_STATE
def State.txState (s : State) (n : Nat) : Nat := s.fld (LANE_STATUS n) LANE_STATUS_TX_STATE
def State.setRx (s : State) (n x : Nat) : State := s.setFld (LANE_STATUS n) LANE_STATUS_RX_STATE x
def State.setTx (s : State) (n x : Nat) : State := s.setFld (LANE_STATUS n) LANE_STATUS_TX_STATE x
def rxDisabled := 0
def rxAcquire := 1
def rxLocked := 2
def rxAligned := 3
def txDisabled := 0
def txStarting := 1
def txIdle := 2
def txRun := 3

def State.cfgOf (s : State) (n : Nat) (f : Fld) : Nat := s.fld (LANE_CFG n) f

/-- A lane write, enable or binding refused (R102, R108, R559). -/
def State.laneRefuse (s : State) (n reason : Nat) (port : Bool) : State :=
  let s := s.setFlds (LANE_STATUS n) [(if port then LANE_STATUS_PORT_REFUSED else LANE_STATUS_CFG_REFUSED, 1), (LANE_STATUS_REASON, reason)]
  s.raiseReg 0x0301 n 0 (LANE_STATUS n)

/-! ### Margin points (R120, R121, R134) -/

/-- A margin point ended: its result, and BUSY 0. -/
def State.marginResult (s : State) (n errors : Nat) (aborted : Bool) : State :=
  let s := s.setLane n { s.lane n with margin := none }
  let s := s.setFlds (LANE_MARGIN_RES n) [(LANE_MARGIN_RES_VALID, 1), (LANE_MARGIN_RES_ABORTED, bit01 aborted), (LANE_MARGIN_RES_ERRORS, errors)]
  s.setFld (LANE_MARGIN n) LANE_MARGIN_BUSY 0

/-- A point of a lane with parameters in the positions of LANE[n].MARGIN: DWELL held to 10 to 40, EYE 3 taken as 1, eye 1 alone in NRZ
(R120, R134). -/
def State.marginRun (s : State) (n : Nat) (owner : Option (Nat × Nat)) (w : Nat) : MargRun :=
  let eye := natBits w 18 2
  { owner := owner, dwell := min 40 (max 10 (natBits w 20 6))
    eye := if eye = 3 ∨ !s.fldOn (LANE_CFG n) LANE_CFG_RX_PAM4 then 1 else eye
    volt := natBits w 10 8, phase := natBits w 4 6 }

/-- A point begun on a lane. -/
def State.marginBegin (s : State) (n : Nat) (m : MargRun) : State :=
  (s.setLane n { s.lane n with margin := some m }).setFld (LANE_MARGIN n) LANE_MARGIN_BUSY 1

/-! ### A measurement engine's rows and points (R229, R238, R241) -/

def State.engSt (s : State) (e : Nat) : EngSt := s.eng.get (fun _ => {}) e
def State.setEng (s : State) (e : Nat) (v : EngSt) : State := { s with eng := s.eng.set (fun _ => {}) e v }
def EngSt.row (v : EngSt) (r : Nat) : Nat := (v.mem.get (fun _ => 0) (r % 1024)).toNat
def EngSt.setRow (v : EngSt) (r n : Nat) : EngSt := { v with mem := v.mem.set (fun _ => 0) (r % 1024) (BitVec.ofNat 512 n) }
/-- Lane l's word of a row. -/
def EngSt.word (v : EngSt) (r l : Nat) : Nat := natBits (v.row r) (32 * l) 32
def EngSt.setWord (v : EngSt) (r l n : Nat) : EngSt :=
  v.setRow r (v.row r - v.word r l * 2 ^ (32 * l) + n % 2 ^ 32 * 2 ^ (32 * l))

/-- The port lane mapped to a MAC lane (R241). -/
def State.engPort (s : State) (e l : Nat) : Option Nat :=
  let b := natBits (s.reg (MEA_MAP e (l / 8))).toNat (8 * (l % 8)) 8
  if natBit b 7 then some (b % 64) else none

/-- The result rows of a margin point (R238). -/
def EngSt.pointRows (v : EngSt) (row l errors : Nat) (aborted : Bool) : EngSt :=
  (v.setWord (row + 1) l errors).setWord (row + 2) l (errors / 2 ^ 32 % 512 + 2 ^ 30 * bit01 aborted + 2 ^ 31)

/-- What the registers show of transfers and margin points. -/
def State.engShow (s : State) (e : Nat) : State :=
  let v := s.engSt e
  s.setFlds (MEA_STATUS e) [(MEA_STATUS_DMA_BUSY, bit01 !v.xfers.isEmpty), (MEA_STATUS_MPEND, bit01 !v.pts.cells.isEmpty)]

/-- A margin point of an engine ended. -/
def State.pointEnd (s : State) (e l errors : Nat) (aborted : Bool) : State :=
  let v := s.engSt e
  match v.pts.get (fun _ => none) l with
  | none => s
  | some pt =>
    let s := s.setEng e ({ v with pts := v.pts.set (fun _ => none) l none }.pointRows pt.row l errors aborted)
    let s := match s.engPort e l with
      | some n => s.marginResult n errors aborted
      | none => s
    s.engShow e

/-- A point ended early (R121, R245): the partial count is a free value, at most the UI of the point. -/
def State.marginAbort (s : State) (n : Nat) : State :=
  match (s.lane n).margin with
  | none => s
  | some m =>
    let errors := Config.freeBelow (2 ^ m.dwell + 1) s.freeCtr
    match m.owner with
    | none => (s.marginResult n errors true).spend 1
    | some (e, l) => (s.pointEnd e l errors true).spend 1

/-! ### Disabling (R102, R104) -/

/-- The receive direction leaves its running state: no grain is delivered any more. -/
def State.rxStop (s : State) (n st : Nat) : State :=
  let l := s.lane n
  ((s.setLane n { l with fr := {}, rxQ := [] }).setRx n st).marginAbort n

/-- The receive direction disabled. -/
def State.rxDisable (s : State) (n : Nat) : State :=
  let s := s.rxStop n rxDisabled
  (s.setLane n { s.lane n with rxEq := none, rxP := 0 }).setFlds (LANE_EQ_SET n) [(LANE_EQ_SET_RX_VALID, 0), (LANE_EQ_SET_RX_ENTRY, 0)]

/-- A transmitter in electrical idle with nothing on its way to the pins (R104). -/
def LaneSt.txCleared (l : LaneSt) : LaneSt :=
  { l with txP := 0, txWait := [], txBits := [], pins := .idle, demandAcc := 0, symAcc := 0, demands := [], txPos := 0, txMsg := [] }

/-- The transmit direction disabled: electrical idle at once. -/
def State.txDisable (s : State) (n : Nat) : State :=
  let l := s.lane n
  let s := s.setLane n { l.txCleared with txEq := none }
  (s.setTx n txDisabled).setFlds (LANE_EQ_SET n) [(LANE_EQ_SET_TX_VALID, 0), (LANE_EQ_SET_TX_ENTRY, 0)]

/-! ### Enabling (R105, R559) -/

/-- The combinations of R115. -/
def rxModeOk (mode fec : Nat) : Bool :=
  (mode == 0 && fec ≤ 2) || (mode == 1 && fec == 0) || (mode == 2 && (fec == 1 || fec == 2)) || (mode == 3 && fec == 0)

/-- The lowest valid entry of a modulation whose range holds a rate. -/
def State.eqEntry (s : State) (n pam kbd : Nat) : Option Nat :=
  firstBelow 8 (fun k =>
    let key := s.reg (LANE_EQ_KEY n k)
    LANE_EQ_KEY_VALID.on key && LANE_EQ_KEY_MOD.get key == pam && decide (LANE_EQ_KEY_MIN_KBD.get key ≤ kbd)
      && decide (kbd ≤ LANE_EQ_KEY_MAX_KBD.get key))

/-- The sum of the magnitudes of the transmit taps of an entry. -/
def State.tapSum (s : State) (n k : Nat) : Nat :=
  ([LANE_EQ_TX_PRE2, LANE_EQ_TX_PRE1, LANE_EQ_TX_MAIN, LANE_EQ_TX_POST1, LANE_EQ_TX_POST2].map (fun f =>
    (signed 8 (s.fld (LANE_EQ_TX n k) f)).natAbs)).foldl (· + ·) 0

/-- The last two checks of R559, for either direction: an entry, and the tap sum of the entry taken (R105). -/
def State.eqFault (s : State) (n pam kbd : Nat) : Option Nat :=
  match s.eqEntry n pam kbd with
  | none => some 1
  | some k => if 127 < s.tapSum n k then some 2 else none

def rateOk (kbd : Nat) : Bool := decide (1000000 ≤ kbd) && decide (kbd ≤ 106250000)

/-- The first check of R559 that a receive enable fails. -/
def State.rxFault (s : State) (n : Nat) : Option Nat :=
  let kbd := s.fld (LANE_RATE n) LANE_RATE_RX_KBD
  if !rxModeOk (s.cfgOf n LANE_CFG_RX_MODE) (s.cfgOf n LANE_CFG_RX_FEC) || s.fld (LANE_ALIGN_CTL n) LANE_ALIGN_CTL_AM_PERIOD == 0
      || decide (5 ≤ s.fld (LANE_ALIGN_CTL n) LANE_ALIGN_CTL_WIDTH) then some 3
  else if !rateOk kbd then some 4
  else if !s.fldOn (LANE_PORT n) LANE_PORT_RX_BOUND then some 7
  else s.eqFault n (s.cfgOf n LANE_CFG_RX_PAM4) kbd

/-- The first check of R559 that a transmit enable fails. -/
def State.txFault (s : State) (n : Nat) : Option Nat :=
  let mode := s.cfgOf n LANE_CFG_TX_MODE
  let kbd := s.fld (LANE_RATE n) LANE_RATE_TX_KBD
  if 3 ≤ mode ∨ 2 ≤ s.cfgOf n LANE_CFG_TX_SRC ∨ (s.cfgOf n LANE_CFG_TX_FEC = 1 ∧ mode ≠ 2) then some 3
  else if !rateOk kbd then some 4
  else if s.cfgOf n LANE_CFG_TX_SRC = 0 ∧ !s.fldOn (LANE_PORT n) LANE_PORT_TX_BOUND then some 7
  else s.eqFault n (s.cfgOf n LANE_CFG_TX_PAM4) kbd

/-- Whether enables act: the pad ring is released at CFG_DONE, and the quad is not in reset (R121, R454, R455). -/
def State.padsOn (s : State) (n : Nat) : Bool := s.pins.cfgDone && !s.pwr.inReset.contains (0x500 + n / 4)

def State.eqCopy (s : State) (n k : Nat) : BitVec 64 × BitVec 64 × BitVec 64 :=
  (s.reg (LANE_EQ_KEY n k), s.reg (LANE_EQ_TX n k), s.reg (LANE_EQ_RX n k))

/-- A receive enable judged (R559): refused, or the direction goes to ACQUIRE with its equalisation entry. -/
def State.rxEnable (s : State) (n : Nat) : State :=
  if !s.padsOn n then s
  else match s.rxFault n with
    | some r => s.laneRefuse n r false
    | none =>
      let k := (s.eqEntry n (s.cfgOf n LANE_CFG_RX_PAM4) (s.fld (LANE_RATE n) LANE_RATE_RX_KBD)).getD 0
      let s := s.setLane n { s.lane n with rxEq := some (s.eqCopy n k), rxP := 0, fr := {}, rxQ := [] }
      (s.setFlds (LANE_EQ_SET n) [(LANE_EQ_SET_RX_VALID, 1), (LANE_EQ_SET_RX_ENTRY, k)]).setRx n rxAcquire

/-- A transmit enable judged (R559): refused, or the direction goes to STARTING with its equalisation entry. -/
def State.txEnable (s : State) (n : Nat) : State :=
  if !s.padsOn n then s
  else match s.txFault n with
    | some r => s.laneRefuse n r false
    | none =>
      let k := (s.eqEntry n (s.cfgOf n LANE_CFG_TX_PAM4) (s.fld (LANE_RATE n) LANE_RATE_TX_KBD)).getD 0
      let s := s.setLane n { s.lane n with txEq := some (s.eqCopy n k), txP := 0 }
      (s.setFlds (LANE_EQ_SET n) [(LANE_EQ_SET_TX_VALID, 1), (LANE_EQ_SET_TX_ENTRY, k)]).setTx n txStarting

/-- Directions of a lane with EN 1 that stand DISABLED enabled: after the reset of their quad, or as the pad ring is released (R121, R455). -/
def State.laneRestart (s : State) (n : Nat) : State :=
  let s := if s.fldOn (LANE_CFG n) LANE_CFG_RX_EN ∧ s.rxState n = rxDisabled then s.rxEnable n else s
  if s.fldOn (LANE_CFG n) LANE_CFG_TX_EN ∧ s.txState n = txDisabled then s.txEnable n else s

/-! ### Register writes (R102, R108) -/

/-- The bits of a lane register that belong to the receive and to the transmit direction. -/
def laneCfgMasks : Nat × Nat := (0x3FE, 0x1FFE0000)
def laneRateMasks : Nat × Nat := (0x7FFFFFF, 0x7FFFFFF00000000)
def lanePortMasks : Nat × Nat := (0x3FFF, 0x1F3FFF0000)
def laneAlignMasks : Nat × Nat := (0xFFFFF, 0)

/-- The value a write leaves: the fields of a direction that is not DISABLED hold. Whether anything of them was to change (R102): a write
that leaves them as they are is not refused (DESIGN CHOICE, log entry 122). -/
def State.dirJudge (s : State) (n : Nat) (masks : Nat × Nat) (old new : Data) : Data × Bool :=
  let rm := BitVec.ofNat 64 masks.1
  let tm := BitVec.ofNat 64 masks.2
  let rBad := s.rxState n != rxDisabled && (old ^^^ new) &&& rm != 0
  let tBad := s.txState n != txDisabled && (old ^^^ new) &&& tm != 0
  let v := if rBad then (new &&& ~~~rm) ||| (old &&& rm) else new
  let v := if tBad then (v &&& ~~~tm) ||| (old &&& tm) else v
  (v, rBad || tBad)

/-- A write of LANE[n].CFG: a cleared enable disables first; the fields are judged; a set enable acts (R102, R559). An enable acts where EN
goes from 0 to 1; after a refused one EN reads 1 and is cleared first (DESIGN CHOICE, log entry 123). -/
def State.laneCfgWrite (s : State) (n : Nat) (data : Data) : State :=
  let old := s.reg (LANE_CFG n)
  let new := plainWrite LANE_CFG_info old data
  let off := fun (f : Fld) => f.on old && !f.on new
  let s := if off LANE_CFG_RX_EN then s.rxDisable n else s
  let s := if off LANE_CFG_TX_EN then s.txDisable n else s
  let j := s.dirJudge n laneCfgMasks old new
  let s := s.setReg (LANE_CFG n) j.1
  let s := if j.2 then s.laneRefuse n 5 false else s
  let on := fun (f : Fld) => !f.on old && f.on new
  let s := if on LANE_CFG_RX_EN then s.rxEnable n else s
  if on LANE_CFG_TX_EN then s.txEnable n else s

/-- A write of LANE[n].RATE or ALIGN_CTL (R102). -/
def State.laneRegWrite (s : State) (n off : Nat) (masks : Nat × Nat) (info : RegInfo) (data : Data) : State :=
  let old := s.reg off
  let j := s.dirJudge n masks old (plainWrite info old data)
  let s := s.setReg off j.1
  if j.2 then s.laneRefuse n 5 false else s

/-- The claims of a receive binding: nine channels upward; of a transmit binding: the pace channel (R108). -/
def rxClaims (n : Nat) (v : Data) : List Claim :=
  if LANE_PORT_RX_BOUND.on v then
    chanClaims (.laneRx n) (LANE_PORT_RX_WELL.get v) (LANE_PORT_RX_CH.get v) 9 1 (if LANE_PORT_RX_TOP.on v then 6 else 3)
  else []
def txClaims (n : Nat) (v : Data) : List Claim :=
  if LANE_PORT_TX_BOUND.on v then
    chanClaims (.laneTx n) (LANE_PORT_TX_WELL.get v) (LANE_PORT_TX_CH.get v + 9) 1 1 (if LANE_PORT_TX_TOP.on v then 6 else 3)
  else []

/-- One direction of a binding put in place, or refused with the previous one kept (R108, R338). -/
def State.bindDir (s : State) (n : Nat) (tx : Bool) (old new : Data) : State × Data :=
  let mask := BitVec.ofNat 64 (if tx then lanePortMasks.2 else lanePortMasks.1)
  if (old ^^^ new) &&& mask = 0 then (s, new)
  else
    let who : Claimant := if tx then .laneTx n else .laneRx n
    let claims := if tx then txClaims n new else rxClaims n new
    let bad := if tx then
        LANE_PORT_TX_BOUND.on new && s.bindRefused who (LANE_PORT_TX_WELL.get new) (LANE_PORT_TX_CH.get new) 10 claims 1
          (if LANE_PORT_TX_TOP.on new then 6 else 3)
      else LANE_PORT_RX_BOUND.on new && s.bindRefused who (LANE_PORT_RX_WELL.get new) (LANE_PORT_RX_CH.get new) 9 claims 1
          (if LANE_PORT_RX_TOP.on new then 6 else 3)
    if bad then ((s.laneRefuse n 6 true), (new &&& ~~~mask) ||| (old &&& mask))
    else (s.setClaims who claims, new)

/-- A write of LANE[n].PORT (R102, R108, R111). -/
def State.lanePortWrite (s : State) (n : Nat) (data : Data) : State :=
  let old := s.reg (LANE_PORT n)
  let new := plainWrite LANE_PORT_info old data
  let new := if LANE_PORT_TX_LEAD.get new < 4 then LANE_PORT_TX_LEAD.put new 4 else new
  let j := s.dirJudge n lanePortMasks old new
  let s := if j.2 then s.laneRefuse n 5 false else s
  let (s, v) := s.bindDir n false old j.1
  let (s, v) := s.bindDir n true old v
  s.setReg (LANE_PORT n) v

/-! ### Symbols and bits (R101, R109) -/

/-- The pair of bits, the earlier first, that Gray coding maps to a symbol value. -/
def grayPair (g : Nat) : List Bool := match g % 4 with
  | 0 => [false, false]
  | 1 => [false, true]
  | 2 => [true, true]
  | _ => [true, false]

def grayValue (first second : Bool) : Nat := match first, second with
  | false, false => 0
  | false, true => 1
  | true, true => 2
  | true, false => 3

/-- A received level turned into its bits, with the new P. -/
def rxBits (pam inv pre : Bool) (p level : Nat) : List Bool × Nat :=
  if pam then
    let v := if inv then 3 - level else level
    (grayPair (if pre then (v + p) % 4 else v), v)
  else ([(level % 2 == 1) != inv], p)

/-- Bits turned into levels, up to a number of symbols, with the new P and the bits left. -/
def txLevels (pam inv pre : Bool) : (k : Nat) → Nat → List Bool → List Nat × Nat × List Bool
  | 0, p, bits => ([], p, bits)
  | k + 1, p, bits =>
    if pam then
      match bits with
      | a :: b :: r =>
        let g := grayValue a b
        let v := if pre then (g + 4 - p) % 4 else g
        let o := txLevels pam inv pre k v r
        ((if inv then 3 - v else v) :: o.1, o.2)
      | r => ([], p, r)
    else match bits with
      | a :: r =>
        let o := txLevels pam inv pre k p r
        (bit01 (a != inv) :: o.1, o.2)
      | [] => ([], p, [])

/-! ### The receive symbol block (R115, R117, R119) -/

/-- What the symbol block is set to. -/
structure RxSet where
  mode : Nat
  fec : Nat
  pattern : BitVec 64
  amPeriod : Nat
  osGrains : Nat
  width : Nat
  /-- Grains are delivered: the running state of the mode is reached. -/
  running : Bool
  t : Nat
deriving DecidableEq, Repr

/-- A grain formed at edge `t` goes down the receive delay of 25 cycles, with 96 ns more where codewords are decoded (R113): 92.16 cycles,
taken as 93 whole ones (DESIGN CHOICE, log entry 125). -/
def rxPush (c : RxSet) (tick : Nat) (g : Grain) (l : LaneSt) : LaneSt :=
  if c.running then
    { l with rxQ := l.rxQ ++ [{ due := c.t + (if c.fec = 1 then 118 else 25), g := g, arrival := tick, cw := l.fr.cwNo }] }
  else l

/-- Alignment lost: the search begins anew. -/
def rxLose (l : LaneSt) : LaneSt := { l with fr := { lost := true, cwNo := l.fr.cwNo + 1 } }

def rawBit (c : RxSet) (tick : Nat) (b : Bool) (l : LaneSt) : LaneSt :=
  let f := l.fr
  let acc := f.acc + bit01 b * 2 ^ f.pos
  if f.pos + 1 = 64 then rxPush c tick { data := BitVec.ofNat 64 acc } { l with fr := { f with acc := 0, pos := 0 } }
  else { l with fr := { f with acc := acc, pos := f.pos + 1 } }

/-- One bit of a 64b/66b stream. Before lock a block with an invalid header makes the block boundary slip by a bit (DEDUCED, log
entry 24). -/
def blockBit (c : RxSet) (tick : Nat) (b : Bool) (l : LaneSt) : LaneSt :=
  let f := l.fr
  if f.osLeft ≠ 0 then { l with fr := { f with osLeft := f.osLeft - 1 } }
  else
    let acc := f.acc + bit01 b * 2 ^ f.pos
    if f.pos + 1 < 66 then { l with fr := { f with acc := acc, pos := f.pos + 1 } }
    else
      let ok := natBit acc 0 != natBit acc 1
      let f := { f with acc := 0, pos := 0 }
      let l := { l with fr := f }
      if f.sync then
        let bad := ((!ok) :: f.bad).take 64
        let l := rxPush c tick { data := BitVec.ofNat 64 (acc / 4), tag := acc % 4, err := !ok } { l with fr := { f with bad := bad } }
        if (bad.filter id).length ≥ 16 then rxLose l else l
      else if ok then { l with fr := { f with good := f.good + 1, sync := f.good + 1 == 64, bad := [] } }
      else { l with fr := { f with good := 0, osLeft := 1 } }

/-- The end of a codeword: counted, its grains corrected or marked (R115, R118, R119). Where a codeword lasts longer than the 96 ns of
decoding, its grains wait until 25 cycles after its end (DESIGN CHOICE, log entry 126). -/
def cwEnd (c : RxSet) (thr acc : Nat) (l : LaneSt) : LaneSt :=
  let f := l.fr
  let l := { l with fr := { f with acc := 0, pos := 0, cwIdx := f.cwIdx + 1, cwNo := f.cwNo + 1, started := false } }
  if !f.started then l
  else
    let dec := rsDecode acc
    let l := match dec with
      | some (n, _) => { l with runCw := (l.runCw + 1) % 2 ^ 64, runCorr := (l.runCorr + n) % 2 ^ 64, runThr := satAdd 32 l.runThr (bit01 (thr ≤ n)) }
      | none => { l with runCw := (l.runCw + 1) % 2 ^ 64, runUncorr := satAdd 32 l.runUncorr 1, badCw := true }
    let mine := l.rxQ.filter (fun g => g.cw == f.cwNo)
    let others := l.rxQ.filter (fun g => g.cw != f.cwNo)
    let fixed := (List.range mine.length).map (fun k =>
      let g := mine.getD k { due := 0, g := {}, arrival := 0 }
      let at_ := if c.mode = 2 then 257 * (k / 4) + 1 + 64 * (k % 4) else 64 * k
      match dec with
      | none => { g with g := { g.g with err := true }, due := if c.fec = 1 then max g.due (c.t + 25) else g.due }
      | some (_, w) =>
        if c.fec = 1 then
          let tag := if c.mode = 2 ∧ k % 4 = 0 then 1 + 2 * natBits w (257 * (k / 4)) 1 else g.g.tag
          { g with g := { g.g with data := BitVec.ofNat 64 (natBits w at_ 64), tag := tag }, due := max g.due (c.t + 25) }
        else g)
    { l with rxQ := others ++ fixed }

/-- One bit of a stream of codewords: the lane's state and the marker misses. -/
def codewordBit (c : RxSet) (thr tick : Nat) (b : Bool) (l : LaneSt) : LaneSt × Nat :=
  let f := l.fr
  let win := BitVec.ofNat 64 (f.win.toNat / 2 + bit01 b * 2 ^ 63)
  if f.good = 0 then
    if win = c.pattern then
      ({ l with fr := { f with win := 0, good := 1, pos := 64, acc := c.pattern.toNat, cwIdx := 0, cwNo := f.cwNo + 1, started := false } }, 0)
    else ({ l with fr := { f with win := win } }, 0)
  else
    let started := f.started || (f.pos == 0 && c.running)
    let acc := f.acc + bit01 b * 2 ^ f.pos
    let pos := f.pos + 1
    let l := { l with fr := { f with acc := acc, pos := pos, started := started } }
    -- grains of the codeword
    let l :=
      if !started then l
      else if c.mode = 2 then
        let r := (pos - 1) % 257
        if pos ≤ 5140 ∧ r ≠ 0 ∧ r % 64 = 0 then
          rxPush c tick { data := BitVec.ofNat 64 (natBits acc (pos - 64) 64),
                          tag := if r = 64 then 1 + 2 * natBits acc (pos - 1 - r) 1 else 0 } l
        else l
      else if pos % 64 = 0 then
        rxPush c tick { data := BitVec.ofNat 64 (natBits acc (pos - 64) 64), tag := if pos = 64 then 1 else 0 } l
      else l
    -- the marker
    if pos = 64 ∧ f.cwIdx % c.amPeriod = 0 then
      let f := l.fr
      if acc = c.pattern.toNat then
        ({ l with fr := { f with good := f.good + 1, sync := f.sync || decide (3 ≤ f.good + 1), misses := 0 } }, 0)
      else if f.sync then
        if f.misses + 1 ≥ 4 then (rxLose l, 1) else ({ l with fr := { f with misses := f.misses + 1 } }, 1)
      else ({ l with fr := { cwNo := f.cwNo + 1, lost := f.lost } }, 0)
    else if pos = 5440 then (cwEnd c thr acc l, 0)
    else (l, 0)

/-- One bit of a flit stream. The grain that matches ALIGN is the ordered set's first; OS_GRAINS grains of it follow. -/
def flitBit (c : RxSet) (tick : Nat) (b : Bool) (l : LaneSt) : LaneSt :=
  let f := l.fr
  let win := BitVec.ofNat 64 (f.win.toNat / 2 + bit01 b * 2 ^ 63)
  let hit := win = c.pattern
  if !f.sync then
    if hit then { l with fr := { f with win := win, sync := true, osLeft := c.osGrains, pos := 0, acc := 0, flitPos := 0 } }
    else { l with fr := { f with win := win } }
  else if f.pos + 1 < 64 then
    if hit then rxLose l else { l with fr := { f with win := win, pos := f.pos + 1 } }
  else
    let f := { f with win := win, pos := 0 }
    if hit then rxPush c tick { data := win, tag := 2 } { l with fr := { f with osLeft := c.osGrains, flitPos := 0 } }
    else if f.osLeft ≠ 0 then rxPush c tick { data := win, tag := 2 } { l with fr := { f with osLeft := f.osLeft - 1 } }
    else rxPush c tick { data := win, tag := bit01 (f.flitPos == 0) } { l with fr := { f with flitPos := (f.flitPos + 1) % max (32 / 2 ^ c.width) 1 } }

/-- One received bit. -/
def rxBit (c : RxSet) (thr tick : Nat) (a : LaneSt × Nat) (b : Bool) : LaneSt × Nat :=
  if c.mode = 1 then (blockBit c tick b a.1, a.2)
  else if c.mode = 3 then (flitBit c tick b a.1, a.2)
  else if c.mode = 2 ∨ c.fec ≠ 0 then let r := codewordBit c thr tick b a.1; (r.1, a.2 + r.2)
  else (rawBit c tick b a.1, a.2)

/-- Whether a receive mode is framed, so that ALIGNED is its running state (R103). -/
def State.framed (s : State) (n : Nat) : Bool := s.cfgOf n LANE_CFG_RX_MODE != 0 || s.cfgOf n LANE_CFG_RX_FEC != 0

def State.rxRunning (s : State) (n : Nat) : Bool :=
  if s.framed n then s.rxState n == rxAligned && !(s.lane n).fr.lost else s.rxState n == rxLocked

def State.rxSet (s : State) (n : Nat) : RxSet :=
  { mode := s.cfgOf n LANE_CFG_RX_MODE, fec := s.cfgOf n LANE_CFG_RX_FEC, pattern := s.reg (LANE_ALIGN n)
    amPeriod := s.fld (LANE_ALIGN_CTL n) LANE_ALIGN_CTL_AM_PERIOD, osGrains := s.fld (LANE_ALIGN_CTL n) LANE_ALIGN_CTL_OS_GRAINS
    width := s.fld (LANE_ALIGN_CTL n) LANE_ALIGN_CTL_WIDTH, running := s.rxRunning n, t := s.time.fck }

/-- The symbols of a cycle taken by a locked receiver. -/
def State.rxFeed (s : State) (n : Nat) (syms : List RxSym) : State :=
  if s.rxState n < rxLocked then s
  else
    let c := s.rxSet n
    let thr := s.fld (FEC_CTL (n / 4)) FEC_CTL_THR
    let on := fun (f : Fld) => s.fldOn (LANE_CFG n) f
    let r := syms.foldl (fun (a : LaneSt × Nat) y =>
      let bits := rxBits (on LANE_CFG_RX_PAM4) (on LANE_CFG_RX_INVERT) (on LANE_CFG_RX_PRECODE) a.1.rxP y.level.toNat
      bits.1.foldl (rxBit c thr y.tick.val) ({ a.1 with rxP := bits.2 }, a.2)) (s.lane n, 0)
    (s.setLane n r.1).satFld (LANE_ERRCNT n) LANE_ERRCNT_SYNC_ERR r.2

/-- The receive words written at the base-die stop at this edge: up to four grains, the oldest first, and the control word
(R109, R110, R113). Channels of grains that are not valid, their tags, and ARRIVAL of a word without one, are free values. -/
def State.rxDrive (s : State) (n : Nat) : State :=
  let port := s.reg (LANE_PORT n)
  let l := s.lane n
  let ready := fun (g : RxGrain) => decide (g.due ≤ s.time.fck) && !(s.cfgOf n LANE_CFG_RX_FEC == 1 && g.cw == l.fr.cwNo)
  let out := if s.rxRunning n then (l.rxQ.takeWhile ready).take 4 else []
  let s := s.setLane n { l with rxQ := l.rxQ.drop out.length }
  -- Quiet delivers VALID 0 (R498)
  let out := if s.pwr.st = .quiet then [] else out
  if !LANE_PORT_RX_BOUND.on port then s
  else
    let well := LANE_PORT_RX_WELL.get port
    let ch := LANE_PORT_RX_CH.get port
    let far := if LANE_PORT_RX_TOP.on port then 6 else 3
    let z := (Config.freeValue 320 s.freeCtr).toNat
    let s := s.spend 1
    let data := fun g => match out[g]? with
      | some x => x.g.data.toNat
      | none => natBits z (64 * g) 64
    let sum := fun (f : Nat → Nat) => f 0 + f 1 + f 2 + f 3
    let tags := sum (fun g => 2 ^ (4 + 2 * g) * (match out[g]? with | some x => x.g.tag % 4 | none => natBits z (256 + 2 * g) 2))
    let errs := sum (fun g => 2 ^ (12 + g) * (match out[g]? with | some x => bit01 x.g.err | none => 0))
    let arrival := match out[0]? with
      | some x => x.arrival
      | none => natBits z 264 6 % 40
    let ctrl := 2 ^ out.length - 1 + tags + errs + 2 ^ 16 * s.fld (LANE_STATUS n) LANE_STATUS_SIGDET
      + 2 ^ 17 * bit01 (s.rxState n == rxAligned) + 2 ^ 18 * arrival + 2 ^ 24 * (s.time.fck % 256)
    let s := (List.range 4).foldl (fun s g =>
      (s.drive well (ch + 2 * g) 0 far (BitVec.ofNat 32 (data g))).drive well (ch + 2 * g + 1) 0 far (BitVec.ofNat 32 (data g / 2 ^ 32))) s
    s.drive well (ch + 8) 0 far (BitVec.ofNat 32 ctrl)

/-! ### The transmit path (R111 to R113, R116, R563) -/

/-- Bits of a grain 1/4 of which a grain takes on the line, headers and parity included, times four. -/
def txGrainQuarter (mode fec : Nat) : Nat := if fec = 1 then 272 else if mode = 2 then 257 else if mode = 1 then 264 else 256

/-- The bits of one grain in the transmit block structure (R116). -/
def txGrain (mode fec : Nat) (g : BitVec 64) (tag : Nat) (l : LaneSt) : List Bool × LaneSt :=
  let data := toBits 64 g.toNat
  if mode = 1 then (natBit tag 0 :: natBit tag 1 :: data, l)
  else if mode = 2 then
    let bits := if l.txPos % 4 = 0 then natBit tag 1 :: data else data
    if fec = 1 then
      let msg := l.txMsg ++ bits
      if l.txPos + 1 = 80 then (bits ++ (toBits 300 (rsEncode (ofBits msg) / 2 ^ 5140)), { l with txPos := 0, txMsg := [] })
      else (bits, { l with txPos := l.txPos + 1, txMsg := msg })
    else (bits, { l with txPos := (l.txPos + 1) % 4 })
  else (data, l)

/-- Grains taken by the transmitter at this edge: their bits reach the pins 15.708 ns later, in the 16th cycle, or 39.708 ns later with
encoding, in the 39th (R113). -/
def State.txSend (s : State) (n : Nat) (grains : List (BitVec 64 × Nat)) : State :=
  let mode := s.cfgOf n LANE_CFG_TX_MODE
  let fec := s.cfgOf n LANE_CFG_TX_FEC
  let r := grains.foldl (fun (a : List Bool × LaneSt) g => let o := txGrain mode fec g.1 g.2 a.2; (a.1 ++ o.1, o.2)) ([], s.lane n)
  if r.1.isEmpty then s
  else s.setLane n { r.2 with txWait := r.2.txWait ++ [(s.time.fck + (if fec = 1 then 38 else 15), r.1)] }

/-- The transmitter enters RUN: it demands from here on, and what it demands arrives TX_LEAD cycles later. The phase of its demand is
free. -/
def State.txRunNow (s : State) (n : Nat) : State :=
  let period := 960000 * txGrainQuarter (s.cfgOf n LANE_CFG_TX_MODE) (s.cfgOf n LANE_CFG_TX_FEC)
  let l := s.lane n
  let s := s.setLane n { l with demands := List.replicate (s.fld (LANE_PORT n) LANE_PORT_TX_LEAD) .starting,
                                demandAcc := Config.freeBelow period s.freeCtr }
  (s.spend 1).setTx n txRun

/-- The grains a lane takes at this edge, by its rate. -/
def State.txDemandNow (s : State) (n : Nat) : Nat × Nat :=
  let l := s.lane n
  let bits := if s.fldOn (LANE_CFG n) LANE_CFG_TX_PAM4 then 2 else 1
  let period := 960000 * txGrainQuarter (s.cfgOf n LANE_CFG_TX_MODE) (s.cfgOf n LANE_CFG_TX_FEC)
  let a := l.demandAcc + s.fld (LANE_RATE n) LANE_RATE_TX_KBD * bits * 4
  (min (a / period) 4, a % period)

/-- The transmit word taken at this edge and the pace word driven (R111, R112, R563). -/
def State.txWord (s : State) (n : Nat) : State :=
  let port := s.reg (LANE_PORT n)
  let well := LANE_PORT_TX_WELL.get port
  let ch := LANE_PORT_TX_CH.get port
  let far := if LANE_PORT_TX_TOP.on port then 6 else 3
  let word := fun k => (s.chanDown well (ch + k) 0).toNat
  let ctrl := word 8
  let idle := natBit ctrl 16 || s.pwr.st == .quiet
  let st := s.txState n
  let fabric := s.cfgOf n LANE_CFG_TX_SRC = 0 ∧ LANE_PORT_TX_BOUND.on port
  let pace := fun (s : State) (k : Nat) => if LANE_PORT_TX_BOUND.on port then s.drive well (ch + 9) 0 far (BitVec.ofNat 32 k) else s
  if !fabric then pace s 0
  else if st = txRun then
    let l := s.lane n
    let (now, acc) := s.txDemandNow n
    let valid := (List.range 4).filter (fun g => natBit ctrl g)
    let head := l.demands.headD .starting
    let want := match head with
      | .demanded k => k
      | .starting => 0
    let fill := match head with
      | .demanded k => k - valid.length
      | .starting => now
    let tag := s.cfgOf n LANE_CFG_FILL_TAG
    let grains := (valid.take want).map (fun g => (BitVec.ofNat 64 (word (2 * g) + 2 ^ 32 * word (2 * g + 1)), natBits ctrl (4 + 2 * g) 2))
      ++ List.replicate fill (s.reg (LANE_TX_FILL n), tag)
    let counted := match head with
      | .demanded _ => fill
      | .starting => 0
    let s := s.setLane n { l with demandAcc := acc, demands := l.demands.drop 1 ++ [.demanded now] }
    let s := (s.satFld (LANE_ERRCNT n) LANE_ERRCNT_UNDERRUN counted).satFld (LANE_ERRCNT n) LANE_ERRCNT_OVERRUN (valid.length - want)
    let s := s.txSend n grains
    if idle then (pace s 0).setTx n txIdle |>.setLane n { (pace s 0).lane n with demands := [] } else pace s now
  else if st = txIdle ∧ !s.fldOn (LANE_CFG n) LANE_CFG_TX_IDLE ∧ !idle then pace (s.txRunNow n) 0
  else pace s 0

/-- The symbols that leave at the pins in this cycle (R101, R104). -/
def State.txPins (s : State) (n : Nat) : State :=
  let l := s.lane n
  let st := s.txState n
  let come := (l.txWait.filter (fun w => decide (w.1 ≤ s.time.fck))).flatMap (·.2)
  let wait := l.txWait.filter (fun w => !decide (w.1 ≤ s.time.fck))
  let bits := l.txBits ++ come
  if st = txDisabled ∨ st = txStarting then s
  else if bits.isEmpty then s.setLane n { l with txWait := wait, txBits := [], pins := .idle }
  else
    let on := fun (f : Fld) => s.fldOn (LANE_CFG n) f
    let a := l.symAcc + s.fld (LANE_RATE n) LANE_RATE_TX_KBD
    let r := txLevels (on LANE_CFG_TX_PAM4) (on LANE_CFG_TX_INVERT) (on LANE_CFG_TX_PRECODE) (a / 960000) l.txP bits
    s.setLane n { l with txWait := wait, txBits := r.2.2, txP := r.2.1, symAcc := a % 960000, pins := .levels r.1 }

/-- A lane over an edge: the hard block's side of R109 to R113. -/
def State.laneEdge (s : State) (n : Nat) (syms : List RxSym) : State :=
  (((s.rxFeed n syms).rxDrive n).txWord n).txPins n

/-- The lanes that can act: enabled, or bound. -/
def State.laneList (s : State) : List Nat :=
  (List.range 48).filter (fun n => s.rxState n != rxDisabled || s.txState n != txDisabled
    || LANE_PORT_RX_BOUND.on (s.reg (LANE_PORT n)) || LANE_PORT_TX_BOUND.on (s.reg (LANE_PORT n)))

/-! ### General I/O (R124, R125) -/

def State.gioAt (s : State) (k : Nat) : GioSt := s.gio.get (fun _ => {}) k
def State.setGio (s : State) (k : Nat) (g : GioSt) : State := { s with gio := s.gio.set (fun _ => {}) k g }
def gioMode (v : Data) : Nat := let m := GIO_CFG_MODE.get v; if 6 ≤ m then 0 else m
def gioDiff (v : Data) : Bool := gioMode v == 4 || gioMode v == 5

/-- Whether a mode takes the pin's level in: input, bidirectional, differential input. -/
def gioIn (v : Data) : Bool := gioMode v == 1 || gioMode v == 3 || gioMode v == 4

/-- The claim of an input: channel 63 of its well on bonds 1 to 6. -/
def gioClaims (k : Nat) (v : Data) : List Claim :=
  if gioIn v then chanClaims (.gio k) k 63 1 1 6 else []

/-- A write of GIO[k].CFG (R124, R125). A differential pair on an odd pin, beside a pin in use, or whose channel another claim holds, is
refused with MODE 0; so is a pin beside a pair (DEDUCED, log entry 25). -/
def State.gioCfgWrite (s : State) (k : Nat) (data : Data) : State :=
  let new := plainWrite GIO_CFG_info (s.reg (GIO_CFG k)) data
  let mate := s.reg (GIO_CFG (if k % 2 = 0 then k + 1 else k - 1))
  let claims := gioClaims k new
  let bad := (gioDiff new && (k % 2 == 1 || gioMode mate != 0)) || (k % 2 == 1 && gioMode new != 0 && gioDiff mate)
    || claims.any (fun a => s.fab.claims.any (fun b => b.who != .gio k && claimsMeet a b))
  if bad then
    let s := s.setReg (GIO_CFG k) (GIO_CFG_MODE.put new 0)
    let s := s.setClaims (.gio k) []
    (s.setGio k {}).raiseReg 0x0304 k 0 (GIO_CFG k)
  else
    let s := s.setReg (GIO_CFG k) new
    let s := s.setClaims (.gio k) claims
    if gioMode new = 0 then s.setGio k {} else s

/-- The group length in fabric cycles. -/
def gioGroup (v : Data) : Nat := 4 * 2 ^ GIO_CFG_RATE.get v

/-- A pin over an edge: groups in and out (R125). `oe` is whether a direction field enables the pin; `levels` the pin's levels in the
cycle that ends at this edge. -/
def State.gioEdge (s : State) (k : Nat) (levels : List Bool) (oe : Bool) : State :=
  let v := s.reg (GIO_CFG k)
  let m := gioMode v
  if m = 0 ∨ !s.pins.cfgDone then s
  else
    let g := s.gioAt k
    let t := s.time.fck
    let inv := GIO_CFG_INVERT.on v
    let boundary := t % gioGroup v = 0
    let bad := s.fab.gioOff.contains k
    let on := oe && !bad
    let canOut := decide (m = 2 ∨ m = 3 ∨ m = 5)
    -- a pin with an output that no direction field enables keeps its pull-down on (R124), and so does one whose field is bad (R81)
    let pulled := GIO_CFG_PULL.on v || bad || (canOut && !oe)
    -- output
    let word := (s.chanDown k 62 0).toNat
    let sent := g.outQ.filter (fun e => decide (e.1 ≤ t))
    let outQ := g.outQ.filter (fun e => !decide (e.1 ≤ t))
    let (grp, drv) := match sent.getLast? with
      | some e => (e.2.1, e.2.2)
      | none => (g.outGroup, g.driving)
    let outQ := if boundary ∧ canOut ∧ on then
        outQ ++ [(t + 4, (if inv then ~~~(BitVec.ofNat 8 word) else BitVec.ofNat 8 word), !GIO_CFG_DYN_OE.on v || natBit word 9)]
      else outQ
    let driving := drv && on && canOut
    -- input: the pin's own level where it is driven
    let bitNo := (t + gioGroup v - 4) % gioGroup v * 8 / gioGroup v
    let lv := if driving then (if gioGroup v = 4 then [natBit grp.toNat bitNo, natBit grp.toNat (bitNo + 1)] else [natBit grp.toNat bitNo])
      else if levels.isEmpty then (if pulled then [false] else toBits 2 (Config.freeValue 2 s.freeCtr).toNat)
      else levels
    let per := 8 / gioGroup v
    let taken := if per ≥ 1 then (List.replicate per false).zipIdx.map (fun e => lv.getD (e.2 * lv.length / per) false)
      else if t % (gioGroup v / 8) = 0 then [lv.getLastD false] else []
    let acc := g.inAcc ++ taken.map (fun b => b != inv)
    let (acc, inQ) := if boundary then
        (([] : List Bool), if acc.length ≥ 8 then g.inQ ++ [(t + 5, BitVec.ofNat 8 (ofBits (acc.drop (acc.length - 8))))] else g.inQ)
      else (acc, g.inQ)
    let fresh := inQ.find? (fun e => e.1 == t)
    let inWord := match fresh with
      | some e => e.2
      | none => g.inWord
    let s := s.setGio k { g with inAcc := acc, inQ := inQ.filter (fun e => e.1 != t), inWord := inWord, outQ := outQ, outGroup := grp,
                                 driving := driving, level := lv.getLastD false }
    let s := if levels.isEmpty then s.spend 1 else s
    if gioIn v then s.drive k 63 0 6 (if bad then 0 else BitVec.ofNat 32 (inWord.toNat + 256 * bit01 fresh.isSome)) else s

/-- Whether a direction field enables a pin: the field that erg k of F-A or of F-B copied into the pad ring is pin output (R80, R124). -/
def State.gioOe (s : State) (k : Nat) : Bool := natBits (s.padDir k).field.toNat 0 2 == 1 && !dirBad (s.padDir k).field.toNat

/-! ### Quiet (R498, R499) -/

def State.setPwr (s : State) (p : PwrSt) : State := { s with pwr := p }

/-- Quiet entered: the transmitters that players feed go to IDLE; those that the fabric feeds do so at the next edge (R498). -/
def State.enterQuiet (s : State) : State :=
  let l := (List.range 48).filter (fun n => s.txState n == txRun && s.cfgOf n LANE_CFG_TX_SRC == 1)
  let s := l.foldl (fun s n => s.setTx n txIdle) s
  (s.setPwr { s.pwr with st := .quiet, quietTx := l }).setFlds PWR_STATUS [(PWR_STATUS_STATE, 1), (PWR_STATUS_LAST, 1)]

/-- Quiet left for Active: the transmitters it idled are back in RUN (R498, R499). -/
def State.leaveQuiet (s : State) : State :=
  if s.pwr.st = .quiet then
    let l := s.pwr.quietTx.filter (fun n => s.txState n == txIdle)
    (l.foldl (fun s n => s.txRunNow n) (s.setPwr { s.pwr with st := .active, quietTx := [] })).setFld PWR_STATUS PWR_STATUS_STATE 0
  else s

end Sys2Proof.Machine
end

