-- ==== Sys2Proof/Machine/Queue.lean ====
section
/-!
DEFINITION. The rings, from doorbell to confirmed completion (chapters 15 and 16).
-/
namespace Sys2Proof.Machine

/-! ### Doorbells and acceptance -/

/-- What a doorbell meets (R398, R410): ignored in OFF or ERROR, recorded in CHECKING, HELD or DEPARTING, not seen in DEPARTED or where the
host does not reach the device, acted on otherwise. -/
def State.doorbell (s : State) (r : Nat) (record act : State → State) : State :=
  let st := s.ringState r
  if s.qif = 4 ∨ !s.hostReaches then s
  else if st = ringOff ∨ st = ringError then s.doorbellIgnored r 3
  else if st = ringChecking ∨ st = ringHeld ∨ s.qif = 3 then record s
  else act s

/-- SQ_TAIL (R397 to R399, R410). `failAt` is the entry fetch that fails, if one does. -/
def execSqTail (r : RingNo) (tail : Data) (hw : HostWrites) (failAt : Option Nat) (s : State) : Host.Outcome State Fault Refusal :=
  done ((s.hostOwn hw).doorbell r (fun s => s.setRing r { s.ring r with recTail := some tail.toNat })
    (fun s => s.actTail r tail.toNat failAt))

/-- CQ_HEAD (R397, R398, R410); room in the completion ring lets acceptance go on (R399). -/
def execCqHead (r : RingNo) (head : Data) (s : State) : Host.Outcome State Fault Refusal :=
  done (s.doorbell r (fun s => s.setRing r { s.ring r with recHead := some head.toNat }) (fun s => s.actHead r head.toNat))

/-- ACCEPT_RESUME (R399). -/
def execAcceptResume (r : RingNo) (hw : HostWrites) (failAt : Option Nat) (s : State) : Host.Outcome State Fault Refusal :=
  done ((s.hostOwn hw).acceptRing r failAt)

/-- The first spilled item of a ring moved to its descriptor queue (R420). -/
def State.unspill (s : State) (r : Nat) (it : Item) : State :=
  let q := s.ring r
  s.setRing r { q with queue := q.queue ++ [{ it with spillBad := false }], spilled := q.spilled.drop 1 }

/-- SPILL_RETURN (R420). The copy is read under requester 22; where it fails (`copyBad`, or the read's own status) the item is read
again from the submission ring. A fetch that fails leaves the item where it is. -/
def execSpillReturn (r : RingNo) (copyBad : Bool) (failAt : Option Nat) (s : State) : Host.Outcome State Fault Refusal :=
  let q := s.ring r
  match q.spilled with
  | [] => done s
  | it :: _ =>
    if q.queue.length < queueDepth then
      let a := s.spillGet r it.wsn
      let b := if it.ext.isSome then a.1.spillGet r (it.wsn + 1) else (a.1, 0, 0)
      let s := b.1
      if !it.spillBad ∧ (a.2.1 = memWait ∨ b.2.1 = memWait) then done s
      else if !it.spillBad ∧ !copyBad ∧ a.2.1 = 0 ∧ b.2.1 = 0 then
        done (s.unspill r { it with desc := a.2.2, ext := it.ext.map (fun _ => b.2.2) })
      else if failAt.isSome ∨ !s.host.linkUp ∨ !s.host.present then done s
      else
        let d := s.entryAt r it.wsn
        let ext := if it.ext.isSome then some (s.entryAt r (it.wsn + 1)) else none
        done ((s.unspill r { it with desc := d, ext := ext, verified := false }).satFld SCH_CNT_SPILL SCH_CNT_SPILL_REFETCHED 1)
    else done s

/-! ### Tags and verification -/

/-- Whether an item's sandglass list has no room: the tagged items of the list that wait for their slots have theirs (R196, R197). -/
def State.sglFull (s : State) (it : Item) : Bool :=
  let owed := ((List.range 16).map (fun k => ((s.slotKey k).waiting.filter (fun x => x.sgl && x.sglList == it.sglList)).length)).sum
  it.sgl && decide ((s.sglHeld it.sglList).length + owed ≥ 4096)

/-- The item at the head of a queue given a tag and sent on; `drop` takes it from the queue, `keep` puts it back changed. An authenticated one
is verified as it gets its tag, and so waits while the security controller stands still (R472, R525). -/
def State.tagHead (s : State) (it : Item) (drop : State → State) (keep : Item → State → State) : State :=
  if it.auth ∧ !it.verified ∧ it.settled.isNone ∧ s.execStill keySecurity then s
  else if s.sglFull it ∧ it.settled.isNone then keep (s.sglReach it) s
  else match s.freeTag it.cls with
    | some t => ((drop s).takeTag t).tagged { it with tag := t }
    | none => s

/-- TAG_ASSIGN (R422, R423): from the class-0 queue (`none`) or a ring's descriptor queue. A class-0 item at the head of its ring's
queue moves to the class-0 queue instead, when that has room. -/
def execTagAssign (src : Option RingNo) (s : State) : Host.Outcome State Fault Refusal :=
  match src with
  | none =>
    match s.sched.c0 with
    | [] => done s
    | it :: rest =>
      done (s.tagHead it (fun s => { s with sched := { s.sched with c0 := rest } })
        (fun it s => { s with sched := { s.sched with c0 := it :: rest } }))
  | some r =>
    let q := s.ring r
    match q.queue with
    | [] => done s
    | it :: rest =>
      if it.cls = 0 then
        if s.sched.c0.length < c0Depth then
          let s := s.setRing r { q with queue := rest }
          done { s with sched := { s.sched with c0 := s.sched.c0 ++ [it] } }
        else done s
      else
        done (s.tagHead it (fun s => s.setRing r { s.ring r with queue := rest })
          (fun it s => s.setRing r { s.ring r with queue := it :: rest }))

/-- The items of a slot that waited, verified in order until one waits again (R472, R474). -/
def State.verifyAll (s : State) (k : Nat) : List Item → State
  | [] => s
  | it :: rest =>
    let t := s.verifyItem it
    if (t.slotKey k).waiting.isEmpty then t.verifyAll k rest
    else t.setSlotKey k { t.slotKey k with waiting := (t.slotKey k).waiting ++ rest }

/-- The ceiling above a counter (R474). -/
def ceilingAbove (c : Nat) : Nat := min ((c / 4096 + 1) * 4096) 0xFFFFFFFF

/-- COUNTER_CEILING_WRITE (R474). `ok` is whether the store write succeeded. A halted security controller takes nothing up (R525). -/
def execCounterCeilingWrite (slot : SlotNo) (ok : Bool) (s : State) : Host.Outcome State Fault Refusal :=
  let k := s.slotKey slot
  match k.waiting with
  | [] => done s
  | it :: rest =>
    if s.execStill keySecurity then done s
    else if ok then
      let s := s.setSlotKey slot { k with ceiling := ceilingAbove it.counter, waiting := [] }
      done (s.verifyAll slot (it :: rest))
    else
      let s := s.setSlotKey slot { k with waiting := [] }
      let s := s.toReorder it { status := stRefused, detail := 11 }
      done (s.verifyAll slot rest)

/-! ### Release from lists, dispatch, journal, finish -/

/-- One held item moved to the ready stage, late or not (R196, R197). -/
def State.sglMove (s : State) (l boundary : Nat) (it : Item) : State :=
  let late := decide (s.sglDue it < boundary)
  let s := s.toReady { it with late := it.late || late }
  let s := s.wrapFld (SCH_SGL_STATUS l) SCH_SGL_STATUS_RELEASED 1
  if late then s.satFld (SCH_SGL_STATUS l) SCH_SGL_STATUS_LATE 1 else s

/-- Whether a held item goes at a boundary: at or after its release time, its insertion and the last move of device time (R195 to R197). -/
def Item.releasedAt (it : Item) (boundary : Nat) : Bool := decide (it.rel ≤ boundary) && decide (it.since ≤ boundary)

/-- SANDGLASS_RELEASE (R195 to R197). -/
def execSandglassRelease (l : ListNo) (s : State) : Host.Outcome State Fault Refusal :=
  if s.fldOn (SCH_SGL_CFG l) SCH_SGL_CFG_EN ∧ s.workRuns ∧ s.clk.rootRun then
    let boundary := s.nowNs / s.sglTick l * s.sglTick l
    let held := s.sglHeld l
    let due := held.filter (fun it => it.releasedAt boundary)
    let s := s.setSgl l (held.filter (fun it => !it.releasedAt boundary))
    done (due.foldl (fun s it => s.sglMove l boundary it) s)
  else done s

/-- A ready item taken out of the ready stage. -/
def State.unready (s : State) (it : Item) : State :=
  { s with sched := { s.sched with ready := s.sched.ready.filter (fun x => x.readyNo != it.readyNo) } }

/-- Quiet is left for Active on a dispatch to a task port or a player (R499). -/
def State.leaveQuietFor (s : State) (k : Nat) : State :=
  if (16 ≤ k ∧ k < 64) ∨ (90 ≤ k ∧ k < 218) then s.leaveQuiet else s

/-- The switch item of a move dispatched to erg j's port (R425). -/
def State.dispatchMove (s : State) (k i : Nat) : State :=
  let t := s.thm.ergs.get (fun _ => {}) i
  let s := { s with thm := { s.thm with ergs := s.thm.ergs.set (fun _ => {}) i { t with moved := true } } }
  let e := s.exec? k
  let ctx := s.fld (FAB_ERG_CTX i) FAB_ERG_CTX_ACTIVE
  (s.setExec k { e with queue := e.queue ++ [switchItem (k - 90) ctx] }).takeNext k

/-- ITEM_DISPATCH (R416, R424, R425). An item of an executor that is not enabled ends with unit off, a PLAY of a player in OFF with lane not
ready, unless it is performed again (R188, R424, R436: DEDUCED, log entry 136). -/
def execItemDispatch (ex : Executor) (s : State) : Host.Outcome State Fault Refusal :=
  let k := execKey ex
  if s.workRuns ∧ s.qif ≠ 1 ∧ s.qif ≠ 3 ∧ s.qif ≠ 4 ∧ (s.exec? k).queue.length < execDepth k then
    match s.moveDue k with
    | some i => done (s.dispatchMove k i)
    | none =>
    match firstItem (s.sched.ready.filter (s.readyFor k)) with
    | none => done s
    | some it =>
      let s := (s.unready it).leaveQuietFor k
      if s.execEnabled k then
        let e := s.exec? k
        done ((s.setExec k { e with queue := e.queue ++ [it] }).takeNext k)
      else done (s.toReorder { it with resumed := false } { status := if it.opc = opPlay ∧ !it.resumed then stLaneNotReady else stUnitOff })
  else done s

/-- JOURNAL_READ_COMPLETE (R400, R433 step 1). While the link is down the read is held and does not end (R410). -/
def execJournalReadComplete (ex : Executor) (res : HostRead) (s : State) : Host.Outcome State Fault Refusal :=
  let k := execKey ex
  match s.cur k with
  | some c =>
    if c.phase = .reading ∧ c.result = none ∧ s.host.linkUp then
      if res = .ok then done (s.setCur k (some { c with phase := .effective }))
      else done (s.setCur k (some { c with result := some { status := stHostError } }))
    else done s
  | none => done s


/-- A CANCEL that waits for an item learns its status (R407). -/
def State.noteCancel (s : State) (it : Item) (r : Result) : State :=
  match s.cur keyScheduler with
  | some c =>
    if c.item.opc = opCancel ∧ c.step = 1 ∧ c.item.num 16 2 = it.ring ∧ c.item.num 24 8 = it.wsn then
      s.setCur keyScheduler (some { c with step := 2 + r.status })
    else s
  | none => s

/-- The executor's finished item sent to the reorder store, its journal entry written finished, and the next item taken. -/
def State.itemFinish (s : State) (k : Nat) : State :=
  match s.cur k with
  | some c =>
    match c.result with
    | some r =>
      if c.item.isOwn then (s.setCur k none).takeNext k else
      let s := match journalEntry k with
        | some e =>
          let j := s.jentry e
          if j.state = 1 ∧ j.wsn = c.item.wsn ∧ j.ring = c.item.ring then
            s.journalPut e { j with state := 2, body := BitVec.ofNat 384 (finishBody c.item r) }
          else s
        | none => s
      (((s.toReorder c.item r).noteCancel c.item r).setCur k none).takeNext k
    | none => s
  | none => s

/-- ITEM_FINISH (R418, R433 step 3): the executor's item goes to the reorder store, its journal entry is written finished, and the
executor takes its next item. -/
def execItemFinish (ex : Executor) (s : State) : Host.Outcome State Fault Refusal := done (s.itemFinish (execKey ex))

/-! ### Release and confirmation -/

/-- The completion that stands first on a ring written, when it may be released. -/
def State.releaseFirst (s : State) (r : Nat) : State :=
  match (s.ring r).order with
  | [] => s
  | (w, n) :: _ =>
    match s.finishedOf r w with
    | some f => if s.releasable r f ∧ s.qif ≠ 4 ∧ s.ringState r ≠ ringHeld ∧ s.host.present then s.writeCompletion r n f else s
    | none => s

/-- COMPLETION_RELEASE (R405, R426). -/
def execCompletionRelease (r : RingNo) (s : State) : Host.Outcome State Fault Refusal := done (s.releaseFirst r)

/-- COMPLETION_CONFIRM (R426): the oldest unconfirmed completion of the ring is confirmed. The read is held while the link is
down (R410). -/
def execCompletionConfirm (r : RingNo) (s : State) : Host.Outcome State Fault Refusal :=
  let q := s.ring r
  match q.confirming with
  | [] => done s
  | t :: rest =>
    if s.host.linkUp ∧ s.host.present then
      let w := match s.reorderAt t with
        | some f => f.item.wsn + f.item.entries
        | none => q.confirmed
      let s := s.setRing r { q with confirming := rest, confirmed := w }
      done (((s.setReorder t none).dropTag t).retainRing r)
    else done s

/-- MODERATION_EXPIRY (R408). -/
def execModerationExpiry (r : RingNo) (s : State) : Host.Outcome State Fault Refusal :=
  let q := s.ring r
  if q.modRun then
    if q.modPend then done ((s.setRing r { q with modPend := false }).signal q.vector)
    else done (s.setRing r { q with modRun := false })
  else done s

/-! ### Enabling and disabling a ring -/

/-- A write of QIF.RING[r].CB that enables the ring (R394, R395, R414). -/
def State.ringEnable (s : State) (r : Nat) (data : Data) : State :=
  let addr := QIF_RING_CB_ADDR.get data
  if s.ringState r = ringOff then
    let s := s.setFld (QIF_RING_CB r) QIF_RING_CB_ADDR addr
    if s.fldOn QIF_JOURNAL QIF_JOURNAL_VALID then
      let s := s.setFld (QIF_RING_CB r) QIF_RING_CB_EN 1
      let s := s.setFlds (QIF_RING_STATUS r) [(QIF_RING_STATUS_STATE, ringChecking), (QIF_RING_STATUS_REASON, 0)]
      s.setRing r { s.ring r with cbRead := true }
    else s.setFld (QIF_RING_STATUS r) QIF_RING_STATUS_REASON 6
  else if addr ≠ s.fld (QIF_RING_CB r) QIF_RING_CB_ADDR then s.qifRefused
  else s

/-- RING_ENABLE (R394, R395, R410, R414). -/
def execRingEnable (r : RingNo) (data : Data) (hw : HostWrites) (s : State) : Host.Outcome State Fault Refusal :=
  done ((s.hostOwn hw).regWrite (QIF_RING_CB r) data (fun s => s.ringEnable r data))

def journalMagic := 0x504A5859
def ringMagic := 0x4C524255

/-- The page header's fields: MAGIC, VERSION, OWNER and GEN (R431). -/
def State.pageMagic (s : State) : Nat := s.hostNum s.pageAddr 4
def State.pageVersion (s : State) : Nat := s.hostNum (s.pageAddr + 4) 2
def State.pageOwner (s : State) : Nat := s.hostNum (s.pageAddr + 8) 8
def State.pageGen (s : State) : Nat := s.hostNum (s.pageAddr + 16) 8

/-- Whether the page is unusable (R431). -/
def State.pageBad (s : State) : Bool :=
  let m := s.pageMagic
  (m != 0 && m != journalMagic) || (m == journalMagic && s.pageVersion != 1)

/-- The page header written anew (R431), or its OWNER and GEN + 1 (R434 step 5). -/
def State.pageHeader (s : State) : State :=
  if s.pageMagic = journalMagic then
    let g := s.pageGen
    (s.hostWrite (s.pageAddr + 8) (toBytes 8 s.serialLo)).hostWrite (s.pageAddr + 16) (toBytes 8 ((g + 1) % 2 ^ 64))
  else
    s.hostWrite s.pageAddr (toBytes 4 journalMagic ++ toBytes 2 1 ++ toBytes 2 192 ++ toBytes 8 s.serialLo ++ toBytes 48 0)

/-- An entry of the page read (R432). -/
def State.pageEntry (s : State) (e : Nat) : JEntry := jentryOf (s.hostBytes (s.pageAddr + 64 * e) 64)

/-- An entry whose WSN lies outside its ring's range from DONE to ACCEPT − 1 is freed (R431, R436). -/
def State.freeStale (s : State) (e : Nat) : State :=
  let j := s.jentry e
  let q := s.ring j.ring
  if j.state ≠ 0 ∧ !(q.done ≤ j.wsn ∧ j.wsn < q.accept) then s.journalPut e { j with state := 0 } else s

/-- The journal page taken into use as the first ring enters RUN (R431): a page of the format is taken as it stands and its stale entries are
freed; on a zero page the header is written. -/
def State.pageOpen (s : State) : State :=
  if s.pageMagic = journalMagic then
    let ents := (List.range 181).foldl (fun m k => m.set (fun _ => {}) (k + 1) (s.pageEntry (k + 1))) ({} : SMap JEntry)
    let s := { s with jr := { s.jr with valid := true, entries := ents } }
    (List.range 181).foldl (fun s k => s.freeStale (k + 1)) s.pageHeader
  else ({ s with jr := { s.jr with valid := true, entries := {} } }).pageHeader

/-- A ring enters RUN: the first one takes the journal page into use (R431), the queue interface runs, and the recorded doorbells
are acted on (R395, R410). The first is one that finds no other ring running, stopping, HELD or in ERROR; with a ring HELD, the page and the
queue interface wait for its reconciliation (R434; DEDUCED, log entry 149). -/
def State.ringToRun (s : State) (r : Nat) : State :=
  let first := (s.ringsWhere (fun x => x != ringOff && x != ringChecking)).isEmpty
  let held := !(s.ringsWhere (fun x => x == ringHeld)).isEmpty
  let s := s.setRingState r ringRun
  let s := s.cbWrite r 88 s.serialLo
  let s := if first then s.pageOpen else s
  let s := if s.qif = 0 ∧ !held then s.setFld QIF_STATUS QIF_STATUS_STATE 2 else s
  (s.retainRing r).actRecorded r

/-- The control block read and cached (R393). -/
def State.cbCache (s : State) (r : Nat) : State :=
  let a := s.cbAddr r
  let q := s.ring r
  s.setRing r { q with sqBase := s.hostNum (a + 8) 8, sqLog2 := s.hostNum (a + 16) 1, cqLog2 := s.hostNum (a + 17) 1,
                       vector := s.hostNum (a + 18) 2, modUs := s.hostNum (a + 20) 2, cqBase := s.hostNum (a + 24) 8,
                       accept := s.hostNum (a + 64) 8, done := s.hostNum (a + 72) 8, cqCount := s.hostNum (a + 80) 8, cbRead := false }

/-- The REASON a control block fails its check with (R395, R414); 0 when it passes. -/
def State.cbFault (s : State) (r : Nat) : Nat :=
  let a := s.cbAddr r
  let q := s.ring r
  if s.hostNum a 4 ≠ ringMagic ∨ s.hostNum (a + 4) 2 ≠ 1 then 1
  else if q.sqLog2 < 4 ∨ 16 < q.sqLog2 ∨ q.cqLog2 < 4 ∨ 16 < q.cqLog2 then 2
  else if q.sqBase % 4096 ≠ 0 ∨ q.cqBase % 4096 ≠ 0 then 3
  else if 511 < q.vector then 5
  else 0

/-- CONTROL_BLOCK_CHECK (R395, R431, R434, R436): a ring that has been accepted on enters HELD and waits for its reconciliation. -/
def execControlBlockCheck (r : RingNo) (res : HostRead) (s : State) : Host.Outcome State Fault Refusal :=
  if s.ringState r = ringChecking ∧ s.host.linkUp then
    if res ≠ .ok then done (s.ringToError r 4)
    else
      let s := s.cbCache r
      let f := s.cbFault r
      if f ≠ 0 then done (s.ringToError r f)
      else
        let q := s.ring r
        let s := s.setRing r { q with lastTail := q.accept, unBase := q.cqCount, confirmed := q.done }
        if q.accept = 0 then
          if s.pageBad then done (s.ringToError r 6) else done (s.ringToRun r)
        else done (((s.setRing r { s.ring r with adopted := true }).setRingState r ringHeld).needRecon)
  else done s

/-- A write of QIF.RING[r].CB with EN 0 (R395, R414): a ring with nothing accepted and uncompleted is OFF at once. A ring that is HELD is
reconciled first, and then goes on stopping. -/
def State.ringDisable (s : State) (r : Nat) (data : Data) : State :=
  let addr := QIF_RING_CB_ADDR.get data
  if s.ringState r = ringOff then s.setFlds (QIF_RING_CB r) [(QIF_RING_CB_ADDR, addr), (QIF_RING_CB_EN, 0)]
  else if addr ≠ s.fld (QIF_RING_CB r) QIF_RING_CB_ADDR then s.qifRefused
  else
    let s := s.setFld (QIF_RING_CB r) QIF_RING_CB_EN 0
    if s.ringState r = ringHeld then s else (s.setRingState r ringStopping).stopIfDone r

/-- RING_DISABLE (R395, R410, R414). -/
def execRingDisable (r : RingNo) (data : Data) (s : State) : Host.Outcome State Fault Refusal :=
  done (s.regWrite (QIF_RING_CB r) data (fun s => s.ringDisable r data))

/-- A write of QIF.JOURNAL (R413). -/
def State.journalRegWrite (s : State) (data : Data) : State := if s.allRingsOff then s.writeReg QIF_JOURNAL data else s.qifRefused

/-- JOURNAL_REGISTER_WRITE (R413). -/
def execJournalRegisterWrite (data : Data) (s : State) : Host.Outcome State Fault Refusal :=
  done (s.regWrite QIF_JOURNAL data (fun s => s.journalRegWrite data))

end Sys2Proof.Machine
end

