-- ==== Sys2Proof/Machine/Drift.lean ====
section
/-!
DEFINITION. Key commands and the drift (chapter 11, with the operands of R476 and R477).
-/
namespace Sys2Proof.Machine

/-! ### Key material (R476) -/

/-- What delivers a key: refused with a reason, a host access that failed, or the 48 bytes. -/
inductive KeyIn where
  | refused (reason : Nat)
  | hostError
  | waits
  | key (k : BitVec 384)
deriving DecidableEq, Repr

/-- The key of a command: generated by the security controller (a free value), or unwrapped from the key block in host memory. -/
def State.keyIn (s : State) (gen : Bool) (addr : Nat) (hostFail : Bool) : KeyIn :=
  if gen then .key (Config.freeValue 384 s.freeCtr)
  else if hostFail ∨ !s.mayIssue then .hostError
  else if !s.host.linkUp then .waits
  else match unwrapKey s.fuses.serial (s.hostBytes addr 164) with
    | some k => .key k
    | none => .refused 8

/-- The same for a domain key: its first 32 bytes, the rest of a delivered block being zero, and hk not zero (R306, R309, R476). -/
def State.domKeyIn (s : State) (gen : Bool) (addr : Nat) (hostFail : Bool) : KeyIn :=
  match s.keyIn gen addr hostFail with
  | .key k =>
    if !gen ∧ k.toNat / 2 ^ 256 ≠ 0 then .refused 8
    else if hashKey (BitVec.ofNat 256 k.toNat) = 0 then .refused 4
    else .key (BitVec.ofNat 384 (k.toNat % 2 ^ 256))
  | x => x

/-! ### Refusals -/

/-- A command refused on an executor: status command refused with its reason (R406, R477). -/
def State.cmdRefused (s : State) (k reason : Nat) : State := s.finish k { status := stRefused, detail := reason }

/-- A key command refused: the reasons 1 to 7 of R306 show in CRY.CMD_STATUS too. -/
def State.keyRefused (s : State) (k reason : Nat) : State :=
  let s := if reason ≤ 7 then s.setFlds CRY_CMD_STATUS [(CRY_CMD_STATUS_REFUSED, 1), (CRY_CMD_STATUS_REASON, reason)] else s
  s.cmdRefused k reason

/-- Whether attestation has failed since power-on reset (R469). -/
def State.attestFailed (s : State) : Bool := s.fldOn SEC_STATUS SEC_STATUS_ATTEST_DONE && s.fld SEC_STATUS SEC_STATUS_ATTEST != 0x7F

/-- The KEY item with an OP that the security controller performs, when neither attestation nor its slot refuses it (R469, R477):
refused state, or the item. -/
def State.keyItem (s : State) (op : Nat) : Sum State Item :=
  match s.curOp keySecurity opKey with
  | none => .inl s
  | some c =>
    if c.item.num 16 1 ≠ op then .inl s
    else if s.attestFailed then .inl (s.keyRefused keySecurity 11)
    else if c.item.slot ≠ 0 then .inl (s.keyRefused keySecurity 9)
    else .inr c.item

/-! ### Domains (R304, R306) -/

def domBase (v : Data) : Nat := CRY_DOM_CFG_BASE.get v
def domSize (v : Data) : Nat := CRY_DOM_CFG_SIZE.get v
def domValid (v : Data) : Bool := CRY_DOM_CFG_VALID.on v
/-- A strict window's range in bytes: base and length. -/
def strictRange (v : Data) : Nat × Nat := (CRY_STRICT_CFG_BASE.get v * 65536, CRY_STRICT_CFG_SIZE.get v * 65536)
def strictValid (v : Data) : Bool := CRY_STRICT_CFG_VALID.on v

/-- The valid strict windows that lie in a domain as it stands. -/
def State.strictIn (s : State) (d : Nat) : List Nat :=
  let v := s.reg (CRY_DOM_CFG d)
  (List.range 8).filter (fun t =>
    let w := s.reg (CRY_STRICT_CFG t)
    domValid v && strictValid w && decide (domBase v * 2 ^ 20 ≤ (strictRange w).1)
      && decide ((strictRange w).1 + (strictRange w).2 ≤ (domBase v + domSize v) * 2 ^ 20))

/-- The first reason that refuses a domain's new configuration: `epoch` is the new epoch where a new key comes with it. The reasons are
tried in increasing number, those of the key itself last (DEDUCED, log entry 40). -/
def State.domFault (s : State) (d : Nat) (new : Data) (epoch : Option Nat) : Option Nat :=
  let old := s.reg (CRY_DOM_CFG d)
  let moved := domValid old != domValid new || domBase old != domBase new || domSize old != domSize new
  if domValid new ∧ (domSize new = 0 ∨ 2 ^ 21 < domBase new + domSize new ∨ (List.range 16).any (fun x =>
      let v := s.reg (CRY_DOM_CFG x)
      x != d && domValid v && rangesMeet (domBase new) (domSize new) (domBase v) (domSize v))) then some 1
  else if s.drifting d ∧ (moved ∨ epoch.isSome) then some 2
  else if epoch.any (fun e => e == 0 || (s.fldOn (CRY_DOM_KEY d) CRY_DOM_KEY_KEY_VALID && e == s.domEpoch d)) then some 3
  else if domValid new ∧ epoch.isNone ∧ !s.fldOn (CRY_DOM_KEY d) CRY_DOM_KEY_KEY_VALID then some 4
  else if domValid new ∧ (s.strictIn d).any (fun t =>
      let r := strictRange (s.reg (CRY_STRICT_CFG t))
      decide (r.1 < domBase new * 2 ^ 20) || decide ((domBase new + domSize new) * 2 ^ 20 < r.1 + r.2)) then some 5
  else if !domValid new ∧ !(s.strictIn d).isEmpty then some 7
  else none

/-- The bits of a register that a key command writes (R306, R325, R326). -/
def rwaWrite (off : Nat) (old data : Data) : Data :=
  match regInfo off with
  | some r => maskWrite old data r.rwa
  | none => old

/-- KEY_DOMAIN (R306, R477). -/
def execKeyDomain (hostFail : Bool) (s : State) : Host.Outcome State Fault Refusal :=
  match s.keyItem 1 with
  | .inl t => done t
  | .inr it =>
    let d := it.num 17 1
    let new := rwaWrite (CRY_DOM_CFG d) (s.reg (CRY_DOM_CFG d)) (BitVec.ofNat 64 (it.num 32 8))
    let newKey := natBit (it.num 19 1) 0
    let gen := natBit (it.num 19 1) 1
    match s.domFault d new (if newKey then some (it.num 18 1) else none) with
    | some r => done (s.keyRefused keySecurity r)
    | none =>
      let put := fun (s : State) =>
        (((s.setReg (CRY_DOM_CFG d) new).setReg (CRY_DOM_RIGHTS d 0) (BitVec.ofNat 64 (it.num 40 8))).setReg (CRY_DOM_RIGHTS d 1)
          (BitVec.ofNat 64 (it.num 48 8))).finishSt keySecurity stSuccess
      if newKey then
        match s.domKeyIn gen (it.num 24 8) hostFail with
        | .refused r => done (s.keyRefused keySecurity r)
        | .hostError => done (s.finishSt keySecurity stHostError)
        | .waits => done s
        | .key k => done (put ((s.spend 1).installKey d (BitVec.ofNat 256 k.toNat) (it.num 18 1)))
      else done (put s)

/-- KEY_STRICT_WINDOW (R305, R306). -/
def execKeyStrictWindow (s : State) : Host.Outcome State Fault Refusal :=
  match s.keyItem 2 with
  | .inl t => done t
  | .inr it =>
    let t := it.num 17 1
    let new := rwaWrite (CRY_STRICT_CFG t) (s.reg (CRY_STRICT_CFG t)) (BitVec.ofNat 64 (it.num 32 8))
    let r := strictRange new
    let inside := (List.range 16).any (fun d =>
      let v := s.reg (CRY_DOM_CFG d)
      domValid v && decide (domBase v * 2 ^ 20 ≤ r.1) && decide (r.1 + r.2 ≤ (domBase v + domSize v) * 2 ^ 20))
    let meets := (List.range 8).any (fun x =>
      let w := s.reg (CRY_STRICT_CFG x)
      x != t && strictValid w && rangesMeet r.1 r.2 (strictRange w).1 (strictRange w).2)
    if strictValid new ∧ (!inside ∨ meets) then done (s.keyRefused keySecurity 5)
    else done ((s.setReg (CRY_STRICT_CFG t) new).finishSt keySecurity stSuccess)

/-- KEY_OASIS_RIGHTS (R302, R306). -/
def execKeyOasisRights (s : State) : Host.Outcome State Fault Refusal :=
  match s.keyItem 3 with
  | .inl t => done t
  | .inr it =>
    done (((s.setReg (CRY_OAS_RIGHTS 0) (BitVec.ofNat 64 (it.num 40 8))).setReg (CRY_OAS_RIGHTS 1) (BitVec.ofNat 64 (it.num 48 8))).finishSt
      keySecurity stSuccess)

/-- A key installed in a slot: counter zero, ceiling 4,096, not exhausted (R475). -/
def State.installSlot (s : State) (k : Nat) (key : BitVec 384) : State :=
  let s := s.setFlds (SEC_SLOT k) [(SEC_SLOT_STATE, slotActive), (SEC_SLOT_LAST, 0)]
  s.setSlotKey k { s.slotKey k with key := key, by_ := none, ceiling := 4096 }

/-- A slot erased: EMPTY, its key gone (R466, R477). -/
def State.eraseSlot (s : State) (k : Nat) : State :=
  (s.setFld (SEC_SLOT k) SEC_SLOT_STATE slotEmpty).setSlotKey k { s.slotKey k with key := 0, by_ := none }

/-- KEY_SLOT_KEY (R475, R477). -/
def execKeySlotKey (hostFail : Bool) (s : State) : Host.Outcome State Fault Refusal :=
  match s.keyItem 4 with
  | .inl t => done t
  | .inr it =>
    match s.keyIn (natBit (it.num 19 1) 1) (it.num 24 8) hostFail with
    | .refused r => done (s.keyRefused keySecurity r)
    | .hostError => done (s.finishSt keySecurity stHostError)
    | .waits => done s
    | .key k => done (((s.spend 1).installSlot (it.num 17 1) k).finishSt keySecurity stSuccess)

/-- KEY_SLOT_ERASE (R477). -/
def execKeySlotErase (s : State) : Host.Outcome State Fault Refusal :=
  match s.keyItem 5 with
  | .inl t => done t
  | .inr it => done ((s.eraseSlot (it.num 17 1)).finishSt keySecurity stSuccess)

/-! ### The drift (R315 to R323) -/

/-- A new key held for a domain under drift (R315, R325). -/
def State.holdNewKey (s : State) (d : Nat) (key : BitVec 256) (epoch : Nat) : State :=
  let s := { s with sec := { s.sec with newKeys := s.sec.newKeys.set (fun _ => 0) d key } }
  s.setFlds (CRY_DOM_KEY d) [(CRY_DOM_KEY_NEW_VALID, 1), (CRY_DOM_KEY_NEW_EPOCH, epoch), (CRY_DOM_KEY_NEW_KCV, keyCheckValue key)]

/-- A drift begun: B and C at BASE, whose record in the store it waits for (R316, R320; DEDUCED, log entry 41). -/
def State.driftBegin (s : State) (d rate : Nat) : State :=
  let line := domBase (s.reg (CRY_DOM_CFG d)) * 2 ^ 14
  let s := s.setFlds CRY_DRIFT_CTL ((CRY_DRIFT_CTL_DOMAIN, d) :: (if rate = 0 then [] else [(CRY_DRIFT_CTL_RATE, rate)]))
  let s := s.setFlds CRY_DRIFT_STATUS [(CRY_DRIFT_STATUS_SKIPPED, 0), (CRY_DRIFT_STATUS_STATE, 1)]
  let s := (s.setFld CRY_DRIFT_BOUNDARY CRY_DRIFT_BOUNDARY_LINE line).setFld CRY_DRIFT_CHECKPOINT CRY_DRIFT_CHECKPOINT_LINE line
  (s.setMem { s.mem with zone := false, ckpt := some false }).driftShow

/-- The SKIPPED count as a completion has it. -/
def State.driftResult (s : State) (st : Nat) : Result := { status := st, count := s.fld CRY_DRIFT_STATUS CRY_DRIFT_STATUS_SKIPPED }

/-- DRIFT_START (R306, R315). An item resumed after its drift has ended completes with it. -/
def execDriftStart (hostFail : Bool) (s : State) : Host.Outcome State Fault Refusal :=
  match s.curOp keyDrift opDriftStart with
  | none => done s
  | some c =>
    let it := c.item
    let d := it.num 16 1
    let e := it.num 17 1
    if c.step ≠ 0 then (if driftState s = 0 then done (s.finish keyDrift (s.driftResult stSuccess)) else done s)
    else if driftState s ≠ 0 ∨ !domValid (s.reg (CRY_DOM_CFG d)) then done (s.keyRefused keyDrift 6)
    else if e = 0 ∨ e = s.domEpoch d then done (s.keyRefused keyDrift 3)
    else match s.domKeyIn (natBit (it.num 18 1) 0) (it.num 24 8) hostFail with
      | .refused r => done (s.keyRefused keyDrift r)
      | .hostError => done (s.finishSt keyDrift stHostError)
      | .waits => done s
      | .key k =>
        let s := ((s.spend 1).holdNewKey d (BitVec.ofNat 256 k.toNat) e).driftBegin d (it.num 19 1)
        done (s.journalStep keyDrift 1 d)

/-- The drift's end: the new key is the only one (R319). -/
def State.driftEnd (s : State) : State :=
  let d := s.driftDom
  let s := s.installKey d (s.newKey d) (s.newEpoch d)
  let s := s.setFlds (CRY_DOM_KEY d) [(CRY_DOM_KEY_NEW_VALID, 0), (CRY_DOM_KEY_NEW_EPOCH, 0), (CRY_DOM_KEY_NEW_KCV, 0)]
  let s := { s with sec := { s.sec with newKeys := s.sec.newKeys.set (fun _ => 0) d 0 }, store := { s.store with checkpoint := none } }
  let s := s.setFld CRY_DRIFT_STATUS CRY_DRIFT_STATUS_STATE 0
  let s := (s.setMem { s.mem with zone := false, ckpt := none }).raiseReg 0x080C d 1 CRY_DRIFT_BOUNDARY
  match s.curOp keyDrift opDriftStart with
  | some _ => s.finish keyDrift (s.driftResult stSuccess)
  | none => s

/-- B moved past a line: a checkpoint at each multiple of 64 MiB from BASE, the end of the zone, the end of the drift. -/
def State.driftAdvance (s : State) : State :=
  let d := s.driftDom
  let v := s.reg (CRY_DOM_CFG d)
  let b := s.boundary + 64
  let s := s.setFld CRY_DRIFT_BOUNDARY CRY_DRIFT_BOUNDARY_LINE (b / 64)
  if (domBase v + domSize v) * 2 ^ 20 ≤ b then s.driftEnd
  else
    let s := if s.checkpoint + driftStep ≤ b then s.setMem { s.mem with zone := false } else s
    let s := if (b - domBase v * 2 ^ 20) % driftStep = 0 then s.setMem { s.mem with ckpt := some false } else s
    s.driftShow

/-- A line that cannot be carried over (R318). -/
def State.driftSkip (s : State) : State :=
  ((s.satFld CRY_DRIFT_STATUS CRY_DRIFT_STATUS_SKIPPED 1).raiseReg 0x080B s.driftDom 0 CRY_DRIFT_STATUS).driftAdvance

/-- A line written under the new key, a strict window's counter kept (R316). -/
def State.driftWrite (s : State) (p line d a : Nat) (l : DramLine) (plain : BitVec 512) : State :=
  let strict := (s.strictOf a).isSome
  let v := sealLine (s.newKey d) (a / 64) (if strict then l.epoch else s.newEpoch d) d strict plain
  (s.wrapFld (DRMC_CNT_WR p) DRMC_CNT_WR_LINES 1).setCtl p ((s.ctlAt p).putLine line v)

/-- The line at B as read, re-encrypted, left or skipped (R316, R318, R321). -/
def State.driftCarry (s : State) (p line : Nat) (fails : ReadErrs) : State :=
  let d := s.driftDom
  let a := s.boundary
  let strict := (s.strictOf a).isSome
  let s := ((s.dramActivate p line 23).cacheTouch p line).wrapFld (DRMC_CNT_RD p) DRMC_CNT_RD_LINES 1
  match s.dramReadLine p line 23 0 fails with
  | (s, none) => s.driftSkip
  | (s, some l) =>
    if l.blank then s.driftAdvance
    else if s.inZone a ∧ (openUnder [(s.newKey d, s.newEpoch d)] (a / 64) d strict l).isSome then s.driftAdvance
    else match openUnder [(s.domKey d, s.domEpoch d)] (a / 64) d strict l with
      | some plain => (s.driftWrite p line d a l plain).driftAdvance
      | none => s.driftSkip

/-- DRIFT_LINE (R316): the drift engine's own requests are not checked for rights. It waits for a controller that is not ready, and for a
channel out for retraining (R292). -/
def State.driftLine (s : State) (fails : ReadErrs) : State :=
  if (driftState s ≠ 1 ∧ driftState s ≠ 3) ∨ s.mem.ckpt.isSome then s
  else match s.winOf s.boundary with
    | none => s.driftSkip
    | some w =>
      let (p, line) := s.mapLine w s.boundary
      match s.checkController p with
      | (s, 0) =>
        let s := s.dramDrain p
        if s.lineWaits p line 23 then s else s.driftCarry p line fails
      | (s, 6) => s.driftSkip
      | (s, _) => s

/-- DRIFT_LINE (R316). -/
def execDriftLine (failReads : ReadErrs) (s : State) : Host.Outcome State Fault Refusal := done (s.driftLine failReads)

/-- The checkpoint recorded: C moves to B, and the record stands in the store (R320). -/
def State.driftRecord (s : State) : State :=
  let line := s.fld CRY_DRIFT_BOUNDARY CRY_DRIFT_BOUNDARY_LINE
  let s := s.setFld CRY_DRIFT_CHECKPOINT CRY_DRIFT_CHECKPOINT_LINE line
  let d := s.driftDom
  let it := (s.curOp keyDrift opDriftStart).map (·.item)
  let r : DriftRec := { dom := d, line := line, epoch := s.domEpoch d, newEpoch := s.newEpoch d, item := it.map (fun i => (i.ring, i.wsn)) }
  let s := { s with store := { s.store with checkpoint := some r } }
  (s.setMem { s.mem with ckpt := none }).driftShow

/-- DRIFT_CHECKPOINT_CONFIRM (R320). -/
def execDriftCheckpointConfirm (s : State) : Host.Outcome State Fault Refusal :=
  match s.mem.ckpt with
  | some _ => done s.driftRecord
  | none => done s

/-- DRIFT_CHECKPOINT_RETRY (R320): the record is written again, and the wait exceeds 1 ms. -/
def execDriftCheckpointRetry (s : State) : Host.Outcome State Fault Refusal :=
  match s.mem.ckpt with
  | some _ => done ((s.setMem { s.mem with ckpt := some true }).driftShow)
  | none => done s

/-- A write of CRY.DRIFT.CTL (R317). -/
def State.driftCtlWrite (s : State) (data : Data) : State := (s.writeReg CRY_DRIFT_CTL data).driftShow

/-- DRIFT_PAUSE (R317). -/
def execDriftPause (data : Data) (s : State) : Host.Outcome State Fault Refusal :=
  done (s.regWrite CRY_DRIFT_CTL data (fun s => s.driftCtlWrite data))

/-- The drift stopped for Rest, with B where it stands, and taken up again (R322). -/
def State.driftRest (s : State) : State := if driftState s = 0 then s else s.setFld CRY_DRIFT_STATUS CRY_DRIFT_STATUS_STATE 4
def State.driftUnrest (s : State) : State := if driftState s = 4 then (s.setFld CRY_DRIFT_STATUS CRY_DRIFT_STATUS_STATE 1).driftShow else s

/-- DRAM contents and keys lost under a drift: its item completes with memory lost (R322). -/
def State.driftLost (s : State) : State :=
  if driftState s = 0 then s
  else
    let s := match s.curOp keyDrift opDriftStart with
      | some _ => s.finish keyDrift (s.driftResult stMemoryLost)
      | none => s
    (s.setMem { s.mem with zone := false, ckpt := none }).setFld CRY_DRIFT_STATUS CRY_DRIFT_STATUS_STATE 0

end Sys2Proof.Machine
end

