-- ==== Sys2Proof/Machine/Security.lean ====
section
/-!
DEFINITION. The security controller's other items, and the supervisor's stack repair (chapter 18).
-/
namespace Sys2Proof.Machine

/-! ### The attestation report (R470) -/

/-- Crossings that satisfy a test, counted. -/
def State.crossCount (s : State) (f : CrossSt → Nat) : Nat := (s.fab.cross.cells.map (fun c => f c.2)).foldl (· + ·) 0

/-- Remap entries in use. -/
def spareCount {α : Type} (m : SMap (Option α)) : Nat := (m.cells.filter (fun c => c.2.isSome)).length
def State.oasRemaps (s : State) : Nat := (s.oas.grps.cells.map (fun c => spareCount c.2.spares)).foldl (· + ·) 0
def State.dramRemaps (s : State) : Nat := (s.ctl.cells.map (fun c => spareCount c.2.spares)).foldl (· + ·) 0

/-- Bytes 0 to 383 of the report. -/
def State.reportBody (s : State) (nonce : Nat) : List Byte :=
  let hash := fun (b : List Byte) => if b.isEmpty then 0 else (sha384 b).toNat
  toBytes 4 0x52415859 ++ toBytes 4 1 ++ toBytes 16 s.fuses.serial.toNat ++ toBytes 32 nonce ++ toBytes 8 s.time.stamp.toNat
    ++ toBytes 48 s.sec.fwHash.toNat ++ toBytes 48 s.sec.imageHash.toNat ++ toBytes 48 (hash s.sec.ownerCert)
    ++ toBytes 8 s.fuses.stackSig.toNat
    ++ toBytes 1 (s.fld SEC_STATUS SEC_STATUS_ATTEST) ++ toBytes 1 ((s.reg CFG_STATUS).toNat / 8 % 8)
    ++ toBytes 1 (s.unlockScope + 4 * bit01 s.sec.haltEver) ++ toBytes 1 0
    ++ toBytes 4 (s.fld WELL_MAP_GEN WELL_MAP_GEN_GEN)
    ++ toBytes 4 (s.crossCount (fun c => popCount 4 (WELL_XDATA_SPARE_USED.get c.xdata)))
    ++ toBytes 2 (s.crossCount (fun c => bit01 (c.state == crExposed)))
    ++ toBytes 2 (s.crossCount (fun c => bit01 (c.state == crDetoured || c.state == crLost)))
    ++ toBytes 2 s.oasRemaps ++ toBytes 2 s.dramRemaps ++ toBytes 4 0
    ++ (List.range 7).flatMap (fun j => toBytes 8 (s.fld (THM_WEAR j) THM_WEAR_CONSUMED))
    ++ (List.range 16).flatMap (fun k => toBytes 4 (s.fld (SEC_SLOT k) SEC_SLOT_LAST))
    ++ (List.range 16).flatMap (fun k => toBytes 1 (s.fld (SEC_SLOT k) SEC_SLOT_STATE)) ++ toBytes 8 0

/-- The report with its signature, the certificate's length and the certificate, padded to a multiple of eight bytes. -/
def State.report (s : State) (nonce : Nat) : List Byte :=
  let body := s.reportBody nonce
  let cert := Config.moduleCert.take 3612
  let all := body ++ toBytes 96 (Config.signReport (sha384 body)).toNat ++ toBytes 4 cert.length ++ cert
  all ++ List.replicate ((8 - all.length % 8) % 8) 0

/-- ATTEST (R470). -/
def execAttest (hostFail : Bool) (s : State) : Host.Outcome State Fault Refusal :=
  match s.curOp keySecurity opAttest with
  | none => done s
  | some c =>
    if hostFail ∨ !s.mayIssue then done (s.finishSt keySecurity stHostError)
    else
      let r := s.report (c.item.num 24 32)
      done ((s.hostWrite (c.item.num 16 8) r).finish keySecurity { status := stSuccess, count := r.length })

/-! ### Files from host memory or DRAM -/

/-- How a read of a source ended: its bytes, a status that ends the item, or a wait. -/
inductive SrcRead where
  | bytes (b : List Byte)
  | fails (st : Nat)
  | waits
deriving DecidableEq, Repr

/-- Bytes of a source space (0 host, 1 DRAM) read by a requester (R458, R477). -/
def State.readSource (s : State) (req space addr len : Nat) (hostFail : Bool) : State × SrcRead :=
  if space = 0 then
    if hostFail ∨ !s.mayIssue then (s, .fails stHostError)
    else if !s.host.linkUp then (s, .waits)
    else (s, .bytes (s.hostBytes addr len))
  else
    let r := s.dramAcc req addr (.read len)
    if r.2.1 = 0 then (r.1, .bytes r.2.2) else if r.2.1 = memWait then (r.1, .waits) else (r.1, .fails (stBusError r.2.1))

/-! ### Store slots (R441, R459) -/

def slEmpty := 0
def slWriting := 1
def slValid := 2
def slInvalid := 3
def State.slotState (s : State) (k : Nat) : Nat := s.fld (CFG_SLOT_INFO k) CFG_SLOT_INFO_STATE
/-- The other slot of a pair: image A and B, firmware A and B. -/
def otherSlot (k : Nat) : Nat := if k % 2 = 0 then k + 1 else k - 1

/-- The cause that refuses a slot write before it begins: the slot exhausted, or no VALID slot would be left (R452, R459). -/
def State.slotRefusal (s : State) (k : Nat) : Option Nat :=
  if s.fldOn (CFG_SLOT_INFO k) CFG_SLOT_INFO_EXHAUSTED then some 10
  else
    let o := s.slotState (otherSlot k)
    if o = slWriting ∨ (s.slotState k = slValid ∧ o ≠ slValid) then some 14 else none

/-- A slot write begun: WRITING, its counter one on, exhausted at 10,000 (R441). -/
def State.slotBegin (s : State) (k : Nat) : State :=
  let n := min (s.fld (CFG_SLOT_INFO k) CFG_SLOT_INFO_CYCLES + 1) 10000
  s.setFlds (CFG_SLOT_INFO k) [(CFG_SLOT_INFO_STATE, slWriting), (CFG_SLOT_INFO_CYCLES, n), (CFG_SLOT_INFO_EXHAUSTED, bit01 (n == 10000))]

def State.setSlotState (s : State) (k st : Nat) : State := s.setFld (CFG_SLOT_INFO k) CFG_SLOT_INFO_STATE st

/-- A slot's contents stored and VALID. -/
def State.slotStored (s : State) (k version : Nat) (file : List Byte) : State :=
  let s := (s.setSlotState k slValid).setFld (CFG_SLOT_VER k) CFG_SLOT_VER_VERSION version
  { s with store := { s.store with slots := s.store.slots.set (fun _ => []) k file } }

/-- A security item ended as image rejected, with its cause. -/
def State.rejected (s : State) (k cause : Nat) : State := s.finish k { status := stImageRejected, detail := cause }

/-- FIRMWARE_UPDATE (R441, R467, R477). `storeOk` is whether the store programs and reads back. -/
def execFirmwareUpdate (hostFail storeOk : Bool) (s : State) : Host.Outcome State Fault Refusal :=
  match s.curOp keySecurity opFirmware with
  | none => done s
  | some c =>
    let it := c.item
    let k := 1 + it.num 25 1
    if s.attestFailed then done (s.cmdRefused keySecurity 11)
    else match s.slotRefusal k with
      | some r => done (s.rejected keySecurity r)
      | none =>
        match s.readSource 19 (it.num 24 1) (it.num 16 8) (it.num 28 4) hostFail with
        | (s, .fails st) => done (s.finishSt keySecurity st)
        | (s, .waits) => done s
        | (s, .bytes file) =>
          match Config.firmwareCheck file with
          | .error cause => done (s.rejected keySecurity cause.toNat)
          | .ok version =>
            let s := s.slotBegin k
            if !storeOk then done ((s.setSlotState k slInvalid).rejected keySecurity 11)
            else
              let s := s.slotStored k version.toNat file
              let s := if natBit (it.num 26 1) 0 then { s with store := { s.store with fwPrefer := k } } else s
              done (s.finishSt keySecurity stSuccess)

/-- The firmware that runs after a warm reset or power-on: the preferred slot's where it is VALID, else the other's (R477). -/
def State.firmwareRuns (s : State) : State :=
  let p := s.store.fwPrefer
  let k := if s.slotState p = slValid then p else otherSlot p
  if s.slotState k = slValid then { s with sec := { s.sec with fwHash := sha384 (s.store.slots.get (fun _ => []) k) } } else s

/-! ### Stack repair (R477, R513) -/

/-- The STACK_REPAIR item with an OP that the leading supervisor performs. -/
def State.repairItem (s : State) (op : Nat) : Option Item :=
  match s.curOp keySupervisor opStackRepair with
  | some c => if c.item.num 16 1 = op then some c.item else none
  | none => none

/-- STACK_REPAIR_LANE (R331, R477): a crossing that has retired has nothing left to repair it (DEDUCED, log entry 42). -/
def execStackRepairLane (s : State) : Host.Outcome State Fault Refusal :=
  match s.repairItem 1 with
  | none => done s
  | some it =>
    let w := it.num 24 1
    let b := it.num 25 1
    let k := it.num 26 1
    let l := it.num 27 1
    if 64 ≤ w ∨ 18 ≤ b ∨ k = 0 ∨ 7 ≤ k ∨ 76 ≤ l then done (s.cmdRefused keySupervisor 2)
    else
      let st := (s.cross (crossKey w b k)).state
      if st = crDetoured ∨ st = crLost then done (s.cmdRefused keySupervisor 1)
      else done ((s.laneFails (crossKey w b k) l).finishSt keySupervisor stSuccess)

/-- A word of an oasis, corrected where possible, moved to a spare (R262). -/
def State.oasMove (s : State) (i w : Nat) : State :=
  let r := s.oasStored i w
  match oasDecode r.1 with
  | .clean => s.oasRemap i w r.1 r.2 false
  | .corrected v => s.oasRemap i w v r.2 false
  | .bad => s.oasRemap i w r.1 true false

/-- A line of DRAM, corrected where possible, moved to a spare (R288). -/
def State.dramMove (s : State) (p line : Nat) : State :=
  let r := (s.ctlAt p).stored line
  match lineDecode r.1 with
  | .clean => s.dramRemap p line r.1 r.2 1
  | .corrected v => s.dramRemap p line v r.2 1
  | .bad => s.dramRemap p line r.1 true 0

/-- STACK_REPAIR_OASIS (R262, R477): the word, corrected where possible, moves to a spare. -/
def execStackRepairOasis (s : State) : Host.Outcome State Fault Refusal :=
  match s.repairItem 2 with
  | none => done s
  | some it =>
    let i := it.num 24 1
    let bank := it.num 25 1
    let row := it.num 28 4
    if 128 ≤ i ∨ 8 ≤ bank ∨ 2 ^ 18 ≤ row then done (s.cmdRefused keySupervisor 2)
    else
      let w := 8 * row + bank
      if (s.oasGrp i).freeEntry bank = none then done (s.cmdRefused keySupervisor 1)
      else done ((s.oasMove i w).finishSt keySupervisor stSuccess)

/-- STACK_REPAIR_DRAM (R288, R477): the line, corrected where possible, moves to a spare. -/
def execStackRepairDram (s : State) : Host.Outcome State Fault Refusal :=
  match s.repairItem 3 with
  | none => done s
  | some it =>
    let p := it.num 24 1
    let line := it.num 28 4
    if 32 ≤ p ∨ s.ctlState p = ctlOff ∨ s.usableMib * 2 ^ 14 ≤ line then done (s.cmdRefused keySupervisor 2)
    else
      let c := s.ctlAt p
      if (firstBelow 16 (fun e => (c.spare e).isNone && !c.dead.contains e)) = none then done (s.cmdRefused keySupervisor 1)
      else done ((s.dramMove p line).finishSt keySupervisor stSuccess)

/-! ### Erasure (R477) -/

/-- One bit of an ERASE item performed; the item ends when every bit named has been. -/
def State.erasePart (s : State) (bit : Nat) (act : State → State) : State :=
  match s.curOp keySecurity opErase with
  | none => s
  | some c =>
    let want := c.item.num 16 1
    if want = 0 then s.finishSt keySecurity stSuccess
    else if !natBit want bit ∨ natBit c.step bit then s
    else
      let step := c.step + 2 ^ bit
      let s := (act s).journalStep keySecurity step 0
      if step = want then s.finishSt keySecurity stSuccess else s

/-- Image slots A and B emptied. -/
def State.eraseImages (s : State) : State :=
  [0, 1].foldl (fun s k =>
    let s := (s.setSlotState k slEmpty).setReg (CFG_SLOT_VER k) 0
    { s with store := { s.store with slots := s.store.slots.set (fun _ => []) k [] } }) s

/-- Every key domain and strict window invalid, every domain key gone (R307, R477). -/
def State.dropKeys (s : State) : State :=
  let s := (List.range 16).foldl (fun s d => (s.setFld (CRY_DOM_CFG d) CRY_DOM_CFG_VALID 0).setReg (CRY_DOM_KEY d) 0) s
  let s := (List.range 8).foldl (fun s t => s.setFld (CRY_STRICT_CFG t) CRY_STRICT_CFG_VALID 0) s
  { s with sec := { s.sec with domKeys := {}, newKeys := {} } }

/-- Every domain key destroyed, the DRAM cleared as in R293, and domain 0 made anew over window 0. A drift ends with memory lost. -/
def State.eraseDomains (s : State) : State :=
  let s := s.driftLost.dropKeys
  let s := (List.range 32).foldl (fun s p =>
    let st := s.ctlState p
    let s := s.setCtl p { s.ctlAt p with keep := false }
    if st = ctlReady ∨ st = ctlSelfRefresh then s.setFlds (DRMC_STATUS p) [(DRMC_STATUS_STATE, ctlClearing), (DRMC_STATUS_KEPT, 0)] else s) s
  if s.mem.setUp then { s with mem := { s.mem with setKeys := true } }
  else
    let r0 := s.reg (CRY_OAS_RIGHTS 0)
    let r1 := s.reg (CRY_OAS_RIGHTS 1)
    ((s.setUpKeys (if s.fldOn (DRMC_WIN_CFG 0) DRMC_WIN_CFG_VALID then s.fld (DRMC_WIN_CFG 0) DRMC_WIN_CFG_SIZE else 0)).setReg (CRY_OAS_RIGHTS 0) r0).setReg
      (CRY_OAS_RIGHTS 1) r1

/-- The oases' contents zeroed; remap entries stay. -/
def State.eraseOasWords (s : State) : State :=
  let grps := s.oas.grps.cells.map (fun c =>
    (c.1, { c.2 with spares := { cells := c.2.spares.cells.map (fun x => (x.1, x.2.map (fun y => { y with word := 0, poison := false }))) }, wbs := [] }))
  { s with oas := { s.oas with words := {}, grps := { cells := grps.filter (fun c => c.2 != ({} : OasGrp)) } } }

/-- ERASE_IMAGE_SLOTS (R477). -/
def execEraseImageSlots (s : State) : Host.Outcome State Fault Refusal := done (s.erasePart 0 State.eraseImages)

/-- ERASE_KEY_DOMAINS (R477). -/
def execEraseKeyDomains (s : State) : Host.Outcome State Fault Refusal := done (s.erasePart 1 State.eraseDomains)

/-- ERASE_OASES (R477). -/
def execEraseOases (s : State) : Host.Outcome State Fault Refusal := done (s.erasePart 2 State.eraseOasWords)

/-- Slots 1 to 15 erased. -/
def State.eraseSlots (s : State) : State := (List.range 15).foldl (fun s k => s.eraseSlot (k + 1)) s

/-- ERASE_SLOTS (R477). -/
def execEraseSlots (s : State) : Host.Outcome State Fault Refusal := done (s.erasePart 3 State.eraseSlots)

/-! ### Debug unlocks and ownership (R478, R479) -/

/-- A refusal for which the spec gives no reason code: DETAIL is a free value (DESIGN CHOICE, log entry 43). -/
def State.refusedFree (s : State) (k : Nat) : State := (s.spend 1).cmdRefused k (Config.freeValue 32 s.freeCtr).toNat

/-- An unlock by scope, time and certificate: whether it is granted (R479). -/
def State.unlockBy (s : State) (scope seconds : Nat) (cert : List Byte) : Option State :=
  if Config.debugCert s.fuses.serial s.sec.ownerCert cert then some (s.beginUnlock scope seconds) else none

/-- DEBUG_UNLOCK (R479). -/
def execDebugUnlock (hostFail : Bool) (s : State) : Host.Outcome State Fault Refusal :=
  match s.curOp keySecurity opDebugUnlock with
  | none => done s
  | some c =>
    let it := c.item
    let scope := it.num 28 1
    if scope = 0 then done (s.endUnlock.finishSt keySecurity stSuccess)
    else match s.readSource 19 0 (it.num 16 8) (it.num 24 4) hostFail with
      | (s, .fails st) => done (s.finishSt keySecurity st)
      | (s, .waits) => done s
      | (s, .bytes cert) =>
        match s.unlockBy scope (it.num 32 4) cert with
        | some s => done (s.finishSt keySecurity stSuccess)
        | none => done (s.refusedFree keySecurity)

/-- DEBUG_UNLOCK_EXPIRY (R479): an unlock that holds until reset does not expire. -/
def execDebugUnlockExpiry (s : State) : Host.Outcome State Fault Refusal := if s.sec.unlockForever then done s else done s.endUnlock

/-- OWNER_TRANSFER (R478). -/
def execOwnerTransfer (hostFail : Bool) (s : State) : Host.Outcome State Fault Refusal :=
  match s.curOp keySecurity opOwner with
  | none => done s
  | some c =>
    let it := c.item
    match s.readSource 19 0 (it.num 16 8) (it.num 24 4) hostFail with
    | (s, .fails st) => done (s.finishSt keySecurity st)
    | (s, .waits) => done s
    | (s, .bytes block) =>
      match Config.ownerBlock s.fuses.serial s.sec.ownerCert block with
      | none => done (s.refusedFree keySecurity)
      | some (cert, keyBlock) =>
        match unwrapKey s.fuses.serial keyBlock with
        | none => done (s.cmdRefused keySecurity 8)
        | some k =>
          let s := { s with sec := { s.sec with ownerCert := cert } }
          let s := s.setFlds SEC_STATUS [(SEC_STATUS_OWNED, 1), (SEC_STATUS_OWNER_ONLY, it.num 28 1 % 2)]
          done (((s.installSlot 0 k).eraseSlots).endUnlock.finishSt keySecurity stSuccess)

end Sys2Proof.Machine
end

