-- ==== Sys2Proof/Machine/Image.lean ====
section
/-!
DEFINITION. Images (chapter 17): the manifest, the frames, the load of planes and slots, power-up, activation, readback, scrubbing,
and the RESERVED mark of ergs (R477).
-/
namespace Sys2Proof.Machine

/-! ### The file (R443 to R448) -/

def manBytes := 256
def frameBytes := 2596
/-- A number in the manifest or in a frame's header. -/
def fileNum (m : List Byte) (lo len : Nat) : Nat := ofBytes ((m.drop lo).take len)
def manPlanes (m : List Byte) : Nat := fileNum m 32 4
def manMems (m : List Byte) : Nat := fileNum m 36 4
def manSigLen (m : List Byte) : Nat := fileNum m 40 4
def manCount (m : List Byte) : Nat := manPlanes m + manMems m
def manImage (m : List Byte) : Nat := fileNum m 20 8
/-- Byte i of ACTIVATE. -/
def manActivate (m : List Byte) (i : Nat) : Nat := fileNum m (64 + i) 1
def frameOff (sigLen n : Nat) : Nat := manBytes + sigLen + frameBytes * n
def framePayload (b : List Byte) : Payload := BitVec.ofNat 20480 (fileNum b 32 2560)
def frameIsMem (b : List Byte) : Bool := natBit (fileNum b 20 1) 7
def frameCtx (b : List Byte) : Nat := fileNum b 20 1 % 8
def frameDune (b : List Byte) : Nat := fileNum b 22 2

/-- Whether a range of bytes is zero. -/
def zeroBytes (m : List Byte) (lo len : Nat) : Bool := ((m.drop lo).take len).all (· == 0)

def variantCode : Variant → Nat
  | .yx4802 => 0x4802
  | .yx4801 => 0x4801

/-- The cause that refuses a manifest by itself (R444, R451, R452); `slot` is whether the file goes to a slot. -/
def State.manifestFault (s : State) (m : List Byte) (slot : Bool) : Option Nat :=
  let sig := fileNum m 12 8
  let var := fileNum m 10 2
  if fileNum m 0 4 ≠ 0x4D495859 ∨ fileNum m 4 2 ≠ 1 then some 1
  else if fileNum m 8 2 ≠ 0x59 ∨ (var ≠ 0 ∧ var ≠ variantCode s.variant) then some 2
  else if !(List.range 8).all (fun k => natBits sig (8 * k) 8 == 0 || natBits sig (8 * k) 8 == natBits s.fuses.stackSig.toNat (8 * k) 8) then some 3
  else if !(zeroBytes m 6 2 && zeroBytes m 48 16 && zeroBytes m 192 16) ∨ manImage m = 0 ∨ manPlanes m % 16 ≠ 0 ∨ 16384 < manPlanes m
      ∨ 65536 < manMems m ∨ manSigLen m < 100 ∨ 1048320 < manSigLen m
      ∨ !(List.range 128).all (fun i => natBits (manActivate m i) 3 4 == 0) then some 9
  else if slot ∧ 51700 < manMems m then some 15
  else none

/-! ### Reading the source -/

/-- Bytes of the file at an offset. -/
def State.loadRead (s : State) (src : LoadSrc) (off len : Nat) (fail : Bool) : State × SrcRead :=
  match src with
  | .host a => s.readSource 21 0 (a + off) len fail
  | .dram a => s.readSource 21 1 (a + off) len false
  | .slot k => (s, .bytes (((s.store.slots.get (fun _ => []) k).drop off).take len))

/-- The planes that a file's frames name, as (memory frame, erg × 8 + context): the first stage looks at their headers as they stand in the
source (DEDUCED, log entry 45). -/
def State.fileNames (s : State) (src : LoadSrc) (m : List Byte) : List (Bool × Nat) :=
  (List.range (manCount m)).filterMap (fun n =>
    match (s.loadRead src (frameOff (manSigLen m) n) 32 false).2 with
    | .bytes b => some (frameIsMem b, 8 * duneErg (frameDune b % 2048) + frameCtx b)
    | _ => none)

/-- Whether a load writes an erg's planes (R458). -/
def LoadSt.takes (ld : LoadSt) (i : Nat) : Bool := ld.target == 0 && (ld.ergs == 0 || natBit ld.ergs.toNat i)

def State.snapPlane (s : State) (i c : Nat) : Bool := s.fldOn (FAB_ERG_SNAP i) FAB_ERG_SNAP_RESERVE && s.fld (FAB_ERG_SNAP i) FAB_ERG_SNAP_PLANE == c

/-- The cause that refuses an image by the planes it names: an ACTIVATE entry without its planes, a plane reserved for snapshots, staging
that holds another context's frames (R449, R451). -/
def State.namesFault (s : State) (ld : LoadSt) (m : List Byte) (names : List (Bool × Nat)) : Option Nat :=
  let planes := (names.filter (fun x => !x.1)).map (·.2)
  if !(List.range 128).all (fun i => !natBit (manActivate m i) 7 || planes.contains (8 * i + manActivate m i % 8)) then some 9
  else if planes.any (fun p => ld.takes (p / 8) && s.snapPlane (p / 8) (p % 8)) then some 12
  else if names.any (fun x => x.1 && ld.takes (x.2 / 8) &&
      (match (s.erg (x.2 / 8)).staging with
      | some st => st.ctx != x.2 % 8 && !planes.contains (8 * (x.2 / 8) + st.ctx)
      | none => false)) then some 13
  else none

/-- How a stage ended: passed with the load as it then stands, failed with a status and a cause, or a wait. -/
inductive StageEnd where
  | passed (ld : LoadSt)
  | fails (st cause : Nat)
  | waits
deriving DecidableEq, Repr

/-- The first stage (R451, R452). -/
def State.stageOne (s : State) (ld : LoadSt) (fail : Bool) : State × StageEnd :=
  let reject := fun (c : Nat) => StageEnd.fails stImageRejected c
  if ld.len < manBytes then (s, reject 6)
  else match s.loadRead ld.src 0 manBytes fail with
    | (s, .fails st) => (s, .fails st 0)
    | (s, .waits) => (s, .waits)
    | (s, .bytes m) =>
      match s.manifestFault m (ld.target != 0) with
      | some c => (s, reject c)
      | none =>
        if ld.len < manBytes + manSigLen m then (s, reject 6)
        else match s.loadRead ld.src manBytes (manSigLen m) fail with
          | (s, .fails st) => (s, .fails st 0)
          | (s, .waits) => (s, .waits)
          | (s, .bytes sig) =>
            match s.namesFault ld m (s.fileNames ld.src m) with
            | some c => (s, reject c)
            | none =>
              if Config.imageSigned m sig s.sec.ownerCert (s.fldOn SEC_STATUS SEC_STATUS_OWNER_ONLY) then
                (s, .passed { ld with manifest := m ++ sig, sigLen := sig.length })
              else (s, reject 4)

/-! ### A load's end -/

def State.setLoad (s : State) (ld : Option LoadSt) : State := { s with store := { s.store with load := ld } }
def State.cfgEngine (s : State) (n : Nat) : State := s.setFld CFG_STATUS CFG_STATUS_ENGINE n

/-- Every plane a failed load has written reads INVALID, with its claims gone and its staging emptied; an erg whose active plane it wrote
stays gated (R74, R451, R560). -/
def State.spoilPlane (s : State) (p : Nat) : State :=
  let i := p / 8
  let c := p % 8
  let e := s.erg i
  let e := if e.staging.any (fun st => st.ctx == c) then { e with staging := none } else e
  let s := (s.setErg i e).setPlaneState i c plInvalid
  let s := s.dropClaims i c
  if s.ergActive i = some c then s.setFld (FAB_ERG_STATUS i) FAB_ERG_STATUS_ACTIVE_WRITE 0 else s

/-- What a failed load leaves: its planes and its slot INVALID (R441, R451). -/
def State.spoilLoad (s : State) (ld : LoadSt) : State :=
  let s := ld.planes.foldl (fun s p => s.spoilPlane p) s
  let s := if ld.target ≠ 0 ∧ s.slotState (ld.target - 1) = slWriting then s.setSlotState (ld.target - 1) slInvalid else s
  (s.setLoad none).cfgEngine 0

/-- The boot policy's flags applied by an item that succeeds (R442, R458, R459). -/
def State.applyPolicy (s : State) (it : Item) : State :=
  let t := it.num 25 1
  let f := it.num 26 1
  if t = 0 then s
  else
    let s := if natBit f 0 then s.setFld CFG_POLICY CFG_POLICY_PREFERRED (t - 1) else s
    if natBit f 2 then s.setFld CFG_POLICY CFG_POLICY_FALLBACK (bit01 (natBit f 3)) else s

/-- The IMAGE_LOAD item ends with success. -/
def State.imageDone (s : State) : State :=
  match s.cur keyConfig with
  | some c => ((s.applyPolicy c.item).setLoad none).cfgEngine 0 |>.finishSt keyConfig stSuccess
  | none => (s.setLoad none).cfgEngine 0

/-- A plane of a load that has passed every stage (R73, R76, R567). -/
def State.freshPlane (s : State) (p : Nat) : State :=
  let i := p / 8
  let s := s.setPlaneState i (p % 8) plFresh
  if s.ergActive i = some (p % 8) then
    (s.setFld (FAB_ERG_STATUS i) FAB_ERG_STATUS_ACTIVE_WRITE 0).setErg i { s.erg i with newContent := true }
  else s

/-- A load into planes has passed: the planes read FRESH together; while CFG_DONE is low the activation edge is still to come
(R451, R454, R456, R567). -/
def State.planesEnd (s : State) (ld : LoadSt) : State :=
  let s := ld.planes.foldl (fun s p => s.freshPlane p) s
  let s := if ld.powerUp then s else s.journalStep keyConfig 4 0
  if s.pins.cfgDone ∧ !ld.wake then s.imageDone
  else (s.setLoad (some { ld with activating := true })).cfgEngine 5

/-- A load whose first stage has passed is in progress; one without frames is at its end. -/
def State.loadInto (s : State) (ld : LoadSt) : State :=
  if manCount ld.manifest = 0 then s.planesEnd ld else (s.setLoad (some ld)).cfgEngine 2

/-- A power-up load failed: CFG_ERR# with the cause shown (R453, R455). -/
def State.bootError (s : State) (st cause : Nat) : State :=
  { s with pins := { s.pins with cfgErr := true } }.setFlds CFG_STATUS [(CFG_STATUS_ERR, 1), (CFG_STATUS_LAST_STATUS, st), (CFG_STATUS_CAUSE, cause)]

/-- The load on wake from Dormant failed: CFG_DONE and CFG_ERR# keep their levels; CFG.STATUS and an event report it (R504). -/
def State.wakeError (s : State) (st cause : Nat) : State :=
  (s.setFlds CFG_STATUS [(CFG_STATUS_LAST_STATUS, st), (CFG_STATUS_CAUSE, cause)]).raiseReg 0x0D01
    (st + 65536 * (if st = stImageRejected then cause else 0)) 0 CFG_STATUS

/-- A power-up load of slot k. -/
def bootLoad (s : State) (k : Nat) (second : Bool) : LoadSt :=
  { src := .slot k, len := (s.store.slots.get (fun _ => []) k).length, powerUp := true, second := second }

/-- The other slot tried after the first has failed, with FALLBACK 1 (R453 step 4). -/
def State.bootSecond (s : State) (k : Nat) : State :=
  if s.fldOn CFG_POLICY CFG_POLICY_FALLBACK ∧ s.slotState (otherSlot k) = slValid then
    match s.stageOne (bootLoad s (otherSlot k) true) false with
    | (s, .passed ld) => s.loadInto ld
    | (s, .fails st c) => s.bootError st c
    | (s, .waits) => s
  else s

/-- A load fails with a status and a cause (R451, R452, R453, R460). -/
def State.loadFails (s : State) (ld : LoadSt) (st cause : Nat) : State :=
  let s := s.spoilLoad ld
  if ld.wake then s.wakeError st cause
  else if ld.powerUp then
    let s := s.bootError st cause
    match ld.src with
    | .slot k => if ld.second then s else s.bootSecond k
    | _ => s
  else s.finish keyConfig { status := st, detail := cause }

/-- A load from a newly written slot into the planes (R459). -/
def State.applySlot (s : State) (it : Item) (k : Nat) : State :=
  let ld : LoadSt := { src := .slot k, len := (s.store.slots.get (fun _ => []) k).length, ergs := BitVec.ofNat 128 (it.num 32 16) }
  match s.stageOne ld false with
  | (s, .passed ld) => s.loadInto ld
  | (s, .fails st c) => s.loadFails ld st c
  | (s, .waits) => s

/-- The file bytes of a slot write, as they were read. -/
def LoadSt.file (ld : LoadSt) : List Byte := ld.manifest ++ ld.frames.reverse.flatten

/-- What follows a slot's commitment: APPLY, or the end (R458, R459, R461). -/
def State.slotNext (s : State) (it : Item) (k : Nat) : State := if natBit (it.num 26 1) 1 then s.applySlot it k else s.imageDone

/-- A slot write has passed: the slot is VALID (R441, R461). -/
def State.slotEnd (s : State) (it : Item) (ld : LoadSt) : State :=
  let s := s.slotStored (ld.target - 1) (fileNum ld.manifest 44 4) ld.file
  ((s.setLoad none).journalStep keyConfig 3 0).slotNext it (ld.target - 1)

/-- The third stage (R451). -/
def State.loadEnd (s : State) (it : Option Item) (ld : LoadSt) : State :=
  if ld.len ≠ frameOff ld.sigLen (manCount ld.manifest) then s.loadFails ld stImageRejected 6
  else if (sha384 (ld.manifest.take 208 ++ ld.frames.reverse.flatten)).toNat ≠ fileNum ld.manifest 208 48 then s.loadFails ld stImageRejected 5
  else match it with
    | some x => if ld.target = 0 then s.planesEnd ld else s.slotEnd x ld
    | none => s.planesEnd ld

/-! ### IMAGE_LOAD (R458, R459, R461) -/

/-- A load begun by an item: the first stage, then the slot marked or the frames awaited. -/
def State.loadBegin (s : State) (it : Item) (hostFail : Bool) : State :=
  let src : LoadSrc := if it.num 24 1 % 4 = 0 then .host (it.num 16 8) else .dram (it.num 16 8)
  let t := it.num 25 1
  let ld : LoadSt := { src := src, len := it.num 28 4, target := t, flags := it.num 26 1, ergs := BitVec.ofNat 128 (it.num 32 16) }
  if t ≠ 0 ∧ ld.len = 0 then
    if s.slotState (t - 1) = slValid then s.slotNext it (t - 1) else s.finish keyConfig { status := stImageRejected, detail := 6 }
  else match (if t = 0 then none else s.slotRefusal (t - 1)) with
    | some c => s.finish keyConfig { status := stImageRejected, detail := c }
    | none =>
      match s.stageOne ld hostFail with
      | (s, .waits) => s
      | (s, .fails st c) => s.finish keyConfig { status := st, detail := c }
      | (s, .passed ld) =>
        let s := s.journalStep keyConfig 1 0
        if t = 0 then (if manCount ld.manifest = 0 then s.loadEnd (some it) ld else s.loadInto ld)
        else
          let s := s.slotBegin (t - 1)
          if manCount ld.manifest = 0 then s.loadEnd (some it) ld else (s.setLoad (some ld)).cfgEngine 4

/-- Whether the security controller stands still, so that no signature is verified. -/
def State.secStill (s : State) : Bool := s.execStill keySecurity

/-- IMAGE_LOAD (R458). A load in progress goes on in IMAGE_FRAME and ERG_ACTIVATION. -/
def execImageLoad (hostFail : Bool) (s : State) : Host.Outcome State Fault Refusal :=
  if s.store.load.isSome ∨ s.store.bootDue ∨ s.secStill then done s
  else match s.curOp keyConfig opImageLoad with
    | none => done s
    | some c =>
      if s.attestFailed then done (s.cmdRefused keyConfig 11)
      else if c.step = 4 then done s.imageDone
      else if c.step = 3 then done (s.slotNext c.item (c.item.num 25 1 - 1))
      else done (s.loadBegin c.item hostFail)

/-! ### The checks of a frame (R446 to R449, R451) -/

/-- The MOD bits that an opcode uses (R33, R39, R40); a reserved opcode's are not checked. -/
def modUsed (opc : Nat) : Nat :=
  match opc with
  | 0x00 | 0x06 | 0x0B | 0x0D | 0x11 | 0x14 => 0
  | 0x01 | 0x02 | 0x04 | 0x05 | 0x0A | 0x0E | 0x10 => 1
  | 0x03 | 0x07 | 0x0C => 7
  | 0x08 => 4
  | 0x09 => 0xF
  | 0x0F => 0x3F
  | 0x12 | 0x13 => 3
  | _ => 0x7FF

/-- Whether every bit of `x` lies within a mask. -/
def within (x mask : Nat) : Bool := x &&& mask == x

/-- Whether a named cell's field is in range (R448). -/
def namedOk (n : Nat) : Bool := natBits n 14 1 == 0 && natBits n 6 4 == 0

/-- Whether the erg-level settings lie within their ranges (R448). -/
def settingsOk (p : Payload) : Bool :=
  plErg p 0 ≤ 2 && (plErg p 0 != 1 || plErg p 1 != 0) && namedOk (plErg p 2 + 256 * plErg p 3) && namedOk (plErg p 4 + 256 * plErg p 5)
    && plErg p 6 < 8 && (!plLinkValid p || plLinkSource p ≤ 4) && plErg p 8 < 64
    && (List.range 97).all (fun k => plErg p (9 + k) == 0)

/-- Whether a plane frame's payload holds no reserved bit, for a dune of an erg (R447). -/
def planeOk (d : Nat) (p : Payload) : Bool :=
  (List.range 64).all (fun c => let i := plSlot p c; within (insMod i) (modUsed (insOpc i)))
    && (List.range 4).all (fun m => !natBit (plByte p (612 + m)) 6)
    && (List.range 16).all (fun k =>
      let b := natBits p.toNat (8 * (616 + 2 * k)) 16
      natBits b 6 6 == 0 && (!natBit b 15 || !([2, 5, 7].contains (natBits b 12 3))))
    && (if d = 0 then settingsOk p else (List.range 106).all (fun k => plErg p k == 0))

/-- The order of a frame (R447, R449): (context, layer, erg), or (dune, memory, part), plus one. -/
def frameKey (b : List Byte) : Nat :=
  if frameIsMem b then frameDune b * 32 + fileNum b 21 1 % 4 * 8 + natBits (fileNum b 21 1) 2 3 + 1
  else frameCtx b * 128 + duneErg (frameDune b) + 1

/-- The cause that refuses frame n of a load by its bytes (R446, R447, R449, R451). -/
def LoadSt.frameFault (ld : LoadSt) (b : List Byte) : Option Nat :=
  let m := ld.manifest
  let n := ld.next
  let mem := frameIsMem b
  let key := frameKey b
  let i := duneErg (frameDune b)
  let first := n = manPlanes m ∨ n = 0
  if b.length < frameBytes then some 6
  else if crc32c (b.take 2592) ≠ fileNum b 2592 4 then some 7
  else if fileNum b 24 4 ≠ n then some 8
  else if fileNum b 0 20 ≠ fileNum m 8 20 ∨ fileNum b 28 4 ≠ manCount m ∨ natBits (fileNum b 20 1) 3 4 ≠ 0 ∨ 2048 ≤ frameDune b
      ∨ (if mem then fileNum b 21 1 ≥ 32 else fileNum b 21 1 ≠ 0) then some 9
  else if mem ≠ decide (manPlanes m ≤ n) then some 8
  else if mem then
    if !first ∧ key < ld.lastKey then some 8
    else if !first ∧ key = ld.lastKey then some 9
    else if !(ld.carried.contains (8 * i + frameCtx b)) then some 9
    else if (match ld.memCtx.get (fun _ => none) i with | some c => c != frameCtx b | none => false) then some 9
    else if !zeroBytes b (32 + 2048) 512 then some 9
    else none
  else
    let group := n % 16 = 0
    if group ∧ !first ∧ key < ld.lastKey then some 8
    else if group ∧ !first ∧ key = ld.lastKey then some 9
    else if !group ∧ key ≠ ld.lastKey then some 8
    else if !group ∧ ld.duneSeen.contains (frameDune b) then some 9
    else if !planeOk (duneLocal (frameDune b)) (framePayload b) then some 9
    else none

/-- The load after a frame has passed. -/
def LoadSt.advance (ld : LoadSt) (b : List Byte) : LoadSt :=
  let i := duneErg (frameDune b)
  let p := 8 * i + frameCtx b
  let ld := { ld with next := ld.next + 1, frames := b :: ld.frames, lastKey := frameKey b }
  if frameIsMem b then { ld with memCtx := ld.memCtx.set (fun _ => none) i (some (frameCtx b)) }
  else if (ld.next - 1) % 16 = 0 then { ld with duneSeen := [frameDune b], carried := p :: ld.carried }
  else { ld with duneSeen := frameDune b :: ld.duneSeen }

/-! ### Claims and lockstep (R77, R78, R87, R338) -/

/-- The claims of a dune of a plane (R77): its well outputs, and GIO_OE in the south-west dune. -/
def planeClaims (i c d : Nat) (p : Payload) : List Claim :=
  let who := Claimant.ctx i c d
  let outs := (List.range 8).filterMap (fun k =>
    match plBinding p k with
    | some (far, ch) => if far = ergDie i then none
        else some ({ who := who, what := .chan (i % 64) ch (min far (ergDie i) + 1) (max far (ergDie i)) } : Claim)
    | none => none)
  if d = 0 ∧ plGioOe p then outs ++ [{ who := who, what := .pin (i % 64) }] else outs

/-- Whether claims meet among themselves. -/
def claimsClash : List Claim → Bool
  | [] => false
  | a :: r => r.any (fun b => claimsMeet a b) || claimsClash r

/-- Whether the same context of the primary is loaded and declares a lockstep pair. -/
def State.primaryLocks (s : State) (i c : Nat) : Bool :=
  let st := s.planeState (i - 64) c
  (st == plLoading || st == plFresh || st == plValid) && plLockstep ((s.erg (i - 64)).plane c).settings

/-- Whether a plane's used inputs let it stand in a lockstep pair (R87): no track from outside the erg, wells from the base die, M-A or M-B. -/
def lockInputsOk (i : Nat) (pl : PlaneSt) : Bool :=
  (List.range 16).all (fun d =>
    let p := pl.frame d
    (List.range 228).all (fun x =>
      let sel := plSel p x
      let n := sel % 128
      if 128 ≤ sel ∧ 72 ≤ n ∧ n < 88 then
        match duneAt i d ((n - 72) / 4) (if n % 4 = 3 then 4 else 1) with
        | some (j, _) => j == i
        | none => true
      else true)
    && (List.range 8).all (fun k =>
      match plBinding p (8 + k) with
      | some (far, _) => far == 0 || far == 1 || far == 4
      | none => true))

/-- Whether two planes are identical as a lockstep pair must be: bytes 0 to 2,351 of every frame (R87, R447). -/
def lockSame (a b : PlaneSt) : Bool :=
  (List.range 16).all (fun d => natBits (a.frame d).toNat 0 18816 == natBits (b.frame d).toNat 0 18816)

/-- Whether a frame's bindings cross a LOST crossing, or a DETOURED one in an image of another map (R338). -/
def State.mapStale (s : State) (i : Nat) (mapGen : Nat) (p : Payload) : Bool :=
  (List.range 16).any (fun k =>
    match plBinding p k with
    | some (far, ch) => (bondsBetween (ergDie i) far).any (fun b =>
        let st := (s.cross (crossKey (i % 64) (ch / 4) b)).state
        st == crLost || (st == crDetoured && mapGen != s.fld WELL_MAP_GEN WELL_MAP_GEN_GEN))
    | none => false)

/-- Whether a twin's claims count as its primary's. -/
def State.twinClaims (s : State) (i c : Nat) : Bool := decide (64 ≤ i) && s.primaryLocks i c

/-- The status that refuses a frame for what it would do on the device (R75, R78, R82, R338). -/
def State.frameRefusal (s : State) (ld : LoadSt) (b : List Byte) : Option (Nat × Nat) :=
  let i := duneErg (frameDune b)
  let c := frameCtx b
  let d := duneLocal (frameDune b)
  let p := framePayload b
  let cl := if s.twinClaims i c then [] else planeClaims i c d p
  let firstOf := ld.next % 16 = 0
  let others := if firstOf then s.otherClaims i c else s.fab.claims
  if s.snapPlane i c then some (stImageRejected, 12)
  else if s.ergActive i = some c ∧ !(s.fldOn (FAB_ERG_STATUS i) FAB_ERG_STATUS_ISOLATED && s.forced i) then some (stActiveNotIsolated, 0)
  else if claimsClash cl ∨ cl.any (fun a => others.any (fun x => claimsMeet a x)) then some (stOwnership, 0)
  else if s.mapStale i (fileNum ld.manifest 28 4) p then some (stStaleMap, 0)
  else none

/-- The status that refuses a twin's last frame, once its plane is whole (R87). -/
def State.lockRefusal (s : State) (i c : Nat) : Option Nat :=
  if i < 64 then none
  else
    let pl := (s.erg i).plane c
    let twin := plLockstep pl.settings
    if !twin then
      if s.twinClaims i c then
        let cl := (List.range 16).flatMap (fun d => planeClaims i c d (pl.frame d))
        if claimsClash cl ∨ s.claimConflict cl then some stOwnership else none
      else none
    else if s.primaryLocks i c ∧ lockSame ((s.erg (i - 64)).plane c) pl ∧ lockInputsOk i pl ∧ lockInputsOk (i - 64) ((s.erg (i - 64)).plane c) then none
    else some stLockstep

/-! ### Writing a frame -/

/-- The first frame of a plane: its content, saved state, claims and staging are discarded, it reads LOADING, and the clock of an erg whose
active plane it is stops (R73, R74, R76). -/
def State.planeBegin (s : State) (i c image : Nat) : State :=
  let s := s.dropClaims i c
  let e := s.erg i
  let e := if e.staging.any (fun st => st.ctx == c) then { e with staging := none } else e
  let s := (s.setErg i (e.setPlane c { imageId := BitVec.ofNat 64 image })).setPlaneState i c plLoading
  if s.ergActive i = some c then
    let e := s.erg i
    let waiting := e.pend ++ e.held.toList ++ e.due.toList
    let s := s.setErg i { e with pend := [], held := none, due := none, loadGate := true, newContent := false, relEnd := false }
    let s := waiting.foldl (fun s r => s.refuseSwitch i r.src true) s
    (s.showHeld i).setFld (FAB_ERG_STATUS i) FAB_ERG_STATUS_ACTIVE_WRITE 1
  else s

/-- The direction fields of a dune's well outputs, by bond × 64 + channel (R80, R448). -/
def duneDirs (i d : Nat) (p : Payload) : List (Nat × DirWord) :=
  (planeClaims i 0 d p).flatMap (fun c =>
    match c.what with
    | .chan _ ch lo hi => (List.range (hi + 1 - lo)).map (fun k => ((lo + k) * 64 + ch, dirWord (if lo = ergDie i + 1 then dirUp else dirDown)))
    | .pin _ => [])

/-- A dune's claims accepted, and the direction fields they use formed in the plane (R78, R80, R448). -/
def State.claimDune (s : State) (i c d : Nat) (p : Payload) : State :=
  let e := s.erg i
  let pl := e.plane c
  let dirs := (duneDirs i d p).foldl (fun (m : SMap DirWord) x => m.set (fun _ => 0) x.1 x.2) pl.dirs
  let pin : BitVec 3 := if d = 0 ∧ plGioOe p then BitVec.ofNat 3 dirUp else pl.pinDir
  let s := s.setErg i (e.setPlane c { pl with dirs := dirs, pinDir := pin })
  { s with fab := { s.fab with claims := s.fab.claims ++ planeClaims i c d p } }

/-- A plane frame written, with its claims accepted; a twin's count as its primary's, which forms their direction fields (R87). -/
def State.putFrame (s : State) (b : List Byte) (newPlane : Bool) (image : Nat) : State :=
  let i := duneErg (frameDune b)
  let c := frameCtx b
  let d := duneLocal (frameDune b)
  let p := framePayload b
  let s := if newPlane then s.planeBegin i c image else s
  let e := s.erg i
  let pl := e.plane c
  let s := s.setErg i (e.setPlane c { pl with frames := pl.frames.set (fun _ => 0) d p })
  if s.twinClaims i c then s else s.claimDune i c d p

/-- A memory frame held in the erg's staging (R449). -/
def State.stageFrame (s : State) (b : List Byte) : State :=
  let i := duneErg (frameDune b)
  let e := s.erg i
  let st := match e.staging with
    | some x => if x.ctx = frameCtx b then x else { ctx := frameCtx b }
    | none => { ctx := frameCtx b }
  let k := 32 * duneLocal (frameDune b) + fileNum b 21 1 % 4 * 8 + natBits (fileNum b 21 1) 2 3
  s.setErg i { e with staging := some { st with parts := st.parts.set (fun _ => none) k (some (BitVec.ofNat 16384 (fileNum b 32 2048))) } }

/-- A frame that has passed: written, and the load advanced to its next frame or to the third stage. -/
def State.frameNext (s : State) (it : Option Item) (ld : LoadSt) (b : List Byte) : State :=
  let nx := ld.advance b
  if nx.next = manCount nx.manifest then s.loadEnd it nx else s.setLoad (some nx)

/-- A load into a layer whose configuration die is in reset fails (R494); the cause is not stated, and is a free value. -/
def State.dieResetLoad (s : State) (ld : LoadSt) : State :=
  (s.spend 1).loadFails ld stImageRejected (Config.freeValue 8 s.freeCtr).toNat

/-- A frame checked and written (R73 to R78, R451). What a frame would do to the planes, claims and staging of the fabric is checked where it
is written there; the well map rule of R338 holds for a frame of a slot, or of an erg that the item leaves out, too (DEDUCED, log entry 150). -/
def State.frameTake (s : State) (it : Option Item) (ld : LoadSt) (b : List Byte) (storeOk : Bool) : State :=
  match ld.frameFault b with
  | some c => s.loadFails ld stImageRejected c
  | none =>
    let i := duneErg (frameDune b)
    let c := frameCtx b
    if (ld.target ≠ 0 ∨ !ld.takes i) ∧ !frameIsMem b ∧ s.mapStale i (fileNum ld.manifest 28 4) (framePayload b) then s.loadFails ld stStaleMap 0
    else if ld.target ≠ 0 then (if storeOk then s.frameNext it ld b else s.loadFails ld stImageRejected 11)
    else if !ld.takes i then s.frameNext it ld b
    else if s.cfgDieReset i then s.dieResetLoad ld
    else if frameIsMem b then (s.stageFrame b).frameNext it ld b
    else match s.frameRefusal ld b with
      | some (st, cause) => s.loadFails ld st cause
      | none =>
        let new := ld.next % 16 = 0
        let s := s.putFrame b new (manImage ld.manifest)
        let ld := if new then { ld with planes := (8 * i + c) :: ld.planes } else ld
        if ld.next % 16 = 15 then
          match s.lockRefusal i c with
          | some st => s.loadFails ld st 0
          | none =>
            let s := if s.twinClaims i c ∧ !plLockstep ((s.erg i).plane c).settings then
                (List.range 16).foldl (fun s d => s.claimDune i c d (((s.erg i).plane c).frame d)) s
              else s
            s.frameNext it ld b
        else s.frameNext it ld b

/-- Whether the load in progress may go on: its item is performed, or it is the power-up load. The configuration engine runs from the
management clock (R485). -/
def State.loadItem (s : State) (ld : LoadSt) : Option (Option Item) :=
  if ld.powerUp then (if s.clk.mgmtReset then none else some none)
  else match s.curOp keyConfig opImageLoad with
    | some c => some (some c.item)
    | none => none

/-- The journal shows that frames are in progress (R461). -/
def State.framesStep (s : State) (ld : LoadSt) : State :=
  if ld.next = 0 ∧ !ld.powerUp then
    match s.cur keyConfig with
    | some c => if c.step = 1 then s.journalStep keyConfig 2 0 else s
    | none => s
  else s

/-- IMAGE_FRAME (R451, R567): the next frame of the load in progress. -/
def execImageFrame (res : HostRead) (storeOk : Bool) (s : State) : Host.Outcome State Fault Refusal :=
  match s.store.load with
  | none => done s
  | some ld =>
    if ld.activating then done s
    else match s.loadItem ld with
      | none => done s
      | some it =>
        let off := frameOff ld.sigLen ld.next
        if ld.len < off + frameBytes then done (s.loadFails ld stImageRejected 6)
        else match s.loadRead ld.src off frameBytes (res != .ok) with
          | (s, .fails st) => done (s.loadFails ld st 0)
          | (s, .waits) => done s
          | (s, .bytes b) => done ((s.framesStep ld).frameTake it ld b storeOk)

/-! ### Activation and power-up (R453 to R456, R468, R469) -/

/-- An erg's marked context activated (R55, R454). -/
def State.activateErg (s : State) (ld : LoadSt) (i : Nat) : State :=
  let a := manActivate ld.manifest i
  if natBit a 7 ∧ ld.takes i then s.bringIn i (a % 8) false else s

/-- The source of an activated image, as CFG.STATUS.BOOT_SLOT shows it. -/
def LoadSt.bootSlot (ld : LoadSt) : Nat :=
  match ld.src with
  | .slot k => k + 1
  | _ => 3

/-- The activation edge (R454, R456): the pad ring begins to act on the lane settings, so lanes already enabled start (R455). -/
def State.activate (s : State) (ld : LoadSt) : State :=
  let s := (List.range 128).foldl (fun s i => s.activateErg ld i) s
  let s := (List.range 64).foldl (fun s n => s.showPaired n) s
  if ld.wake then (s.setLoad none).cfgEngine 0
  else
  let first := !s.pins.cfgDone
  let s := { s with pins := { s.pins with cfgDone := true, cfgErr := false } }
  let s := if first then (List.range 48).foldl (fun s n => s.laneRestart n) s else s
  let fell := ld.powerUp ∧ ld.bootSlot ≠ s.fld CFG_POLICY CFG_POLICY_PREFERRED + 1
  let s := s.setFlds CFG_STATUS [(CFG_STATUS_DONE, 1), (CFG_STATUS_ERR, 0), (CFG_STATUS_BOOT_SLOT, ld.bootSlot), (CFG_STATUS_FALLBACK, bit01 fell)]
  if ld.powerUp then
    ({ s with sec := { s.sec with imageHash := BitVec.ofNat 384 (fileNum ld.manifest 208 48) } }.setLoad none).cfgEngine 0
  else s.imageDone

/-- ERG_ACTIVATION (R454): it waits for the end of the oasis self-test and for a running root (R266). -/
def execErgActivation (s : State) : Host.Outcome State Fault Refusal :=
  match s.store.load with
  | some ld =>
    if ld.activating ∧ s.clk.rootRun ∧ (List.range 128).all (fun i => !s.oasClearing i) ∧ (s.loadItem ld).isSome then done (s.activate ld) else done s
  | none => done s

/-- The stack repair record applied (R335, R453 step 1). -/
def State.applyRepair (s : State) : State :=
  let s := { s with fab := { s.fab with cross := s.store.crossRec, repairDue := [] } }
  s.setFld WELL_MAP_GEN WELL_MAP_GEN_GEN s.store.mapGen

/-- Stack attestation (R468, R469): `dies` says which passed. -/
def State.attestStack (s : State) (dies : BitVec 7) : State :=
  let s := s.setFlds SEC_STATUS [(SEC_STATUS_ATTEST, dies.toNat), (SEC_STATUS_ATTEST_DONE, 1)]
  let s := (List.range 7).foldl (fun s k => if natBit dies.toNat k then s else s.raiseReg 0x0D03 k 0 SEC_STATUS) s
  if dies.toNat = 0x7F then s
  else { s with pins := { s.pins with cfgErr := true } }.setFld CFG_STATUS CFG_STATUS_ERR 1

/-- The slot chosen at power-up (R453 step 3). -/
def State.bootSlot (s : State) : Option Nat :=
  let p := s.fld CFG_POLICY CFG_POLICY_PREFERRED
  if s.slotState p = slValid then some p else if s.slotState (otherSlot p) = slValid then some (otherSlot p) else none

/-- The first power-up load begun. -/
def State.bootFirst (s : State) (k : Nat) : State :=
  match s.stageOne (bootLoad s k false) false with
  | (s, .passed ld) => s.loadInto ld
  | (s, .fails st c) => (s.bootError st c).bootSecond k
  | (s, .waits) => s

/-- The reload of the slot that BOOT_SLOT shows, on wake from Dormant; an image that came from the host is not reloaded (R504). -/
def State.wakeLoad (s : State) : State :=
  let b := s.fld CFG_STATUS CFG_STATUS_BOOT_SLOT
  if b = 1 ∨ b = 2 then
    match s.stageOne { bootLoad s (b - 1) false with wake := true } false with
    | (s, .passed ld) => s.loadInto ld
    | (s, .fails st c) => s.wakeError st c
    | (s, .waits) => s
  else s

/-- POWER_UP_LOAD (R453, R468, R469, R504), once the management domain and the root run (R496 steps 3, 5 to 7, 11). A fabric that already runs is
not loaded again (R456). -/
def execPowerUpLoad (dies : BitVec 7) (s : State) : Host.Outcome State Fault Refusal :=
  if s.store.bootDue ∧ !s.clk.mgmtReset ∧ s.clk.rootRun then
    let wake := s.store.wakeDue
    let s := { s with store := { s.store with bootDue := false, wakeDue := false } }.applyRepair
    let s := s.attestStack dies
    if s.attestFailed then done s
    else if wake then done s.wakeLoad
    else if s.pins.cfgDone then done s
    else match s.bootSlot with
      | some k => done (s.bootFirst k)
      | none => done s
  else done s

/-! ### Readback (R86, R450) -/

/-- A payload with a state in its initial-value fields (R447, R450). -/
def payloadWith (p : Payload) (d : Nat → DuneSt) (k : Nat) : Payload :=
  let st := d k
  let cellNum := fun (c : CellSt) => c.q.toNat + 2 ^ 32 * bit01 c.f + 2 ^ 33 * c.l0.toNat + 2 ^ 65 * c.l1.toNat + 2 ^ 97 * c.l2.toNat
    + 2 ^ 129 * c.l3.toNat + 2 ^ 161 * c.acc.toNat
  let cells := (List.range 64).foldr (fun c acc => cellNum (st.cells.get (fun _ => {}) c) + 2 ^ 209 * acc) 0
  let outs := (List.range 8).foldr (fun m acc => (st.bmOut.get (fun _ => {}) m).word.toNat + 2 ^ 32 * acc) 0
  let n := p.toNat
  BitVec.ofNat 20480 (natBits n 0 5184 + 2 ^ 5184 * cells + 2 ^ 18560 * outs + 2 ^ 18816 * (n / 2 ^ 18816))

/-- The payload of dune d as a plane holds it: saved state stands in the initial-value fields of a plane that has been activated. -/
def State.planeWords (s : State) (i c d : Nat) : Payload :=
  let pl := (s.erg i).plane c
  let st := s.planeState i c
  if st = plValid ∨ st = plSnapFull then payloadWith (pl.frame d) (fun d => pl.saved.get (fun _ => {}) d) d else pl.frame d

/-- A frame with a valid header and CRC (R446, R450). -/
def State.frameOf (s : State) (image kindCtx part dune index count : Nat) (payload : List Byte) : List Byte :=
  let b := toBytes 2 0x59 ++ toBytes 2 (variantCode s.variant) ++ toBytes 8 s.fuses.stackSig.toNat ++ toBytes 8 image ++ toBytes 1 kindCtx
    ++ toBytes 1 part ++ toBytes 2 dune ++ toBytes 4 index ++ toBytes 4 count ++ payload
  b ++ toBytes 4 (crc32c b)

/-- The payload of a snapshot's south-west dune, with what R83 records in its erg-level area (R450). -/
def State.snapWords (s : State) (i c d : Nat) : Payload :=
  let p := s.planeWords i c d
  if s.planeState i c = plSnapFull ∧ d = 0 then
    let pl := (s.erg i).plane c
    let at_ := 8 * (2454 + 16)
    let rec_ := s.fld (FAB_ERG_SNAP i) FAB_ERG_SNAP_CTX + 2 ^ 8 * bit01 pl.snapIso + 2 ^ 16 * (pl.snapSettle % 256)
    BitVec.ofNat 20480 (p.toNat - natBits p.toNat at_ 24 * 2 ^ at_ + rec_ * 2 ^ at_)
  else p

/-- The 16 frames of a plane. -/
def State.planeFrames (s : State) (i c : Nat) : List Byte :=
  (List.range 16).flatMap (fun d => s.frameOf ((s.erg i).plane c).imageId.toNat c 0 (packDune i d) d 16 (toBytes 2560 (s.snapWords i c d).toNat))

/-- The 512 memory frames of an erg. -/
def State.memFrames (s : State) (i : Nat) : List Byte :=
  let image := match s.ergActive i with
    | some a => ((s.erg i).plane a).imageId.toNat
    | none => 0
  (List.range 512).flatMap (fun n =>
    let d := n / 32
    let m := n / 8 % 4
    let part := n % 8
    let words := (List.range 512).flatMap (fun w => toBytes 4 (bmRead s.fab.bm (packDune i d) m (512 * part + w)).word.toNat)
    s.frameOf image (128 + (s.ergActive i).getD 0) (m + 4 * part) (packDune i d) n 512 (words ++ List.replicate 512 0))

/-- READBACK (R86, R450). -/
def execReadback (hostFail : Bool) (s : State) : Host.Outcome State Fault Refusal :=
  match s.curOp keyConfig opReadback with
  | none => done s
  | some c =>
    let it := c.item
    let i := it.unit % 128
    let p := it.num 16 1 % 8
    let mem := natBit (it.num 16 1) 3
    let need := if mem then 1329152 else 41536
    if s.cfgDieReset i then done s
    else
    if it.num 32 4 < need then done (s.finishSt keyConfig stBadDescriptor)
    else
      let st := s.planeState i p
      if !mem ∧ st ≠ plFresh ∧ st ≠ plValid ∧ st ≠ plSnapFull then done (s.finishSt keyConfig stContextNotValid)
      else if hostFail ∨ !s.mayIssue then done (s.finishSt keyConfig stHostError)
      else
        let bytes := if mem then s.memFrames i else s.planeFrames i p
        done ((s.hostWrite (it.num 24 8) bytes).finish keyConfig { status := stSuccess, count := need })

/-! ### ERG_RESERVE (R67, R477) -/

/-- ERG_RESERVE. -/
def execErgReserve (s : State) : Host.Outcome State Fault Refusal :=
  match s.curOp keyConfig opErgReserve with
  | none => done s
  | some c =>
    let it := c.item
    let s := (List.range 128).foldl (fun s i =>
      if natBit (it.num 16 16) i then s.setFld (FAB_ERG_STATUS i) FAB_ERG_STATUS_RESERVED (it.num 32 1 % 2) else s) s
    done (s.finishSt keyConfig stSuccess)

/-! ### Scrubbing (R81, R462, R463) -/

/-- Bits of a word of a payload replaced. -/
def putWord (p : Nat) (w v : Nat) : Nat := p - natBits p (64 * w) 64 * 2 ^ (64 * w) + v % 2 ^ 64 * 2 ^ (64 * w)

/-- A word of a plane replaced by what the scrubber or an uncorrectable upset leaves there: instruction and routing words in the frame,
initial-value words in the saved state of a plane that has been activated. -/
def State.setPlaneWord (s : State) (i c d w v : Nat) : State :=
  let e := s.erg i
  let pl := e.plane c
  let st := s.planeState i c
  let frames := pl.frames.set (fun _ => 0) d (BitVec.ofNat 20480 (putWord (pl.frame d).toNat w v))
  if st = plValid ∨ st = plSnapFull then
    let new := initialDune (BitVec.ofNat 20480 (putWord (s.planeWords i c d).toNat w v))
    let old := pl.saved.get (fun _ => {}) d
    let dune := if 81 ≤ w ∧ w < 294 then { old with cells := new.cells, bmOut := new.bmOut } else old
    s.setErg i (e.setPlane c { pl with frames := frames, saved := pl.saved.set (fun _ => {}) d dune })
  else s.setErg i (e.setPlane c { pl with frames := frames })

/-- The first uncorrectable word logged, counted, and reported (R463, R465). -/
def State.scrubBad (s : State) (i plane d w : Nat) (staging : Bool) (sub : Nat) : State :=
  let dune := packDune i d
  let s := s.satFld CFG_SCRUB CFG_SCRUB_UNCORR 1
  let s := if s.fldOn CFG_SCRUB_LOG CFG_SCRUB_LOG_VALID then s
    else s.setFlds CFG_SCRUB_LOG [(CFG_SCRUB_LOG_VALID, 1), (CFG_SCRUB_LOG_WORD, w), (CFG_SCRUB_LOG_STAGING, bit01 staging), (CFG_SCRUB_LOG_PLANE, plane),
      (CFG_SCRUB_LOG_DUNE, dune)]
  s.raiseRaw 0x0D02 (if sub = 2 then 3 else 2) (evtDie 0x0D02 dune) (BitVec.ofNat 128 (dune + 2 ^ 32 * sub + 2 ^ 64 * (s.reg CFG_SCRUB_LOG).toNat))

/-- A plane word read by the scrubber. -/
def State.scrubPlane (s : State) (i c d w : Nat) (flip : BitVec 72) : State :=
  let st := s.planeState i c
  if st = plLoading then s
  else
    let raw := oasEncode (natBits (s.planeWords i c d).toNat (64 * w) 64) ^^^ flip
    match oasDecode raw with
    | .clean => s
    | .corrected v =>
      let s := (s.setPlaneWord i c d w (natBits v.toNat 0 64)).satFld CFG_SCRUB CFG_SCRUB_CORR 1
      if s.ergActive i = some c ∧ ((77 ≤ w ∧ w ≤ 80) ∨ (306 ≤ w ∧ d = 0)) then s.copyDirs i ((s.erg i).plane c) else s
    | .bad =>
      if s.ergActive i = some c then
        let s := (s.setPlaneWord i c d w (natBits raw.toNat 0 64)).setFld (FAB_ERG_ISO i) FAB_ERG_ISO_FORCE 1
        let e := s.erg i
        let s := s.setErg i { (e.setPlane c { e.plane c with badDue := true }) with forceEnd := false, relEnd := false }
        s.scrubBad i c d w false 2
      else
        let s := (s.setPlaneWord i c d w (natBits raw.toNat 0 64)).scrubBad i c d w false 1
        if st = plSnapFree then s else (s.dropClaims i c).setPlaneState i c plInvalid

/-- A staging word read by the scrubber. -/
def State.scrubStaging (s : State) (i d part w : Nat) (flip : BitVec 72) : State :=
  match (s.erg i).staging with
  | none => s
  | some stg =>
    if s.planeState i stg.ctx = plLoading ∨ 256 ≤ w then s
    else
      let k := 32 * d + part
      let part := stg.parts.get (fun _ => none) k
      let v := part.getD 0
      match oasDecode (oasEncode (natBits v.toNat (64 * w) 64) ^^^ flip) with
      | .clean => s
      | .corrected x =>
        let v := BitVec.ofNat 16384 (putWord v.toNat w (natBits x.toNat 0 64))
        (s.setErg i { s.erg i with staging := some { stg with parts := stg.parts.set (fun _ => none) k (part.map (fun _ => v)) } }).satFld
          CFG_SCRUB CFG_SCRUB_CORR 1
      | .bad => (s.scrubBad i stg.ctx d w true 3).spoilPlane (8 * i + stg.ctx)

/-- PLANE_SCRUB_WORD (R462, R463): no plane names the memory staging, of which `part` is the memory × 8 + part. A pass ends with the last
word of the last erg's staging (DESIGN CHOICE, log entry 46). -/
def execPlaneScrubWord (i : ErgNo) (plane : Option PlaneNo) (dune : Fin 16) (part : Fin 32) (word : Fin 320) (flips : List (Fin 72)) (s : State) :
    Host.Outcome State Fault Refusal :=
  let flip := flips.foldl (fun (x : BitVec 72) b => x ^^^ BitVec.ofNat 72 (2 ^ b.val)) 0
  if s.cfgDieReset i then done s
  else
  match plane with
  | some c => done (s.scrubPlane i c dune word flip)
  | none =>
    let s := s.scrubStaging i dune part word flip
    if i.val = 127 ∧ dune.val = 15 ∧ part.val = 31 ∧ word.val = 255 then done (s.wrapFld CFG_SCRUB CFG_SCRUB_PASSES 1) else done s

end Sys2Proof.Machine
end

