-- ==== Sys2Proof/Machine/TrigSeq.lean ====
section
/-!
DEFINITION. The trigger matrix and the trigger sequencer (chapter 05): the 64 lines, the rules, counters and timers, the actions.
-/
namespace Sys2Proof.Machine

def State.seq (s : State) : SeqSt := s.cap.seq
def State.setSeq (s : State) (v : SeqSt) : State := { s with cap := { s.cap with seq := v } }

/-! ### Lines (R162, R163, R178) -/

/-- The level sources of late lines at this edge: SIGDET and WAKE.SEEN of a lane, FREE zero, which counts the beat of this edge (R147), and
a full region of a queue. -/
def State.levelSources (s : State) : BitVec 64 :=
  let lane := (List.range 12).foldl (fun m k =>
    let r := CAP_TRIG_LANE k
    let n := s.fld r CAP_TRIG_LANE_LANE
    let on := s.fldOn r CAP_TRIG_LANE_EN && decide (n < 48) && (match s.fld r CAP_TRIG_LANE_EVENT with
      | 3 => s.fldOn (LANE_STATUS n) LANE_STATUS_SIGDET
      | 4 => s.fldOn (LANE_WAKE n) LANE_WAKE_SEEN
      | _ => false)
    if on then m + 2 ^ (32 + k) else m) 0
  let que := (List.range 4).foldl (fun m k =>
    let r := CAP_TRIG_Q k
    let q := s.fld r CAP_TRIG_Q_QUEUE
    let on := s.fldOn r CAP_TRIG_Q_EN && s.queueState q != qOff && (match s.fld r CAP_TRIG_Q_COND with
      | 0 => (s.queueEdge q).queueFree q == 0
      | 3 => s.queueMode q == 2 && s.fldOn (CAP_REGION_STATUS (s.queueRegion q)) CAP_REGION_STATUS_FULL
      | _ => false)
    if on then m + 2 ^ (58 + k) else m) 0
  BitVec.ofNat 64 (lane + que)

/-- The lines at this edge. The words of a fabric line, the time unit's own lines and the software line have no further delay. -/
def State.linesNow (s : State) : BitVec 64 :=
  let fabric := (List.range 4).foldl (fun m p =>
    let r := CAP_TRIG_PORT p
    if s.fldOn r CAP_TRIG_PORT_EN then
      let top := if s.fldOn r CAP_TRIG_PORT_TOP then 6 else 3
      m + 2 ^ (8 * p) * ((s.chanAt (s.fld r CAP_TRIG_PORT_WELL) (s.fld r CAP_TRIG_PORT_CH) top 0 (wellDelay top 0 - 1)).toNat % 256)
    else m) 0
  let time := (List.range 5).foldl (fun m k =>
    if s.time.lineAt.contains (44 + k, s.time.fck) || (decide (k < 4) && natBit s.time.outs k) then m + 2 ^ (44 + k) else m) 0
  let hold := if s.fldOn TSU_STATUS TSU_STATUS_HOLDOVER then 2 ^ 49 else 0
  let soft := if s.seq.swtrig then 2 ^ 62 else 0
  BitVec.ofNat 64 (fabric + time + hold + soft + 2 ^ 63) ||| s.seq.srcs.getD 2 0

/-- The value of a line at the present edge. -/
def State.line (s : State) (k : Nat) : Bool := (s.seq.lines.headD 0).getLsbD k
/-- Its value at the edge before. -/
def State.lineBefore (s : State) (k : Nat) : Bool := (s.seq.lines.getD 1 0).getLsbD k

/-- The lines of this edge formed. -/
def State.matrixEdge (s : State) : State :=
  let v := s.seq
  let s := s.setSeq { v with srcs := ((v.pulses ||| s.levelSources) :: v.srcs).take 4, pulses := 0 }
  let l := s.linesNow
  s.setSeq { s.seq with lines := (l :: s.seq.lines).take 4, swtrig := false }

/-! ### Counters and timers (R166) -/

def State.seqRun (s : State) : Bool := s.fldOn CAP_SEQ_CTL CAP_SEQ_CTL_RUN
def State.seqState (s : State) : Nat := s.fld CAP_SEQ_STATE CAP_SEQ_STATE_CURRENT
def State.seqCount (s : State) (c : Nat) : Nat := (s.reg (CAP_CNT_VALUE c)).toNat
def State.seqTimer (s : State) (c : Nat) : Nat := (s.reg (CAP_TMR_VALUE c)).toNat

/-- Counter (0 to 3) or timer (4 to 7) `k` has reached its LIMIT. -/
def State.seqReached (s : State) (k : Nat) : Bool :=
  if k < 4 then decide (s.fld (CAP_CNT_CFG k) CAP_CNT_CFG_LIMIT ≤ s.seqCount k)
  else decide (s.fld (CAP_TMR_CFG (k - 4)) CAP_TMR_CFG_LIMIT ≤ s.seqTimer (k - 4))

/-- A counter or timer that has reached its LIMIT has expired. -/
def State.seqExpire (s : State) (k : Nat) : State :=
  if s.seqReached k ∧ !natBit s.seq.expired k then s.setSeq { s.seq with expired := s.seq.expired + 2 ^ k } else s

/-- Which counters and timers have expired, all together. -/
def State.seqExpireAll (s : State) : State :=
  s.setSeq { s.seq with expired := (List.range 8).foldl (fun m k => if s.seqReached k then m + 2 ^ k else m) 0 }

/-- SEQ_COUNTER_EXPIRY (R166). -/
def execSeqCounterExpiry (c : Fin 4) (s : State) : Host.Outcome State Fault Refusal := done (s.seqExpire c)

/-- SEQ_TIMER_EXPIRY (R166). -/
def execSeqTimerExpiry (c : Fin 4) (s : State) : Host.Outcome State Fault Refusal := done (s.seqExpire (4 + c))

/-- Counts of an edge: `st` is the state at the edge before, `la` and `lb` the lines of that edge and of the one before it. -/
def State.seqCounts (s : State) (st : Nat) (la lb : BitVec 64) : State :=
  (List.range 4).foldl (fun s c =>
    let cfg := s.reg (CAP_CNT_CFG c)
    let line := CAP_CNT_CFG_LINE.get cfg
    let s := if natBit (CAP_CNT_CFG_STATES.get cfg) st && la.getLsbD line && (CAP_CNT_CFG_MODE.on cfg || !lb.getLsbD line) then
        s.satFld (CAP_CNT_VALUE c) CAP_CNT_VALUE_COUNT 1
      else s
    if natBit (s.fld (CAP_TMR_CFG c) CAP_TMR_CFG_STATES) st then s.satFld (CAP_TMR_VALUE c) CAP_TMR_VALUE_COUNT 1 else s) s

/-! ### Rules and actions (R165, R167) -/

def seqTerm (mode : Nat) (mask lines : BitVec 64) : Bool :=
  match mode with
  | 0 => lines &&& mask != 0
  | 1 => lines &&& mask == mask
  | 2 => lines &&& mask == 0
  | _ => true

/-- Whether rule `k` of a state fires on the lines of an edge, with what has expired by then. -/
def State.ruleFires (s : State) (st k : Nat) (la : BitVec 64) (expired : Nat) : Bool :=
  let c := s.reg (CAP_RULE_CTL st k)
  let ev := CAP_RULE_CTL_EVENT.get c
  CAP_RULE_CTL_EN.on c && seqTerm (CAP_RULE_CTL_MODE.get c) (s.reg (CAP_RULE_MASK st k)) la
    && (ev == 0 || (decide (ev ≤ 8) && natBit expired (ev - 1)))

/-- The queues of a group. -/
def State.groupMask (s : State) (g : Nat) : BitVec 256 :=
  BitVec.ofNat 256 ((List.range 4).foldl (fun n w => n + 2 ^ (64 * w) * (s.reg (CAP_SEQ_GROUP g w)).toNat) 0)

/-- The trigger record of a rule: the lines that fired it, the counters it was evaluated on, and the stamp of the edge of those lines
(R144). -/
def State.triggerRecord (s : State) (st next k acts : Nat) (la : BitVec 64) (counts : List Nat) : DevRec :=
  { kind := 1, stamp := s.time.stamp - 40, mark := s.timeMark 40
    payload := toBytes 1 st ++ toBytes 1 next ++ toBytes 1 k ++ toBytes 1 acts ++ toBytes 4 0 ++ toBytes 8 la.toNat
      ++ counts.flatMap (fun n => toBytes 4 n) }

/-- The transition of rule `k`, at this edge, with its actions. -/
def State.seqFire (s : State) (st k : Nat) (la : BitVec 64) (counts : List Nat) : State :=
  let c := s.reg (CAP_RULE_CTL st k)
  let next := CAP_RULE_CTL_NEXT.get c
  let s := s.setFlds CAP_SEQ_STATE [(CAP_SEQ_STATE_CURRENT, next), (CAP_SEQ_STATE_LAST_RULE, k),
    (CAP_SEQ_STATE_TRANSITIONS, s.fld CAP_SEQ_STATE CAP_SEQ_STATE_TRANSITIONS + 1)]
  let s := (List.range 4).foldl (fun s j =>
    let s := if natBit (CAP_RULE_CTL_CRST.get c) j then s.setReg (CAP_CNT_VALUE j) 0 else s
    if natBit (CAP_RULE_CTL_TRST.get c) j then s.setReg (CAP_TMR_VALUE j) 0 else s) s
  let a : QAction :=
    { atA := s.time.fck + 2, atB := s.time.fck + 3, queues := s.groupMask (CAP_RULE_CTL_GROUP.get c)
      freeze := CAP_RULE_CTL_FREEZE.on c, start := CAP_RULE_CTL_START.on c, stop := CAP_RULE_CTL_STOP.on c
      trec := if CAP_RULE_CTL_TREC.on c then some (s.triggerRecord st next k (natBits c.toNat 13 8) la counts) else none }
  let some_ := a.freeze || a.start || a.stop || a.trec.isSome
  let v := s.seq
  let s := s.setSeq { v with actions := if some_ then v.actions ++ [a] else v.actions
                             actWord := BitVec.ofNat 32 (CAP_RULE_CTL_ACT.get c + 16 * next) }
  if CAP_RULE_CTL_EVT.on c then s.raiseReg 0x0408 (2 * st + k) 0 CAP_SEQ_STATE else s

/-- The sequencer at an edge: rules on the lines of the edge before and on the counters as they stood there (R165, R166). RUN acts from
the first edge after its write, and the first evaluation follows at the next (DEDUCED, log entry 28). -/
def State.seqEdge (s : State) : State :=
  let v := s.seq
  let s := s.setSeq { v with actWord := v.actWord &&& 0xFFFFFFF0 }
  let s := if s.seqRun then
      if v.ran = 0 then s.setSeq { s.seq with ran := s.time.fck + 1 }
      else
        let st := s.seqState
        let la := v.lines.getD 1 0
        let counts := (List.range 4).map s.seqCount
        let fires := fun k => s.ruleFires st k la v.expired
        let t := s.seqCounts st la (v.lines.getD 2 0)
        if fires 0 then t.seqFire st 0 la counts else if fires 1 then t.seqFire st 1 la counts else t
    else s
  s.setReg CAP_SEQ_LINES (s.seq.lines.headD 0)

/-- The action word driven upward at the base-die stop (R167). -/
def State.driveAction (s : State) : State :=
  let c := s.reg CAP_SEQ_CTL
  if CAP_SEQ_CTL_ACT_EN.on c then
    s.drive (CAP_SEQ_CTL_ACT_WELL.get c) (CAP_SEQ_CTL_ACT_CH.get c) 0 (if CAP_SEQ_CTL_ACT_TOP.on c then 6 else 3) s.seq.actWord
  else s

/-! ### The control register (R164, R178) -/

def actTop (c : Data) : Nat := if CAP_SEQ_CTL_ACT_TOP.on c then 6 else 3

/-- The action word's binding changed. A binding that conflicts leaves the old one in place (DEDUCED, log entry 29). -/
def State.actBind (s : State) (old new : Data) : State × Data :=
  let keep := [CAP_SEQ_CTL_ACT_EN, CAP_SEQ_CTL_ACT_TOP, CAP_SEQ_CTL_ACT_WELL, CAP_SEQ_CTL_ACT_CH].foldl (fun v f => f.put v (f.get old)) new
  let well := CAP_SEQ_CTL_ACT_WELL.get new
  let ch := CAP_SEQ_CTL_ACT_CH.get new
  if keep = new then (s, new)
  else if CAP_SEQ_CTL_ACT_EN.on new then
    let cl := chanClaims .actionWord well ch 1 1 (actTop new)
    if s.bindRefused .actionWord well ch 1 cl 1 (actTop new) then (s, keep) else (s.setClaims .actionWord cl, new)
  else (s.setClaims .actionWord [], new)

/-- A write of CAP.SEQ.CTL. Every write of RUN 1 starts the sequencer anew (R164). -/
def State.seqCtlWrite (s : State) (data : Data) : State :=
  let old := s.reg CAP_SEQ_CTL
  let x := s.actBind old (plainWrite CAP_SEQ_CTL_info old data)
  let new := x.2
  let s := x.1.setReg CAP_SEQ_CTL new
  let s := if CAP_SEQ_CTL_SWTRIG.on data then s.setSeq { s.seq with swtrig := true } else s
  if CAP_SEQ_CTL_RUN.on new then
    let s := (List.range 4).foldl (fun s c => (s.setReg (CAP_CNT_VALUE c) 0).setReg (CAP_TMR_VALUE c) 0) s
    let s := s.setFlds CAP_SEQ_STATE [(CAP_SEQ_STATE_CURRENT, CAP_SEQ_CTL_START.get new), (CAP_SEQ_STATE_TRANSITIONS, 0)]
    s.setSeq { s.seq with ran := 0 }
  else s

/-- SEQUENCER_RUN (R164). -/
def execSequencerRun (data : Data) (s : State) : Host.Outcome State Fault Refusal :=
  done (s.regWrite CAP_SEQ_CTL data (fun s => s.seqCtlWrite data))

/-- SWTRIG (R178). -/
def execSwtrig (data : Data) (s : State) : Host.Outcome State Fault Refusal :=
  done (s.regWrite CAP_SEQ_CTL data (fun s => s.seqCtlWrite data))

end Sys2Proof.Machine
end

