-- ==== Sys2Proof/Machine/Players.lean ====
section
/-!
DEFINITION. Pattern players (chapter 06): the walk of a segment list, the prefetch buffer, starts, frames and their journal entry, the
grains given to a lane or to the fabric.
-/
namespace Sys2Proof.Machine

def State.player (s : State) (p : Nat) : PlySt := s.ply.get (fun _ => {}) p
def State.setPlayer (s : State) (p : Nat) (v : PlySt) : State := { s with ply := s.ply.set (fun _ => {}) p v }
def State.plyState (s : State) (p : Nat) : Nat := s.fld (SCH_PLY_STATUS p) SCH_PLY_STATUS_STATE
def State.setPlyState (s : State) (p st : Nat) : State := s.setFld (SCH_PLY_STATUS p) SCH_PLY_STATUS_STATE st
def pyOff := 0
def pyIdle := 1
def pyPriming := 2
def pyArmed := 3
def pyPlaying := 4
def pyStopping := 5
def pyFault := 6
def State.plyFabric (s : State) (p : Nat) : Bool := s.fldOn (SCH_PLY_CFG p) SCH_PLY_CFG_OUT
/-- The requester of a player (R301). -/
def plyReq (p : Nat) : Nat := 32 + p / 4
def State.plyJwin (s : State) (p : Nat) : Nat := max 1 (s.fld (SCH_PLY_CFG p) SCH_PLY_CFG_JWIN)
/-- The current item changed. -/
def State.setPlay (s : State) (p : Nat) (x : PlayItem) : State := s.setPlayer p { s.player p with cur := some x }

/-! ### The item's operands and the list's entries (R185, R403) -/

def Item.listAddr (it : Item) : Nat := it.num 16 8
def Item.listSpace (it : Item) : Nat := it.num 24 1
def Item.listCount (it : Item) : Nat := it.num 26 2 + 1
def Item.loops (it : Item) : Nat := it.num 28 4
def Item.timed (it : Item) : Bool := natBit (it.num 32 8) 63
/-- The start time in units of 1/24,576,000 ns. -/
def Item.startAt (it : Item) : Nat :=
  (natBits (it.num 32 8) 0 48 * 1000000000 + natBits (it.num 40 8) 16 30) * 24576000 + natBits (it.num 40 8) 0 16 * 375

def segData (e : Nat) : Nat := natBits e 0 64
def segGrains (e : Nat) : Nat := natBits e 64 32
def segRepeat (e : Nat) : Nat := natBits e 96 16
def segEof (e : Nat) : Bool := natBit e 112
def segEnd (e : Nat) : Bool := natBit e 113
def segJump (e : Nat) : Bool := natBit e 114
def segLevel (e : Nat) : Nat := natBits e 115 2
def segTag (e : Nat) : Nat := natBits e 117 2
def segSpace (e : Nat) : Nat := natBits e 120 8
def segNext (e : Nat) : Nat := natBits e 128 16
def segLoop (e : Nat) : Nat := natBits e 144 16
def segGap (e : Nat) : Nat := natBits e 160 32
def segTagAddr (e : Nat) : Nat := natBits e 192 64

/-! ### Reads of the source (R183, R187, R301) -/

/-- The pattern fault of an address or a space, beside the ring statuses. -/
def stPattern : Nat := 100

/-- Words of the bound oasis group read through the feed. -/
def State.feedRead (g req : Nat) : (fuel : Nat) → Nat → State → State × Nat × List Byte
  | 0, _, s => (s, 0, [])
  | k + 1, w, s =>
    let r := (s.oasConflict g w req false).oasRead g w req
    if r.2.2.2 then (r.1, 1, [])
    else
      let t := State.feedRead g req k (w + 1) r.1
      (t.1, t.2.1, toBytes 8 r.2.1 ++ t.2.2)

/-- Bytes of a player's source: state, status, bytes. DRAM reads need plaintext rights; an oasis must be the one bound in FEED, and the
address lie within its group. -/
def State.plyRead (s : State) (p space a len : Nat) : State × Nat × List Byte :=
  if space = 2 then s.plainAcc (plyReq p) a (.read len)
  else
    let feed := s.reg (SCH_PLY_FEED p)
    let g := 64 * space + SCH_PLY_FEED_GROUP.get feed
    if 2 < space ∨ !SCH_PLY_FEED_BOUND.on feed ∨ SCH_PLY_FEED_LAYER.get feed ≠ space ∨ 2 ^ 24 < a + len then (s, stPattern, [])
    else if s.oasClearing g then (s, memWait, [])
    else if s.fldOn (OAS_G_CTL g) OAS_G_CTL_TEST then (s, 7, [])
    else
      let r := State.feedRead g (plyReq p) ((a % 8 + len + 7) / 8) (a / 8) s
      (r.1, r.2.1, (r.2.2.drop (a % 8)).take len)

/-- One entry of an item's list. A list in an oasis is named by a BAR4 offset, whose group must be the one bound (R403). -/
def State.segRead (s : State) (p : Nat) (it : Item) (k : Nat) : State × Nat × Nat :=
  let a := it.listAddr
  let sp := it.listSpace
  let bad := a % 8 ≠ 0 ∨ (sp < 2 ∧ a / 2 ^ 24 ≠ s.fld (SCH_PLY_FEED p) SCH_PLY_FEED_GROUP + 64 * sp)
  if bad then (s, stPattern, 0)
  else
    let r := s.plyRead p sp ((if sp < 2 then a % 2 ^ 24 else a) + 32 * k) 32
    (r.1, r.2.1, ofBytes r.2.2)

/-! ### The walk (R186, R187) -/

/-- The end of a pass that sent something since: the last data grain in the buffer ends its frame, or the frame ends where it is. -/
def markEnd (next : WalkPos) (buf : List BufGrain) : List BufGrain :=
  match buf.reverse.findIdx? (fun b => match b with | .data _ _ _ _ => true | _ => false) with
  | some k =>
    let i := buf.length - 1 - k
    match buf[i]? with
    | some (.data g tag first _) => buf.set i (.data g tag first (some next))
    | _ => buf
  | none => buf ++ [.endFrame next]

/-- The walk leaves an entry for another: the pass ends at an END that is not jumped from, and with the last pass the item. -/
def PlayItem.leave (x : PlayItem) (e nxt : Nat) (w : WalkPos) : PlayItem :=
  if segEnd e ∧ nxt = w.entry + 1 then
    let w' := { w with entry := 0, rep := none, grain := 0, lvl := [none, none, none, none], pass := w.pass + 1, inFrame := false }
    let x := if w.inFrame then { x with buf := markEnd w' x.buf } else x
    let ends := x.item.loops ≠ 0 ∧ w.pass + 1 = x.item.loops
    { x with fetch := w', fetched := ends, buf := if ends then x.buf ++ [.done] else x.buf }
  else { x with fetch := { w with entry := nxt, rep := none, grain := 0 } }

/-- The fetch ends at a fault or a read's error. -/
def PlayItem.stop (x : PlayItem) (b : BufGrain) : PlayItem := { x with fetched := true, buf := x.buf ++ [b] }

/-- A read's status ends the fetch, or makes it wait. -/
def PlayItem.readBad (x : PlayItem) (st : Nat) : PlayItem :=
  if st = memWait then x else if st = stPattern then x.stop .fault else x.stop (.err st)

/-- A jump entry walked. -/
def PlayItem.jump (x : PlayItem) (e : Nat) : PlayItem :=
  let w := { x.fetch with barren := x.fetch.barren + 1 }
  if 16 ≤ w.barren then x.stop .fault
  else
    let n := match w.lvl.getD (segLevel e) none with
      | some n => n
      | none => segLoop e
    if n = 0 then x.leave e (w.entry + 1) { w with lvl := w.lvl.set (segLevel e) none }
    else x.leave e (segNext e) { w with lvl := w.lvl.set (segLevel e) (some (if segLoop e = 0xFFFF then n else n - 1)) }

/-- A repetition's end: its frame's end, its gap, the next repetition or entry. -/
def PlayItem.repEnd (x : PlayItem) (e further : Nat) (w : WalkPos) : PlayItem :=
  let x := if segGap e = 0 then x else { x with buf := x.buf ++ [.gap (segGap e)] }
  if further = 0 then x.leave e (w.entry + 1) w else { x with fetch := { w with rep := some (further - 1), grain := 0 } }

/-- The place behind a repetition, without effect on the buffer. -/
def PlayItem.placeAfter (x : PlayItem) (e further : Nat) (w : WalkPos) : WalkPos :=
  ({ x with buf := [] }.repEnd e further { w with inFrame := false }).fetch

/-- Grains of a data entry fetched, up to the end of a line. -/
def State.fetchData (s : State) (p : Nat) (x : PlayItem) (e : Nat) : State × PlayItem :=
  let w := x.fetch
  let a := segData e + 8 * w.grain
  if segGrains e = 0 ∨ 2 < segSpace e ∨ segData e % 8 ≠ 0 then (s, x.stop .fault)
  else
    let n := min (8 - a % 64 / 8) (segGrains e - w.grain)
    let r := s.plyRead p (segSpace e) a (8 * n)
    if r.2.1 ≠ 0 then (r.1, x.readBad r.2.1)
    else
      let lo := w.grain / 4
      let t := if segTagAddr e = 0 then (r.1, 0, [])
        else r.1.plyRead p (segSpace e) (segTagAddr e + lo) ((w.grain + n - 1) / 4 - lo + 1)
      if t.2.1 ≠ 0 then (t.1, x.readBad t.2.1)
      else
        let data := ofBytes r.2.2
        let tags := ofBytes t.2.2
        let tag := fun k => if segTagAddr e = 0 then segTag e else natBits tags (2 * (w.grain + k - 4 * lo)) 2
        let further := match w.rep with
          | some k => k
          | none => segRepeat e
        let whole := w.grain + n = segGrains e
        let w' := { w with barren := 0, inFrame := !(whole && segEof e) }
        let last := if whole ∧ segEof e then some (x.placeAfter e further w') else none
        let grains := (List.range n).map (fun k =>
          BufGrain.data (BitVec.ofNat 64 (natBits data (64 * k) 64)) (tag k) (!w.inFrame && k == 0) (if k + 1 = n then last else none))
        let x := { x with buf := x.buf ++ grains }
        (t.1, if whole then x.repEnd e further w' else { x with fetch := { w' with rep := some further, grain := w.grain + n } })

/-- Data grains in the buffer. -/
def PlayItem.level (x : PlayItem) : Nat := (x.buf.filter (fun b => match b with | .data _ _ _ _ => true | _ => false)).length

/-- The fetch carried on until the buffer holds so many data grains and the walk stands at another, or the item is fetched, or a read
waits. -/
def State.fetchTo (p target : Nat) : (fuel : Nat) → State → PlayItem → State × PlayItem
  | 0, s, x => (s, x)
  | k + 1, s, x =>
    if x.fetched then (s, x)
    else match x.ent with
      | some (i, e) =>
        if i ≠ x.fetch.entry then State.fetchTo p target k s { x with ent := none }
        else if segJump e then State.fetchTo p target k s (x.jump e)
        else if target ≤ x.level then (s, x)
        else
          let r := s.fetchData p x e
          if r.2 = x then r else State.fetchTo p target k r.1 r.2
      | none =>
        if x.item.listCount ≤ x.fetch.entry then (s, x.stop .fault)
        else
          let r := s.segRead p x.item x.fetch.entry
          if r.2.1 = memWait then (r.1, x)
          else if r.2.1 ≠ 0 then (r.1, x.readBad r.2.1)
          else State.fetchTo p target k r.1 { x with ent := some (x.fetch.entry, r.2.2) }

def bufGrains : Nat := 8192
def fetchFuel : Nat := 40000

/-! ### The journal entry (R201 to R204, R432) -/

/-- Repetitions remaining at a place: the further ones and the one to come; 0 at an entry not begun that is a jump or cannot be read. -/
def State.repsLeft (s : State) (p : Nat) (x : PlayItem) (w : WalkPos) : Nat :=
  match w.rep with
  | some k => k + 1
  | none =>
    let r := s.segRead p x.item w.entry
    if r.2.1 = 0 ∧ !segJump r.2.2 then segRepeat r.2.2 + 1 else 0

/-- The body of a started play entry. -/
def playBody (sent cut limit reps : Nat) (w : WalkPos) : Nat :=
  let lv := fun k => (w.lvl.getD k none).getD 0 % 65536
  let idle := (List.range 4).foldl (fun m k => m + 2 ^ k * bit01 (w.lvl.getD k none).isNone) 0
  sent % 2 ^ 64 + 2 ^ 64 * (cut % 2 ^ 32) + 2 ^ 96 * (limit % 2 ^ 64) + 2 ^ 160 * (w.entry % 65536) + 2 ^ 176 * (reps % 65536)
    + 2 ^ 192 * (lv 0 + 2 ^ 16 * lv 1 + 2 ^ 32 * lv 2 + 2 ^ 48 * lv 3) + 2 ^ 256 * idle + 2 ^ 264 * (w.pass % 2 ^ 32)

/-- The journal entry of a play item, with a limit. -/
def State.playEntry (s : State) (p : Nat) (x : PlayItem) (limit : Nat) : JEntry :=
  { wsn := x.item.wsn, ring := x.item.ring, state := 1, opc := opPlay
    body := BitVec.ofNat 384 (playBody x.sent x.cut limit (s.repsLeft p x x.next) x.next) }

/-- The place that a started play entry records. -/
def entryPos (body : Nat) : WalkPos :=
  let reps := natBits body 176 16
  { entry := natBits body 160 16, rep := if reps = 0 then none else some (reps - 1), pass := natBits body 264 32
    lvl := (List.range 4).map (fun k => if natBit body (256 + k) then none else some (natBits body (192 + 16 * k) 16)) }
def entrySent (body : Nat) : Nat := natBits body 0 64
def entryCut (body : Nat) : Nat := natBits body 64 32
def entryLimit (body : Nat) : Nat := natBits body 96 64

/-- The retained entry follows the item, with the limit last written (R201). -/
def State.playRetain (s : State) (p : Nat) (x : PlayItem) : State := s.journalRetain (1 + p) (s.playEntry p x (x.limitAsked.getD x.limit))

/-! ### The end of an item (R181, R184, R188, R189, R205) -/

/-- Whether the item waits for its start time (R190, R203). -/
def PlayItem.waits (x : PlayItem) : Bool := x.item.timed && !x.resumed && !x.begun

/-- The lane requirement of an item's start (R182). -/
def State.plyLaneOk (s : State) (p : Nat) : Bool :=
  if s.plyFabric p then s.fldOn (SCH_PLY_FABRIC p) SCH_PLY_FABRIC_BOUND
  else s.cfgOf p LANE_CFG_TX_SRC == 1 && s.cfgOf p LANE_CFG_TX_EN == 1 && s.cfgOf p LANE_CFG_TX_IDLE == 0

/-- The item plays from here on: a direct lane leaves IDLE. -/
def State.plyGo (s : State) (p : Nat) (x : PlayItem) (late : Bool) : State :=
  let s := s.setPlay p { x with late := x.late || late }
  let s := if late then s.setFld (SCH_PLY_STATUS p) SCH_PLY_STATUS_LATE 1 else s
  let s := if !s.plyFabric p ∧ s.txState p = txIdle then s.txRunNow p else s
  s.setPlyState p pyPlaying



/-- REASON, with event 0x0503 for those from 4 on. -/
def State.plyReason (s : State) (p reason : Nat) : State :=
  if reason = 0 then s
  else
    let s := s.setFld (SCH_PLY_STATUS p) SCH_PLY_STATUS_REASON reason
    s.raiseIf (decide (4 ≤ reason)) 0x0503 p 0 (SCH_PLY_STATUS p)

/-- The lane between items: IDLE where BETWEEN is 0 (R189). -/
def State.plyRest (s : State) (p : Nat) : State :=
  if !s.plyFabric p ∧ !s.fldOn (SCH_PLY_CFG p) SCH_PLY_CFG_BETWEEN ∧ s.cfgOf p LANE_CFG_TX_SRC = 1 ∧ s.txState p = txRun then s.setTx p txIdle
  else s

/-- Whether another item waits for the player. -/
def State.plyQueued (s : State) (p : Nat) : Bool := !(s.exec? (keyPlayer p)).queue.isEmpty

/-- The player with no current item: FAULT, PRIMING for a queued item, or IDLE. -/
def State.plyFree (s : State) (p : Nat) (fault : Bool) : State :=
  let s := s.setPlayer p { s.player p with cur := none, endDue := false, ending := none, ejected := false }
  let s := s.setPlyState p (if fault then pyFault else if s.plyQueued p then pyPriming else pyIdle)
  s.plyRest p

/-- TAG and FRAMES of a new current item (R207). -/
def State.showPlay (s : State) (p : Nat) (x : PlayItem) : State :=
  (s.setFld (SCH_PLY_STATUS p) SCH_PLY_STATUS_TAG x.item.tag).setReg (SCH_PLY_FRAMES p) (BitVec.ofNat 64 x.sent)

/-- Whether the item behind may follow the current one at once: it is primed, and waits for its start time or has its limit and its lane
(R184, R188). -/
def State.mayFollow (s : State) (p : Nat) (b : PlayItem) : Bool :=
  b.primed && !b.failed && s.qif != 3 && s.qif != 4 && (s.exec? (keyPlayer p)).queue.head? == some b.item
    && ((b.waits && decide (s.time.dev < b.item.startAt)) || (b.limit != 0 && s.plyLaneOk p && (s.plyFabric p || decide (txIdle ≤ s.txState p))))

/-- The item behind follows: the finished one goes on its way (R418), the executor takes the next, and the player goes on with it, ARMED for
its start time or PLAYING with no gap (R184, R188). -/
def State.plyFollow (s : State) (p : Nat) (b : PlayItem) : State :=
  let s := s.itemFinish (keyPlayer p)
  let s := (s.setPlayer p { s.player p with cur := some b, behind := none, endDue := false, ending := none, ejected := false }).showPlay p b
  let s := if b.limit = 0 ∧ b.limitAsked = none then s else s.journalPut (1 + p) (s.playEntry p b (b.limitAsked.getD b.limit))
  if b.waits ∧ s.time.dev < b.item.startAt then (s.setPlyState p pyArmed).plyRest p else s.plyGo p b b.waits

/-- The item ends with a status and a REASON. -/
def State.finishPlay (s : State) (p st reason : Nat) : State :=
  let y := s.player p
  match y.cur with
  | none => s
  | some x =>
    let st := if st = stSuccess ∧ x.underrun then stUnderrun else st
    let s := match s.cur (keyPlayer p) with
      | some c => s.setCur (keyPlayer p) (some { c with
          item := { c.item with late := c.item.late || x.late, resumed := c.item.resumed || x.resumed }
          result := some { status := st, detail := min x.cut 0x3FFFFF * 1024, count := x.sent } })
      | none => s
    let s := s.plyReason p reason
    match y.behind with
    | some b => if s.plyState p = pyPlaying ∧ reason = 0 ∧ s.mayFollow p b then s.plyFollow p b else s.plyFree p (reason = 4 || reason = 5)
    | none => s.plyFree p (reason = 4 || reason = 5)

/-- The frame in progress cut: its grains are discarded, and the walk goes on behind it (R194, R200, R205). -/
def dropFrame : List BufGrain → Option WalkPos × List BufGrain
  | [] => (none, [])
  | .data _ _ _ (some w) :: r => (some w, r)
  | .endFrame w :: r => (some w, r)
  | .done :: r => (none, .done :: r)
  | .err st :: r => (none, .err st :: r)
  | .fault :: r => (none, .fault :: r)
  | _ :: r => dropFrame r

/-- The walk carried past the frame in progress, whose grains are not wanted. -/
def State.skipFrame (p : Nat) : (fuel : Nat) → State → PlayItem → State × PlayItem
  | 0, s, x => (s, x)
  | k + 1, s, x =>
    let r := dropFrame x.buf
    match r.1 with
    | some w => (s, { x with buf := r.2, next := w })
    | none =>
      if x.fetched ∨ !r.2.isEmpty then (s, { x with buf := r.2 })
      else
        let t := State.fetchTo p 1 64 s { x with buf := [] }
        State.skipFrame p k t.1 t.2

/-- A frame that has begun and will not end (R200): counted, and the retained entry written. -/
def State.cutFrame (s : State) (p : Nat) : State :=
  match (s.player p).cur with
  | none => s
  | some x =>
    if !x.inFrame then s
    else
      let r := State.skipFrame p 4096 s { x with cut := x.cut + 1, inFrame := false }
      let s := (r.1.setPlay p r.2).satFld (SCH_PLY_CNT_UNDER p) SCH_PLY_CNT_UNDER_CUT 1
      s.playRetain p r.2

/-- The entry written to the page as the player stops for EJECT#; the item stays journalled as started (R205). -/
def State.plyEjectEnd (s : State) (p : Nat) : State :=
  match (s.player p).cur with
  | none => s
  | some x =>
    let s := if x.limit = 0 ∧ x.limitAsked = none then s else s.journalPut (1 + p) (s.playEntry p x (x.limitAsked.getD x.limit))
    let s := s.setCur (keyPlayer p) none
    let s := s.plyFree p false
    if s.qif = 3 ∨ s.qif = 4 then s.setPlyState p pyIdle else s

/-- What stands next decides: the end asked for, an error, a fault, or the item's end (R187, R188, R205). -/
def State.plySettle (s : State) (p : Nat) : State :=
  let y := s.player p
  match y.cur with
  | none => s
  | some x =>
    if y.endDue then s
    else if !x.inFrame ∧ y.ejected then s.plyEjectEnd p
    else match (if x.inFrame then none else y.ending), x.buf with
      | some (st, reason), _ => s.finishPlay p st reason
      | none, .done :: _ => s.finishPlay p stSuccess 0
      | none, .err st :: _ => (s.cutFrame p).finishPlay p (busStatus st) 5
      | none, .fault :: _ => (s.cutFrame p).finishPlay p stPatternFault 4
      | none, .endFrame w :: r => (s.setPlay p { x with buf := r, next := w }).setPlayer p
          { cur := some { x with buf := r, next := w }, behind := y.behind, endDue := true, asks := y.asks, ending := y.ending, ejected := y.ejected }
      | none, _ => s

/-- A frame's end recorded before the next frame's first grain is sent (R200, R201). -/
def State.frameEnd (s : State) (p : Nat) : State :=
  let y := s.player p
  match y.cur with
  | none => s
  | some x =>
    if !y.endDue then s
    else
      let x := { x with sent := x.sent + 1, inFrame := false }
      let s := s.setPlayer p { y with cur := some x, endDue := false }
      let s := (s.setReg (SCH_PLY_FRAMES p) (BitVec.ofNat 64 x.sent)).playRetain p x
      s.plySettle p

/-- The prime level in grains (R189). -/
def State.primeLevel (s : State) (p : Nat) : Nat :=
  let n := s.fld (SCH_PLY_CFG p) SCH_PLY_CFG_PRIME
  256 * (if n = 0 then 32 else n)

/-- The frames of which a buffer still holds the first grain. -/
def framesIn (buf : List BufGrain) : Nat := (buf.filter (fun b => match b with | .data _ _ first _ => first | _ => false)).length

/-- The item behind the current one, primed, asks for its first limit (R184, R202). Its entry goes to the page alone, since the retained
journal's place is the current item's, and only once that item has no limit of its own left to ask for (DESIGN CHOICE, log entry 137). -/
def State.askBehind (s : State) (p : Nat) (x b : PlayItem) : State × PlayItem :=
  let lastFrame := x.sent + x.cut + bit01 x.inFrame + framesIn x.buf
  let limit := s.plyJwin p
  if b.primed ∧ b.limit = 0 ∧ b.limitAsked = none ∧ !b.failed ∧ x.limitAsked = none ∧ lastFrame + limit / 2 < x.limit ∧ s.mayIssue then
    (s.journalPage (1 + p) (s.playEntry p b limit), { b with limitAsked := some limit })
  else (s, b)

/-- Whether what stands first in a buffer is to be sent. -/
def PlayItem.sendable (x : PlayItem) : Bool :=
  match x.buf with
  | .data _ _ _ _ :: _ => true
  | .gap _ :: _ => true
  | .endFrame _ :: _ => true
  | _ => false

/-- The prefetch of one fabric cycle: how much the source delivers in it is timing, so free (R184, R193). Once the current item is
fetched, the next in the ready queue is fetched behind it. A mark that comes into an empty buffer while the player sends is acted on at
once (R187, R194, R205). -/
def State.plyFetch (s : State) (p : Nat) : State :=
  let y := s.player p
  match y.cur with
  | none => s
  | some x =>
    let n := Config.freeBelow 9 s.freeCtr
    let s := s.spend 1
    if !x.fetched then
      let r := State.fetchTo p (min bufGrains (x.level + n)) fetchFuel s x
      let s := r.1.setPlay p r.2
      if s.plyState p = pyPlaying ∨ s.plyState p = pyStopping then s.plySettle p else s
    else
      match (s.exec? (keyPlayer p)).queue.head? with
      | none => s
      | some it =>
        let b := match y.behind with
          | some b => if b.item = it then b else { item := it }
          | none => { item := it }
        let r := State.fetchTo p (min (bufGrains - x.level) (b.level + n)) fetchFuel s b
        let b := { r.2 with primed := r.2.sendable && (r.2.fetched || decide (r.1.primeLevel p ≤ r.2.level)) }
        let t := r.1.askBehind p x b
        t.1.setPlayer p { t.1.player p with behind := some t.2 }

/-! ### Starting (R182, R189 to R191, R202) -/

/-- A limit asked for: the entry is written to the page and a read of it issued. A write that fails ends the item (R202). -/
def State.askLimit (s : State) (p limit : Nat) : State :=
  match (s.player p).cur with
  | none => s
  | some x =>
    if s.mayIssue then
      let x := { x with limitAsked := some limit }
      (s.setPlay p x).journalPut (1 + p) (s.playEntry p x limit)
    else
      let s := s.setPlayer p { s.player p with ending := some (stHostError, 6) }
      s.plySettle p

/-- A primed item starts, is armed, or waits for its limit or its lane (R182, R189, R191, R202). A lane still STARTING or DISABLED is
waited for (DEDUCED, log entry 31). -/
def State.plyTry (s : State) (p : Nat) : State :=
  match (s.player p).cur with
  | none => s
  | some x =>
    let st := s.plyState p
    if !x.primed ∨ (st ≠ pyPriming ∧ st ≠ pyArmed) then s
    else if x.waits ∧ s.time.dev < x.item.startAt then s.setPlyState p pyArmed
    else if !s.plyLaneOk p then s.finishPlay p stLaneNotReady 3
    else if x.limit = 0 ∧ x.limitAsked = none then s
    else if x.limit ≤ x.sent + x.cut then s
    else if !s.plyFabric p ∧ s.txState p < txIdle then s
    else s.plyGo p x x.waits

/-- A primed item asks for its first limit (R202), and starts if it may. -/
def State.plyPrimed (s : State) (p : Nat) : State :=
  match (s.player p).cur with
  | none => s
  | some x =>
    let s := s.setPlay p { x with primed := true }
    let t := s.plyTry p
    if (t.player p).cur.isSome ∧ x.limit = 0 ∧ x.limitAsked = none then t.askLimit p (x.sent + x.cut + s.plyJwin p) else t

/-- PRIME_REACHED (R189). -/
def execPrimeReached (p : PlayerNo) (s : State) : Host.Outcome State Fault Refusal :=
  match (s.player p).cur with
  | none => done s
  | some x =>
    if s.plyState p = pyPriming ∧ !x.primed then
      let r := State.fetchTo p (s.primeLevel p) fetchFuel s x
      let s := r.1.setPlay p r.2
      if r.2.fetched ∨ s.primeLevel p ≤ r.2.level then
        match r.2.buf with
        | .err _ :: _ => done (s.plySettle p)
        | .fault :: _ => done (s.plySettle p)
        | .done :: _ => done (s.plySettle p)
        | _ => done (s.plyPrimed p)
      else done s
    else done s

/-- An item taken by a player: begun afresh, or resumed from the retained entry at frame SENT + CUT + 1. An entry with no frame ended
or cut is of an item not begun (R203, DEDUCED, log entry 30). -/
def State.playItem (s : State) (p : Nat) (c : Running) : PlayItem :=
  let y := s.player p
  let j := s.jentry (1 + p)
  let b := j.body.toNat
  if j.state = 1 ∧ j.wsn = c.item.wsn ∧ j.ring = c.item.ring ∧ entrySent b + entryCut b ≠ 0 then
    let w := entryPos b
    { item := c.item, fetch := w, next := w, sent := entrySent b, cut := entryCut b, resumed := true }
  else match y.behind with
    | some x => if x.item = c.item then x else { item := c.item }
    | none => { item := c.item }

/-- PLAY (R181, R186, R188). A player in FAULT takes no item until the completion of the last is written. -/
def execPlay (p : PlayerNo) (s : State) : Host.Outcome State Fault Refusal :=
  match s.curOp (keyPlayer p) opPlay, (s.player p).cur with
  | some c, none =>
    if s.plyState p = pyFault then done s
    else if !s.fldOn (SCH_PLY_CFG p) SCH_PLY_CFG_EN then done (s.finishSt (keyPlayer p) stLaneNotReady)
    else
      let x := s.playItem p c
      let s := s.setPlayer p { s.player p with cur := some { x with primed := false, failed := false }, behind := none, endDue := false, ending := none, ejected := false }
      let s := if x.limit = 0 ∧ x.limitAsked = none then s else s.journalPut (1 + p) (s.playEntry p x (x.limitAsked.getD x.limit))
      let s := (s.showPlay p x).setPlyState p pyPriming
      done (if x.failed then s.finishPlay p stHostError 6 else s)
  | _, _ => done s

/-- JOURNAL_LIMIT_READ (R202): while the link is down the read is held and does not end (R410). -/
def execJournalLimitRead (p : PlayerNo) (res : HostRead) (s : State) : Host.Outcome State Fault Refusal :=
  let y := s.player p
  match y.cur with
  | none => done s
  | some x =>
    match x.limitAsked with
    | none =>
      match y.behind with
      | none => done s
      | some b =>
        match b.limitAsked with
        | none => done s
        | some n =>
          if !s.host.linkUp then done s
          else
            let b := { b with limitAsked := none, limit := if res = .ok then n else 0, failed := res != .ok }
            done (s.setPlayer p { y with behind := some b })
    | some n =>
      if !s.host.linkUp then done s
      else if res = .ok then
        let x := { x with limit := n, limitAsked := none }
        let s := s.setPlay p x
        done (if s.plyState p = pyPlaying ∨ s.plyState p = pyStopping then s else s.plyTry p)
      else
        let s := s.setPlayer p { y with cur := some { x with limitAsked := none }, ending := some (stHostError, 6) }
        done (s.plySettle p)

/-- Units of 1/24,576,000 ns in a fabric cycle and in a stamp tick. -/
def edgeUnits : Nat := 25600000
def tickUnits : Nat := 640000

/-- START_ACT of a grain whose first UI leaves at a device time at or after the present edge's; the time to the next symbol boundary is
free within a symbol period (R190). -/
def State.startStamp (s : State) (p at_ : Nat) : State :=
  let period := 38400000 / max 1 (s.fld (LANE_RATE p) LANE_RATE_TX_KBD) + 2
  let n := (at_ - s.time.dev) / tickUnits + Config.freeBelow period s.freeCtr
  (s.setReg (SCH_PLY_START_ACT p) (s.time.stamp + BitVec.ofNat 64 n)).spend 1

/-- The start time of an armed item reached: the direct lane frames afresh with the item's first grain, and what was being sent is
truncated (R190). -/
def State.startReached (s : State) (p : Nat) : State :=
  match (s.player p).cur with
  | none => s
  | some x =>
    let due := if s.plyFabric p then decide (x.item.startAt ≤ s.time.dev) else decide (x.item.startAt < s.time.dev + edgeUnits)
    if s.plyState p = pyArmed ∧ due ∧ x.waits then
      if !s.plyLaneOk p then s.finishPlay p stLaneNotReady 3
      else if x.limit ≤ x.sent + x.cut ∨ (!s.plyFabric p ∧ s.txState p < txIdle) then s
      else if s.plyFabric p then s.plyGo p x (decide (x.item.startAt + edgeUnits ≤ s.time.dev))
      else
        let late := decide (x.item.startAt < s.time.dev)
        let s := s.plyGo p x late
        if late then s
        else
          let s := s.setLane p { s.lane p with txPos := 0, txMsg := [], txWait := [], txBits := [] }
          s.startStamp p x.item.startAt
    else s

/-- START_TIME_REACHED (R190). -/
def execStartTimeReached (p : PlayerNo) (s : State) : Host.Outcome State Fault Refusal := done (s.startReached p)

/-- A direct lane leaves IDLE at least 8 ns before a start, for gap words until then (R190). -/
def State.plyLift (s : State) (p : Nat) : State :=
  match (s.player p).cur with
  | none => s
  | some x =>
    if s.plyState p = pyArmed ∧ x.waits ∧ !s.plyFabric p ∧ s.plyLaneOk p ∧ s.txState p = txIdle
        ∧ x.item.startAt ≤ s.time.dev + 9 * edgeUnits then s.txRunNow p
    else s

/-! ### Grains (R186, R190, R194, R200, R202) -/

/-- What a player gives for one grain: a data grain (with whether it begins and ends a frame, and whether it is the item's first), a gap
grain, a journal wait, a grain owed and not held, or nothing to send. -/
inductive GrainOut where
  | data (g : BitVec 64) (tag : Nat) (first last start : Bool)
  | gap
  | stall
  | under
  | idle
deriving DecidableEq, Repr

/-- The next grain of the current item. -/
def State.plyGrain (s : State) (p : Nat) : State × GrainOut :=
  let s := s.frameEnd p
  let y := s.player p
  let st := s.plyState p
  match y.cur with
  | none => (s, .idle)
  | some x =>
    if st ≠ pyPlaying ∧ st ≠ pyStopping then (s, .idle)
    else match x.buf with
      | .gap n :: r => ((s.setPlay p { x with buf := if n ≤ 1 then r else .gap (n - 1) :: r }).plySettle p, .gap)
      | .data g tag first last :: r =>
        let k := x.sent + x.cut + 1
        if first ∧ !x.inFrame ∧ x.limit < k then
          let s := if x.stalled then s else s.satFld (SCH_PLY_CNT_UNDER p) SCH_PLY_CNT_UNDER_JSTALL 1
          (s.setPlay p { x with stalled := true }, .stall)
        else
          let ask := first && !x.inFrame && x.limitAsked == none && k + s.plyJwin p / 2 == x.limit
          let x' := { x with buf := r, inFrame := true, begun := true, stalled := false }
          let s := s.setPlayer p { y with cur := some x', endDue := last.isSome }
          let s := if ask then s.askLimit p (x.limit + s.plyJwin p) else s
          -- the position moves on with the frame's last grain, behind the entry that its first grain writes
          let s := match last, (s.player p).cur with
            | some w, some z => s.setPlay p { z with next := w }
            | _, _ => s
          (s.plySettle p, .data g tag first last.isSome (!x.begun))
      | _ => if x.fetched then (s, .idle) else (s, .under)

/-- An underrun noted: STATUS.UNDERRUN, and an event at the item's first (R194). -/
def State.plyUnder (s : State) (p : Nat) : State :=
  match (s.player p).cur with
  | none => s
  | some x =>
    let s := (s.setPlay p { x with underrun := true }).setFld (SCH_PLY_STATUS p) SCH_PLY_STATUS_UNDERRUN 1
    s.raiseIf (!x.underrun) 0x0502 p 0 (SCH_PLY_STATUS p)

def State.plyCuts (s : State) (p : Nat) : Bool := s.fld (SCH_PLY_CFG p) SCH_PLY_CFG_UNDER == 1

/-- The frame in progress cut: an end asked for comes about, else the player reprimes for the next frame (R194, R205). -/
def State.plyReprime (s : State) (p : Nat) : State :=
  let was := (s.player p).cur.map (fun x => x.item)
  let s := (s.cutFrame p).plySettle p
  match (s.player p).cur with
  | none => s
  | some x => if some x.item = was then (s.setPlay p { x with primed := false }).setPlyState p pyPriming else s

/-- START_ACT of an item that starts with no start time or late: the first UI leaves 15.708 ns and, with encoding, 24 ns after the grain
is taken, at a grain boundary whose place in the cycle is free (R113, R190). -/
def State.startNow (s : State) (p : Nat) : State :=
  let n := (if s.cfgOf p LANE_CFG_TX_FEC = 1 then 1525 else 603) + Config.freeBelow 40 s.freeCtr
  (s.setReg (SCH_PLY_START_ACT p) (s.time.stamp + BitVec.ofNat 64 n)).spend 1

def State.gapGrain (s : State) (p : Nat) : BitVec 64 × Nat := (s.reg (SCH_PLY_GAP_WORD p), s.fld (SCH_PLY_CFG p) SCH_PLY_CFG_GAP_TAG)
def State.fillGrain (s : State) (p : Nat) : BitVec 64 × Nat := (s.reg (LANE_TX_FILL p), s.cfgOf p LANE_CFG_FILL_TAG)

/-- A lane in RUN under its player takes a grain (R112, R189, R194). -/
def State.laneTakes (s : State) (p : Nat) : State :=
  if s.txState p = txRun ∧ s.cfgOf p LANE_CFG_TX_SRC = 1 ∧ !s.plyFabric p ∧ s.time.run then
    let wasTimed := match (s.player p).cur with
      | some x => x.waits && !x.late
      | none => false
    let r := s.plyGrain p
    let s := r.1
    match r.2 with
    | .data g tag _ _ start =>
      let s := if start ∧ !wasTimed then s.startNow p else s
      let n := (s.lane p).txWait.length
      let s := s.txSend p [(g, tag)]
      if start ∧ wasTimed then
        let l := s.lane p
        s.setLane p { l with txWait := l.txWait.take n ++ (l.txWait.drop n).map (fun b => (s.time.fck + 1, b.2)) }
      else s
    | .gap => s.txSend p [s.gapGrain p]
    | .stall => s.txSend p [s.gapGrain p]
    | .under =>
      let s := s.plyUnder p
      let s := s.satFld (LANE_ERRCNT p) LANE_ERRCNT_UNDERRUN 1
      if s.plyCuts p then (s.plyReprime p).txSend p [s.fillGrain p]
      else (s.satFld (SCH_PLY_CNT_UNDER p) SCH_PLY_CNT_UNDER_FILL 1).txSend p [s.fillGrain p]
    | .idle => if s.plyState p = pyOff then s.txSend p [s.fillGrain p] else s.txSend p [s.gapGrain p]
  else s

/-- LANE_TAKES_GRAIN (R194). -/
def execLaneTakesGrain (p : PlayerNo) (s : State) : Host.Outcome State Fault Refusal := done (s.laneTakes p)

/-- PLAYER_FRAME_END (R201). -/
def execPlayerFrameEnd (p : PlayerNo) (s : State) : Host.Outcome State Fault Refusal := done (s.frameEnd p)

/-- The grains of a demand of two edges before, and the control word, written upward at this edge (R192). -/
def State.plyFabricGrains (p : Nat) : (n : Nat) → State → State × List (BitVec 64 × Nat × Bool × Bool × Bool)
  | 0, s => (s, [])
  | n + 1, s =>
    let r := s.plyGrain p
    match r.2 with
    | .data g tag first last start =>
      let t := State.plyFabricGrains p n r.1
      (t.1, (g, tag, first, last, start) :: t.2)
    | .gap =>
      let t := State.plyFabricGrains p n r.1
      let w := s.gapGrain p
      (t.1, (w.1, w.2, false, false, false) :: t.2)
    | .under =>
      let s := r.1.plyUnder p
      if s.plyCuts p then (s.plyReprime p, [])
      else (s.satFld (SCH_PLY_CNT_UNDER p) SCH_PLY_CNT_UNDER_FILL (n + 1), [])
    | _ => (r.1, [])

/-- A fabric-mode player at an edge: one ARMED whose start time has come plays at this edge (R190). -/
def State.plyDrive (s : State) (p : Nat) : State :=
  let c := s.reg (SCH_PLY_FABRIC p)
  if !SCH_PLY_FABRIC_BOUND.on c ∨ !s.plyFabric p then s
  else
    let s := s.startReached p
    let well := SCH_PLY_FABRIC_WELL.get c
    let ch := SCH_PLY_FABRIC_CH.get c
    let top := if SCH_PLY_FABRIC_TOP.on c then 6 else 3
    let y := s.player p
    let r := State.plyFabricGrains p (y.asks.getD 1 0) s
    let s := r.1
    let gs := r.2
    let ask := min ((s.chanDown well (ch + 9) 0).toNat % 8) 4
    let s := s.setPlayer p { s.player p with asks := (ask :: y.asks).take 2 }
    let z := fun (g : BitVec 64 × Nat × Bool × Bool × Bool) => g
    let sum := fun (f : Nat → (BitVec 64 × Nat × Bool × Bool × Bool) → Nat) => (gs.zipIdx.map (fun e => f e.2 (z e.1))).foldl (· + ·) 0
    let ctl := if y.cur.isSome ∧ pyPlaying ≤ s.plyState p ∨ !gs.isEmpty then
        2 ^ gs.length - 1 + sum (fun g e => 2 ^ (4 + 2 * g) * (e.2.1 % 4)) + 2 ^ 12 * sum (fun _ e => bit01 e.2.2.2.2)
          + sum (fun g e => 2 ^ (16 + g) * bit01 e.2.2.1) + sum (fun g e => 2 ^ (20 + g) * bit01 e.2.2.2.1) + 2 ^ 24 * (s.time.fck % 256)
      else 0
    let s := if gs.any (fun e => e.2.2.2.2) then s.setReg (SCH_PLY_START_ACT p) s.time.stamp else s
    let s := gs.zipIdx.foldl (fun s e =>
      (s.drive well (ch + 2 * e.2) 0 top (BitVec.ofNat 32 e.1.1.toNat)).drive well (ch + 2 * e.2 + 1) 0 top (BitVec.ofNat 32 (e.1.1.toNat / 2 ^ 32))) s
    s.drive well (ch + 8) 0 top (BitVec.ofNat 32 ctl)

/-! ### Cases (R205) -/

/-- PLAYER_READ_ERROR (R205): a read of pattern data or list answered with an error. -/
def execPlayerReadError (p : PlayerNo) (status : RingStatus) (s : State) : Host.Outcome State Fault Refusal :=
  if (s.player p).cur.isSome ∧ status ≠ .success then done (((s.frameEnd p).cutFrame p).finishPlay p (stBusError (ringStatusCode status)) 5) else done s

/-- The lane has lost RUN other than by software: the player returns to PRIMING, for the next frame (R205). -/
def State.plyLaneLost (s : State) (p : Nat) : State :=
  let s := s.frameEnd p
  match (s.player p).cur with
  | none => s
  | some x =>
    if s.plyFabric p ∨ (s.plyState p ≠ pyPlaying ∧ s.plyState p ≠ pyStopping) then s
    else (s.raiseIf x.inFrame 0x0504 p 0 (SCH_PLY_FRAMES p)).plyReprime p

/-- LANE_RUN_LOST (R205). -/
def execLaneRunLost (p : PlayerNo) (s : State) : Host.Outcome State Fault Refusal := done (s.plyLaneLost p)

/-- Software has stopped the lane during an item (R205). -/
def State.plyLaneStopped (s : State) (p : Nat) : State :=
  let s := s.frameEnd p
  match (s.player p).cur with
  | none => s
  | some _ => if s.plyFabric p then s else (s.cutFrame p).finishPlay p stLaneNotReady 3

/-- A cancel of the current item (R205). -/
def State.plyCancel (s : State) (p : Nat) : State :=
  if s.plyState p = pyPlaying then
    let s := s.setPlyState p pyStopping
    (s.setPlayer p { s.player p with ending := some (stCancelled, 0) }).plySettle p
  else if s.plyState p = pyPriming ∨ s.plyState p = pyArmed then s.finishPlay p stCancelled 0
  else s

/-- EJECT# at a player (R205, R411). A frame in progress may end, until the player is made to cut it. -/
def State.plyEject (s : State) (p : Nat) : State :=
  match (s.player p).cur with
  | none => s
  | some _ =>
    let s := s.setPlayer p { s.player p with ejected := true }
    let s := if s.plyState p = pyPlaying then s.setPlyState p pyStopping else s
    s.plySettle p

/-- The frame in progress is cut, and the stop for EJECT# ends. -/
def State.plyEjectCut (s : State) (p : Nat) : State := ((s.frameEnd p).cutFrame p).plySettle p

/-- A reset that reaches the players: a frame in progress counts as cut; the retained entry stays (R203, R205). -/
def State.plyReset (s : State) (p : Nat) : State := ((s.frameEnd p).cutFrame p).setPlayer p {}

/-! ### Set-up registers (R183, R192, R206) -/

def State.plyRefuse (s : State) (p reason : Nat) : State :=
  (s.setFlds (SCH_PLY_STATUS p) [(SCH_PLY_STATUS_CFG_REFUSED, 1), (SCH_PLY_STATUS_REASON, reason)]).raiseReg 0x0501 p 0 (SCH_PLY_STATUS p)

/-- Whether an item is held at a player. -/
def State.plyHolds (s : State) (p : Nat) : Bool := (s.player p).cur.isSome || (s.cur (keyPlayer p)).isSome || s.plyQueued p

/-- An enabled player takes up its lane: IDLE where BETWEEN is 0, gap grains where it is 1, unless the lane itself holds IDLE (R189). -/
def State.plyBetween (s : State) (p : Nat) : State :=
  if !s.plyFabric p ∧ s.fldOn (SCH_PLY_CFG p) SCH_PLY_CFG_BETWEEN ∧ s.cfgOf p LANE_CFG_TX_SRC = 1 ∧ s.cfgOf p LANE_CFG_TX_IDLE = 0
      ∧ s.txState p = txIdle ∧ s.pwr.st ≠ .quiet then s.txRunNow p
  else s.plyRest p

/-- A write of CFG. -/
def State.plyCfgWrite (s : State) (p : Nat) (data : Data) : State :=
  let r := SCH_PLY_CFG p
  let old := s.reg r
  let new := plainWrite SCH_PLY_CFG_info old data
  let off := s.plyState p = pyOff
  let rest := SCH_PLY_CFG_EN.put new (SCH_PLY_CFG_EN.get old)
  let s := if off then s.setReg r rest else if rest ≠ old then s.plyRefuse p 1 else s
  if SCH_PLY_CFG_EN.on new ∧ off then ((s.setFld r SCH_PLY_CFG_EN 1).setPlyState p pyIdle).plyBetween p
  else if !SCH_PLY_CFG_EN.on new ∧ !off then
    if s.plyHolds p then s.plyRefuse p 1 else (s.setFld r SCH_PLY_CFG_EN 0).setPlyState p pyOff
  else s

def feedClaims (p : Nat) (v : Data) : List Claim :=
  if SCH_PLY_FEED_BOUND.on v then
    chanClaims (.playerFeed p) (SCH_PLY_FEED_GROUP.get v) (SCH_PLY_FEED_CH.get v) (2 ^ SCH_PLY_FEED_WIDTH.get v) 1
      (if SCH_PLY_FEED_LAYER.on v then 4 else 1)
  else []

/-- A write of FEED. The store group serves no other block (R419). -/
def State.plyFeedWrite (s : State) (p : Nat) (data : Data) : State :=
  let new := plainWrite SCH_PLY_FEED_info (s.reg (SCH_PLY_FEED p)) data
  let claims := feedClaims p new
  if s.plyState p ≠ pyOff then s.plyRefuse p 1
  else if SCH_PLY_FEED_BOUND.on new ∧ (64 * SCH_PLY_FEED_LAYER.get new + SCH_PLY_FEED_GROUP.get new = s.storeGroup
      ∨ s.bindRefused (.playerFeed p) (SCH_PLY_FEED_GROUP.get new) (SCH_PLY_FEED_CH.get new) (2 ^ SCH_PLY_FEED_WIDTH.get new) claims 1
        (if SCH_PLY_FEED_LAYER.on new then 4 else 1)) then s.plyRefuse p 2
  else (s.setClaims (.playerFeed p) claims).setReg (SCH_PLY_FEED p) new

/-- A write of FABRIC. -/
def State.plyFabricWrite (s : State) (p : Nat) (data : Data) : State :=
  let new := plainWrite SCH_PLY_FABRIC_info (s.reg (SCH_PLY_FABRIC p)) data
  let well := SCH_PLY_FABRIC_WELL.get new
  let ch := SCH_PLY_FABRIC_CH.get new
  let top := if SCH_PLY_FABRIC_TOP.on new then 6 else 3
  let claims := if SCH_PLY_FABRIC_BOUND.on new then chanClaims (.playerFabric p) well ch 9 1 top else []
  if s.plyState p ≠ pyOff then s.plyRefuse p 1
  else if SCH_PLY_FABRIC_BOUND.on new ∧ s.bindRefused (.playerFabric p) well ch 11 claims 1 top then s.plyRefuse p 2
  else (s.setClaims (.playerFabric p) claims).setReg (SCH_PLY_FABRIC p) new

/-- PLAYER_CFG_WRITE (R206). -/
def execPlayerCfgWrite (p : PlayerNo) (reg : PlayerReg) (data : Data) (s : State) : Host.Outcome State Fault Refusal :=
  match reg with
  | .cfg => done (s.regWrite (SCH_PLY_CFG p) data (fun s => s.plyCfgWrite p data))
  | .feed => done (s.regWrite (SCH_PLY_FEED p) data (fun s => s.plyFeedWrite p data))
  | .fabric => done (s.regWrite (SCH_PLY_FABRIC p) data (fun s => s.plyFabricWrite p data))

end Sys2Proof.Machine
end

