-- ==== Sys2Proof/Machine/LaneRows.lean ====
section
/-!
DEFINITION. The commands of the port lanes, FEC blocks and GIO pins (chapter 04).
-/
namespace Sys2Proof.Machine

/-! ### Registers and enables (R102, R108, R559) -/

/-- TX_IDLE set, or TX_SRC changed, on a lane that is enabled while its player holds an item: the item's frame is cut, the item ends, and the
field is written, which R102 would refuse otherwise (R205; DEDUCED, log entry 135). -/
def State.laneTaken (s : State) (n : Nat) (old new : Data) : State :=
  let idle : Bool := !LANE_CFG_TX_IDLE.on old && LANE_CFG_TX_IDLE.on new
  let src : Bool := LANE_CFG_TX_SRC.get old != LANE_CFG_TX_SRC.get new && decide (LANE_CFG_TX_SRC.get new < 2)
  if s.txState n ≠ txDisabled ∧ LANE_CFG_TX_EN.on new ∧ (idle ∨ src) then
    let s := s.plyLaneStopped n
    let s := s.setReg (LANE_CFG n) (LANE_CFG_TX_IDLE.put (LANE_CFG_TX_SRC.put old (LANE_CFG_TX_SRC.get (if src then new else old))) (bit01 (LANE_CFG_TX_IDLE.on old || idle)))
    if idle ∧ s.txState n = txRun then s.setTx n txIdle else s
  else s

/-- A write of LANE[n].CFG, with what it does to a player's item (R102, R205, R559). -/
def State.laneCfg (s : State) (n : Nat) (data : Data) : State :=
  let old := s.reg (LANE_CFG n)
  let held : Bool := !s.plyFabric n && (s.player n).cur.isSome && LANE_CFG_TX_SRC.get old == 1
  let s := if held then s.laneTaken n old (plainWrite LANE_CFG_info old data) else s
  let s := s.laneCfgWrite n data
  let now := s.reg (LANE_CFG n)
  if held ∧ ((LANE_CFG_TX_EN.on old ∧ !LANE_CFG_TX_EN.on now) ∨ (!LANE_CFG_TX_IDLE.on old ∧ LANE_CFG_TX_IDLE.on now)
      ∨ LANE_CFG_TX_SRC.get old ≠ LANE_CFG_TX_SRC.get now) then s.plyLaneStopped n
  else s

/-- LANE_CFG_WRITE (R102). -/
def execLaneCfgWrite (n : LaneNo) (data : Data) (s : State) : Host.Outcome State Fault Refusal :=
  done (s.regWrite (LANE_CFG n) data (fun s => s.laneCfg n data))

/-- RX_ENABLE (R559). -/
def execRxEnable (n : LaneNo) (data : Data) (s : State) : Host.Outcome State Fault Refusal :=
  done (s.regWrite (LANE_CFG n) data (fun s => s.laneCfg n data))

/-- TX_ENABLE (R559). -/
def execTxEnable (n : LaneNo) (data : Data) (s : State) : Host.Outcome State Fault Refusal :=
  done (s.regWrite (LANE_CFG n) data (fun s => s.laneCfg n data))

/-- RX_DISABLE (R102). -/
def execRxDisable (n : LaneNo) (data : Data) (s : State) : Host.Outcome State Fault Refusal :=
  done (s.regWrite (LANE_CFG n) data (fun s => s.laneCfg n data))

/-- TX_DISABLE (R102). -/
def execTxDisable (n : LaneNo) (data : Data) (s : State) : Host.Outcome State Fault Refusal :=
  done (s.regWrite (LANE_CFG n) data (fun s => s.laneCfg n data))

/-- LANE_PORT_WRITE (R108). -/
def execLanePortWrite (n : LaneNo) (data : Data) (s : State) : Host.Outcome State Fault Refusal :=
  done (s.regWrite (LANE_PORT n) data (fun s => s.lanePortWrite n data))

/-- A write of LANE[n].RATE (R102). -/
def State.laneRateWrite (s : State) (n : Nat) (data : Data) : State := s.laneRegWrite n (LANE_RATE n) laneRateMasks LANE_RATE_info data

/-- LANE_RATE_WRITE (R102). -/
def execLaneRateWrite (n : LaneNo) (data : Data) (s : State) : Host.Outcome State Fault Refusal :=
  done (s.regWrite (LANE_RATE n) data (fun s => s.laneRateWrite n data))

/-- A write of LANE[n].ALIGN_CTL (R102). -/
def State.laneAlignWrite (s : State) (n : Nat) (data : Data) : State :=
  s.laneRegWrite n (LANE_ALIGN_CTL n) laneAlignMasks LANE_ALIGN_CTL_info data

/-- LANE_ALIGN_CTL_WRITE (R102). -/
def execLaneAlignCtlWrite (n : LaneNo) (data : Data) (s : State) : Host.Outcome State Fault Refusal :=
  done (s.regWrite (LANE_ALIGN_CTL n) data (fun s => s.laneAlignWrite n data))

/-! ### Signal, lock and alignment (R103, R117, R121) -/

/-- Whether a lane's signal detector runs: in every receive state, but in Dormant with WAKE.EN 1 only (R104). -/
def State.detects (s : State) (n : Nat) : Bool := s.pwr.st != .dormant || s.pwr.emulated || s.fldOn (LANE_WAKE n) LANE_WAKE_EN

/-- SIGNAL_DETECT (R103): the detector sees a signal. -/
def execSignalDetect (n : LaneNo) (s : State) : Host.Outcome State Fault Refusal :=
  if s.detects n then done (s.setFld (LANE_STATUS n) LANE_STATUS_SIGDET 1) else done s

/-- RX_LOCK (R103): ACQUIRE is left for LOCKED once a signal is detected. P starts from 0 at each lock (DESIGN CHOICE, log entry 124). -/
def execRxLock (n : LaneNo) (s : State) : Host.Outcome State Fault Refusal :=
  if s.rxState n = rxAcquire ∧ s.fldOn (LANE_STATUS n) LANE_STATUS_SIGDET then
    done ((s.setLane n { s.lane n with fr := {}, rxQ := [], rxP := 0 }).setRx n rxLocked)
  else done s

/-- Whether a lane waits in IDLE for its player: between items in direct mode with BETWEEN 0 (R189). -/
def State.playerIdles (s : State) (n : Nat) : Bool :=
  s.cfgOf n LANE_CFG_TX_SRC == 1 && !s.plyFabric n && !s.fldOn (SCH_PLY_CFG n) SCH_PLY_CFG_BETWEEN
    && s.fldOn (SCH_PLY_CFG n) SCH_PLY_CFG_EN && decide (s.plyState n < pyPlaying)

/-- The IDLE bit of the transmit control word that reached a lane of the fabric last (R111, R563). -/
def State.ctlIdle (s : State) (n : Nat) : Bool :=
  let port := s.reg (LANE_PORT n)
  s.cfgOf n LANE_CFG_TX_SRC == 0 && LANE_PORT_TX_BOUND.on port
    && natBit (s.chanDown (LANE_PORT_TX_WELL.get port) (LANE_PORT_TX_CH.get port + 8) 0).toNat 16

/-- TX_PLL_LOCK (R103): STARTING is left for IDLE or RUN; an item that waited for the lane may start. -/
def execTxPllLock (n : LaneNo) (s : State) : Host.Outcome State Fault Refusal :=
  if s.txState n = txStarting then
    let idle := s.fldOn (LANE_CFG n) LANE_CFG_TX_IDLE || s.ctlIdle n || s.playerIdles n || s.pwr.st == .quiet
    let s := if idle then s.setTx n txIdle else s.txRunNow n
    done (s.plyTry n)
  else done s

/-- ALIGNMENT_GAINED (R117): the lock rule of the framing is met. -/
def execAlignmentGained (n : LaneNo) (s : State) : Host.Outcome State Fault Refusal :=
  if s.rxState n = rxLocked ∧ s.framed n ∧ (s.lane n).fr.sync then done (s.setRx n rxAligned) else done s

/-- LOCK_LOST with its event. -/
def State.lockLost (s : State) (n : Nat) : State := (s.setFld (LANE_STATUS n) LANE_STATUS_LOCK_LOST 1).raiseReg 0x0302 n 0 (LANE_STATUS n)

/-- ALIGNMENT_LOST (R117, R121): the loss rule is met; the search has begun anew. -/
def execAlignmentLost (n : LaneNo) (s : State) : Host.Outcome State Fault Refusal :=
  let l := s.lane n
  if s.rxState n = rxAligned ∧ l.fr.lost then
    let s := s.setLane n { l with rxQ := [], fr := { l.fr with lost := false } }
    let s := (s.setRx n rxLocked).satFld (LANE_ERRCNT n) LANE_ERRCNT_SYNC_ERR 1
    done ((s.lockLost n).pulseNext (s.laneLines n 1))
  else done s

/-- SIGNAL_LOST (R121): the signal is gone, or present and outside the range of R100. -/
def execSignalLost (n : LaneNo) (present : Bool) (s : State) : Host.Outcome State Fault Refusal :=
  let s := if s.detects n then s.setFld (LANE_STATUS n) LANE_STATUS_SIGDET (bit01 present) else s
  if rxLocked ≤ s.rxState n then
    let s := s.rxStop n rxAcquire
    done ((s.lockLost n).pulseNext (s.laneLines n 0))
  else done s

/-! ### Margin points (R120, R121, R134) -/

/-- A write of LANE[n].MARGIN: GO is ignored while an engine owns the sampler, and, as a point runs already, while BUSY (DEDUCED, log
entry 32); it clears MARGIN_RES; below LOCKED the point is not run. -/
def State.marginWrite (s : State) (n : Nat) (data : Data) : State :=
  let s := s.writeReg (LANE_MARGIN n) data
  if !LANE_MARGIN_GO.on data ∨ s.fldOn (LANE_MARGIN n) LANE_MARGIN_OWNED ∨ s.fldOn (LANE_MARGIN n) LANE_MARGIN_BUSY then s
  else
    let s := s.setReg (LANE_MARGIN_RES n) 0
    if s.rxState n < rxLocked then s.marginResult n 0 true
    else s.marginBegin n (s.marginRun n none (s.reg (LANE_MARGIN n)).toNat)

/-- MARGIN_GO (R120). -/
def execMarginGo (n : LaneNo) (data : Data) (s : State) : Host.Outcome State Fault Refusal :=
  done (s.regWrite (LANE_MARGIN n) data (fun s => s.marginWrite n data))

/-- MARGIN_POINT_END (R120): a software point has run its 2^DWELL UI, of which no more than all were errors. -/
def execMarginPointEnd (n : LaneNo) (errors : BitVec 41) (s : State) : Host.Outcome State Fault Refusal :=
  match (s.lane n).margin with
  | some m => if m.owner.isNone then done (s.marginResult n (min errors.toNat (2 ^ m.dwell)) false) else done s
  | none => done s

/-! ### FEC counters (R119) -/

/-- The counters of a block copied into its registers. -/
def State.fecCopy (s : State) (q : Nat) : State :=
  (List.range 4).foldl (fun s k =>
    let l := s.lane (4 * q + k)
    let s := (s.setReg (FEC_CW q k) (BitVec.ofNat 64 l.runCw)).setReg (FEC_CORR q k) (BitVec.ofNat 64 l.runCorr)
    s.setFlds (FEC_UNCORR q k) [(FEC_UNCORR_UNCORR, l.runUncorr), (FEC_UNCORR_THR_CNT, l.runThr)]) s

/-- The counters of a block and its registers zeroed. -/
def State.fecZero (s : State) (q : Nat) : State :=
  (List.range 4).foldl (fun s k =>
    let n := 4 * q + k
    let s := s.setLane n { s.lane n with runCw := 0, runCorr := 0, runUncorr := 0, runThr := 0 }
    ((s.setReg (FEC_CW q k) 0).setReg (FEC_CORR q k) 0).setReg (FEC_UNCORR q k) 0) s

/-- A write of FEC[q].CTL. With both bits the copy is made first and the registers then read zero (DEDUCED, log entry 33). -/
def State.fecCtlWrite (s : State) (q : Nat) (data : Data) : State :=
  let s := s.writeReg (FEC_CTL q) data
  let s := if FEC_CTL_LATCH.on data then s.fecCopy q else s
  if FEC_CTL_CLEAR.on data then s.fecZero q else s

/-- FEC_LATCH (R119). -/
def execFecLatch (q : QuadNo) (data : Data) (s : State) : Host.Outcome State Fault Refusal :=
  done (s.regWrite (FEC_CTL q) data (fun s => s.fecCtlWrite q data))

/-- FEC_CLEAR (R119). -/
def execFecClear (q : QuadNo) (data : Data) (s : State) : Host.Outcome State Fault Refusal :=
  done (s.regWrite (FEC_CTL q) data (fun s => s.fecCtlWrite q data))

/-! ### Dawn, GIO, the quad's reset (R121, R123, R124) -/

/-- The level of a sample in millivolts under the detector's thresholds, at 0 and ±2/3 of the peak (R123). -/
def dawnLevel (peak : Nat) (mv : Int) : Nat :=
  if mv < 0 then (if 3 * mv < -(2 * peak : Nat) then 0 else 1) else if 3 * mv < (2 * peak : Nat) then 2 else 3

/-- Whether 64 samples, one a symbol and symbol 0 first, are the wake pattern of a lane (R122, R123). -/
def State.isDawn (s : State) (n peak : Nat) (mv : List Int) : Bool :=
  let pat := (s.reg (LANE_WAKE_PAT0 n)).toNat + 2 ^ 64 * (s.reg (LANE_WAKE_PAT1 n)).toNat
  decide (150 ≤ peak) && mv.map (dawnLevel peak) == (List.range 64).map (fun k => natBits pat (2 * k) 2)

/-- DAWN_MATCH (R123): `peak` is the peak seen over the preceding 64 symbols, `mv` a sample of each of the last 64 at one alignment. -/
def execDawnMatch (n : LaneNo) (peak : Nat) (mv : List Int) (s : State) : Host.Outcome State Fault Refusal :=
  if s.fldOn (LANE_WAKE n) LANE_WAKE_EN ∧ s.isDawn n peak mv then done ((s.setFld (LANE_WAKE n) LANE_WAKE_SEEN 1).raiseReg 0x0303 n 0 (LANE_WAKE n)) else done s

/-- GIO_CFG_WRITE (R124). -/
def execGioCfgWrite (k : PinNo) (data : Data) (s : State) : Host.Outcome State Fault Refusal :=
  done (s.regWrite (GIO_CFG k) data (fun s => s.gioCfgWrite k data))

/-- The reset of a quad: both directions of its lanes DISABLED, counters cleared, margin points aborted (R121). -/
def State.quadReset (s : State) (q : Nat) : State :=
  let s := (List.range 4).foldl (fun s k =>
    let n := 4 * q + k
    let s := s.plyLaneLost n
    let s := (s.rxDisable n).txDisable n
    s.setReg (LANE_ERRCNT n) 0) s
  s.fecZero q

/-- Directions of a quad with EN 1 enabled anew. -/
def State.quadRestart (s : State) (q : Nat) : State :=
  (List.range 4).foldl (fun s k => s.laneRestart (4 * q + k)) s

end Sys2Proof.Machine
end

