-- ==== Sys2Proof/Machine/Engines.lean ====
section
/-!
DEFINITION. Measurement engines (chapter 08): their instructions, transfers, margin points, items, comparators and registers.
-/
namespace Sys2Proof.Machine

def State.engState (s : State) (e : Nat) : Nat := s.fld (MEA_STATUS e) MEA_STATUS_STATE
def State.setEngState (s : State) (e st : Nat) : State := s.setFld (MEA_STATUS e) MEA_STATUS_STATE st
def enOff := 0
def enIdle := 1
def enLoading := 2
def enRunning := 3
def enWaiting := 4
def enHalted := 5
def State.engPc (s : State) (e : Nat) : Nat := s.fld (MEA_STATUS e) MEA_STATUS_PC
def State.setEngPc (s : State) (e pc : Nat) : State := s.setFld (MEA_STATUS e) MEA_STATUS_PC pc
/-- The requester of an engine (R301). -/
def engReq (e : Nat) : Nat := 44 + e / 2

/-! ### Registers, rows and operands (R228, R229, R232) -/

def EngSt.accAt (v : EngSt) (l d : Nat) : Nat := (v.acc.get (fun _ => 0) (l * 4 + d)).toNat
def EngSt.setAcc (v : EngSt) (l d n : Nat) : EngSt := { v with acc := v.acc.set (fun _ => 0) (l * 4 + d) (BitVec.ofNat 56 n) }
def EngSt.xAt (v : EngSt) (k : Nat) : Nat := v.x.get (fun _ => 0) k
def EngSt.setX (v : EngSt) (k n : Nat) : EngSt := { v with x := v.x.set (fun _ => 0) k (n % 1024) }
def EngSt.bAt (v : EngSt) (k : Nat) : Nat := (v.b.get (fun _ => 0) k).toNat
def EngSt.setB (v : EngSt) (k n : Nat) : EngSt := { v with b := v.b.set (fun _ => 0) k (BitVec.ofNat 64 n) }
/-- Fields of the lane format (R231). -/
def eiOpc (i : Nat) : Nat := natBits i 26 6
def eiD (i : Nat) : Nat := natBits i 24 2
def eiXA (i : Nat) : Nat := natBits i 21 3
def eiXB (i : Nat) : Nat := natBits i 18 3
def eiIA (i : Nat) : Bool := natBit i 17
def eiIB (i : Nat) : Bool := natBit i 16
def eiPred (i : Nat) : Nat := natBits i 14 2
def eiKind (i : Nat) : Nat := natBits i 12 2
def eiMod (i : Nat) : Nat := natBits i 0 12
/-- Fields of the control format. -/
def eiR (i : Nat) : Nat := natBits i 23 3
def eiAux (i : Nat) : Nat := natBits i 16 7
def eiImm (i : Nat) : Nat := natBits i 0 16

def eoMac := 0x01
def eoAdda := 0x02
def eoAccop := 0x04
def eoNar := 0x05
def eoCmp := 0x06
def eoHist := 0x07
def eoDivs := 0x08
def eoMarg := 0x09
def eoCntr := 0x0A
def eoSetx := 0x10
def eoAddx := 0x11
def eoLoop := 0x12
def eoJmp := 0x13
def eoLdm := 0x14
def eoStm := 0x15
def eoSetb := 0x16
def eoWait := 0x17
def eoTrig := 0x18
def eoEvt := 0x19
def eoHalt := 0x1A

/-- An operand word extended for the lane instructions other than MAC. -/
def opndLane (kind w : Nat) : Int := match kind with
  | 0 => (natBits w 0 24 : Nat)
  | 1 => signed 24 w
  | 2 => (w : Nat)
  | _ => signed 32 w

/-- The operands of MAC. -/
def opndMac (kind a b : Nat) : Int × Int := match kind with
  | 0 => ((natBits a 0 24 : Nat), (natBits b 0 24 : Nat))
  | 2 => (signed 24 a, (natBits b 0 24 : Nat))
  | _ => (signed 24 a, signed 24 b)

/-- A lane's own state as an instruction sees it. -/
structure LaneCtx where
  v : EngSt
  p : Bool
  dz : Bool

/-- An effect in every lane whose predicate holds, then the post-increments (R232). -/
def State.engLanes (s : State) (e ins : Nat) (f : Nat → LaneCtx → LaneCtx) : State :=
  let fl := (s.reg (MEA_LFLAG e)).toNat
  let r := (List.range 16).foldl (fun (a : EngSt × Nat × Nat) l =>
    let p := natBit fl l
    let on := match eiPred ins with
      | 1 => p
      | 2 => !p
      | _ => true
    let c : LaneCtx := { v := a.1, p := p, dz := natBit fl (16 + l) }
    let c := if on then f l c else c
    (c.v, a.2.1 + 2 ^ l * bit01 c.p, a.2.2 + 2 ^ l * bit01 c.dz)) (s.engSt e, 0, 0)
  let v := r.1
  let xa := eiXA ins
  let xb := eiXB ins
  let w := if eiIA ins then v.setX xa (v.xAt xa + 1) else v
  let w := if eiIB ins ∧ !(eiIA ins ∧ xa = xb) then w.setX xb (w.xAt xb + 1) else w
  (s.setEng e w).setFlds (MEA_LFLAG e) [(MEA_LFLAG_P, r.2.1), (MEA_LFLAG_DZ, r.2.2)]

/-! ### The end of an item, the next instruction (R237, R243) -/

/-- The run item ends, with the DZ bits of the lanes. -/
def State.engEnd (s : State) (e status detail : Nat) : State :=
  let s := s.setEng e { s.engSt e with passed := false, stepping := false }
  (s.finish (keyEngine e) { status := status, detail := detail, count := s.fld (MEA_LFLAG e) MEA_LFLAG_DZ }).setEngState e enIdle

/-- A fault of R237. -/
def State.engFault (s : State) (e cause : Nat) : State :=
  let s := s.setFld (MEA_STATUS e) MEA_STATUS_CAUSE cause
  s.engEnd e stEngineFault (256 * cause + 4096 * s.engPc e)

/-- The loop levels that end at an address: the innermost repeats from its first instruction, or closes. -/
def loopEnds : List LoopLvl → (pc : Nat) → List LoopLvl × Nat
  | [], pc => ([], pc)
  | l :: r, pc =>
    if l.stop = pc then
      if 1 < l.left then ({ l with left := l.left - 1 } :: r, l.first) else loopEnds r pc
    else (l :: r, pc)

/-- Execution goes on at an address; after a step the engine halts again (R237 cause 6, R246). -/
def State.engGo (s : State) (e pc : Nat) : State :=
  if 4095 < pc then s.engFault e 6
  else
    let v := s.engSt e
    let s := s.setEng e { v with passed := false, stepping := false }
    (s.setEngPc e pc).setEngState e (if v.stepping then enHalted else enRunning)

/-- The instruction is done: the next one, past the loop ends there. -/
def State.engNext (s : State) (e : Nat) : State :=
  let v := s.engSt e
  let r := loopEnds v.loops (s.engPc e + 1)
  (s.setEng e { v with loops := r.1 }).engGo e r.2

/-! ### Lane instructions (R233 to R236, R238, R239) -/

/-- MAC: ACC[D] := s ± a × b. -/
def State.insMac (s : State) (e i : Nat) : State :=
  (s.engLanes e i (fun l c =>
    let o := opndMac (eiKind i) (c.v.word (c.v.xAt (eiXA i)) l) (c.v.word (c.v.xAt (eiXB i)) l)
    let base : Int := if natBit (eiMod i) 0 then 0 else signed 56 (c.v.accAt l (eiD i))
    let x := if natBit (eiMod i) 1 then base - o.1 * o.2 else base + o.1 * o.2
    { c with v := c.v.setAcc l (eiD i) (wrapInt 56 x) })).engNext e

/-- ADDA: ACC[D] := s ± a. -/
def State.insAdda (s : State) (e i : Nat) : State :=
  (s.engLanes e i (fun l c =>
    let a := opndLane (eiKind i) (c.v.word (c.v.xAt (eiXA i)) l)
    let base : Int := if natBit (eiMod i) 0 then 0 else signed 56 (c.v.accAt l (eiD i))
    { c with v := c.v.setAcc l (eiD i) (wrapInt 56 (if natBit (eiMod i) 1 then base - a else base + a)) })).engNext e

/-- The accumulator operations. -/
def accop (op k d src : Nat) : Nat :=
  let sd := signed 56 d
  let ss := signed 56 src
  match op with
  | 0 => src
  | 1 => d + src
  | 2 => d + 2 ^ 56 - src
  | 3 => src * 2 ^ k
  | 4 => wrapInt 56 (ss / (2 ^ min k 55 : Nat))
  | 5 => src / 2 ^ k
  | 6 => if sd < ss then src else d
  | _ => if ss < sd then src else d

/-- ACCOP. -/
def State.insAccop (s : State) (e i : Nat) : State :=
  let m := eiMod i
  (s.engLanes e i (fun l c =>
    { c with v := c.v.setAcc l (eiD i) (accop (natBits m 0 3) (natBits m 5 6) (c.v.accAt l (eiD i)) (c.v.accAt l (natBits m 3 2))) })).engNext e

/-- The narrowed word of NAR, and whether it lay outside the range (R234). -/
def narrow (sgn : Bool) (m acc : Nat) : Nat × Bool :=
  let k := min (natBits m 0 6) 55
  let w := if natBit m 6 then 32 else 24
  let x : Int := if sgn then signed 56 acc else (acc : Nat)
  let t : Int := if k = 0 then x else (x + (2 ^ (k - 1) : Nat)) / (2 ^ k : Nat)
  let lo : Int := if sgn then -(2 ^ (w - 1) : Nat) else 0
  let hi : Int := if sgn then (2 ^ (w - 1) : Nat) - 1 else (2 ^ w : Nat) - 1
  let out := t < lo ∨ hi < t
  let t := if natBit m 7 then max lo (min hi t) else t
  let n := wrapInt w t
  (if sgn then wrapInt 32 (signed w n) else n, decide out)

/-- NAR. -/
def State.insNar (s : State) (e i : Nat) : State :=
  (s.engLanes e i (fun l c =>
    let n := narrow (natBit (eiKind i) 0) (eiMod i) (c.v.accAt l (eiD i))
    { c with v := c.v.setWord (c.v.xAt (eiXA i)) l n.1, p := if natBit (eiMod i) 8 then n.2 else c.p })).engNext e

/-- CMP. -/
def State.insCmp (s : State) (e i : Nat) : State :=
  let m := eiMod i
  (s.engLanes e i (fun l c =>
    let x := signed 56 (c.v.accAt l (eiD i))
    let y := if natBit m 2 then signed 56 (c.v.accAt l (natBits m 3 2)) else opndLane (eiKind i) (c.v.word (c.v.xAt (eiXA i)) l)
    let p := match natBits m 0 2 with
      | 0 => decide (x < y)
      | 1 => decide (y ≤ x)
      | 2 => decide (x = y)
      | _ => decide (x ≠ y)
    { c with p := p })).engNext e

/-- HIST (R235). -/
def State.insHist (s : State) (e i : Nat) : State :=
  let m := eiMod i
  (s.engLanes e i (fun l c =>
    let n := 2 ^ min (natBits m 6 4) 9
    let x : Int := signed 56 (c.v.accAt l (eiD i)) / (2 ^ min (natBits m 0 6) 55 : Nat)
    let idx := (max 0 (min x ((n : Nat) - 1))).toNat
    let r := c.v.xAt (eiXA i) + idx
    { c with v := c.v.setWord r l (satAdd 32 (c.v.word r l) 1) })).engNext e

/-- Division steps on (remainder, dividend and quotient, DZ) (R236). -/
def divSteps (dv : Nat) : (n : Nat) → Nat × Nat × Bool → Nat × Nat × Bool
  | 0, x => x
  | n + 1, (r, q, z) =>
    let t := 2 * r + natBits q 55 1
    let q := q * 2 % 2 ^ 56
    divSteps dv n (if dv ≤ t then ((t - dv) % 2 ^ 56, q + 1, z || dv == 0) else (t, q, z))

/-- DIVS (R236). -/
def State.insDivs (s : State) (e i : Nat) : State :=
  let m := eiMod i
  let n := if natBits m 0 6 = 0 then 64 else natBits m 0 6
  (s.engLanes e i (fun l c =>
    let dv := c.v.accAt l 2
    let r := divSteps dv n (c.v.accAt l 0, c.v.accAt l 1, c.dz)
    let q := if natBit m 6 ∧ dv ≤ 2 * r.1 then r.2.1 + 1 else r.2.1
    { c with v := (c.v.setAcc l 0 r.1).setAcc l 1 q, dz := r.2.2 })).engNext e

/-- Points started in the lanes whose predicate holds, with the parameters of lane l's word of the row: a lane still at a point is passed
over, a receiver below LOCKED gives its rows at once (R238, R245). -/
def State.startPoints (s : State) (e i : Nat) : State :=
  let fl := (s.reg (MEA_LFLAG e)).toNat
  let row := (s.engSt e).xAt (eiXA i)
  (List.range 16).foldl (fun s l =>
    let on := match eiPred i with
      | 1 => natBit fl l
      | 2 => !natBit fl l
      | _ => true
    match s.engPort e l with
    | none => s
    | some n =>
      let v := s.engSt e
      if !on ∨ ((v.pts.get (fun _ => none) l).isSome) then s
      else if s.rxState n < rxLocked then (s.setEng e (v.pointRows row l 0 true)).marginResult n 0 true
      else
        let s := s.setEng e { v with pts := v.pts.set (fun _ => none) l (some { row := row }) }
        s.marginBegin n (s.marginRun n (some (e, l)) (v.word row l))) s

/-- MARG (R238). -/
def State.insMarg (s : State) (e i : Nat) : State :=
  (((s.startPoints e i).engLanes e i (fun _ c => c)).engShow e).engNext e

/-- The running counter of a port lane (R239). -/
def State.laneCounter (s : State) (n sel : Nat) : Nat :=
  let l := s.lane n
  match sel with
  | 0 => l.runCw
  | 1 => l.runCorr
  | 2 => l.runUncorr
  | 3 => l.runThr
  | 4 => s.fld (LANE_ERRCNT n) LANE_ERRCNT_SYNC_ERR
  | 5 => s.fld (LANE_ERRCNT n) LANE_ERRCNT_UNDERRUN
  | 6 => s.fld (LANE_ERRCNT n) LANE_ERRCNT_OVERRUN
  | 7 => s.fld (LANE_MARGIN_RES n) LANE_MARGIN_RES_ERRORS
  | _ => 0

/-- CNTR (R239). -/
def State.insCntr (s : State) (e i : Nat) : State :=
  (s.engLanes e i (fun l c =>
    let n := match s.engPort e l with
      | some n => s.laneCounter n (natBits (eiMod i) 0 4)
      | none => 0
    { c with v := c.v.setAcc l (eiD i) n })).engNext e

/-! ### Control instructions (R233, R237, R240) -/

/-- SETX. -/
def State.insSetx (s : State) (e i : Nat) : State := (s.setEng e ((s.engSt e).setX (eiR i) (eiImm i))).engNext e

/-- ADDX. -/
def State.insAddx (s : State) (e i : Nat) : State :=
  let v := s.engSt e
  (s.setEng e (v.setX (eiR i) (wrapInt 10 ((v.xAt (eiR i) : Nat) + signed 16 (eiImm i))))).engNext e

/-- LOOP (R237). -/
def State.insLoop (s : State) (e i : Nat) : State :=
  let v := s.engSt e
  let first := s.engPc e + 1
  let stop := first + eiAux i + 1
  if eiImm i = 0 then
    let r := loopEnds v.loops stop
    (s.setEng e { v with loops := r.1 }).engGo e r.2
  else if 4 ≤ v.loops.length then s.engFault e 2
  else (s.setEng e { v with loops := { first := first, stop := stop, left := eiImm i } :: v.loops }).engGo e first

/-- Whether a jump from the PC enters a loop body from outside it (R237 cause 3). The bodies are those of the LOOP words in program memory
(DEDUCED, log entry 127). -/
def State.jmpEnters (s : State) (e target : Nat) : Bool :=
  (s.engSt e).prog.cells.any (fun c =>
    let i := c.2.toNat
    let inBody := fun (pc : Nat) => decide (c.1 < pc) && decide (pc ≤ c.1 + eiAux i + 1)
    eiOpc i == eoLoop && inBody target && !inBody (s.engPc e))

/-- JMP (R233, R237 cause 3). -/
def State.insJmp (s : State) (e i : Nat) : State :=
  let p := s.fld (MEA_LFLAG e) MEA_LFLAG_P
  let on := match eiAux i % 4 with
    | 0 => true
    | 1 => p != 0
    | 2 => p == 0xFFFF
    | _ => p == 0
  let target := eiImm i % 4096
  if !on then s.engNext e
  else if s.jmpEnters e target then s.engFault e 3
  else match (s.engSt e).loops with
    | [] => s.engGo e target
    | l :: _ => if l.first ≤ target ∧ target < l.stop then s.engGo e target else s.engFault e 3

/-- LDM or STM: the lines queued, B advanced (R233). A line lies at a multiple of 64 (DEDUCED, log entry 34). -/
def State.insXfer (s : State) (e i : Nat) (load : Bool) : State :=
  let v := s.engSt e
  let b := eiR i % 4
  let n := eiImm i % 256 + 1
  let a := v.bAt b
  let r := v.xAt (eiAux i % 8)
  let ls := (List.range n).map (fun k => ({ load := load, addr := (a + 64 * k) / 64 * 64 % 2 ^ 64, row := (r + k) % 1024 } : XferLine))
  ((s.setEng e ({ v with xfers := v.xfers ++ ls }.setB b (a + 64 * n))).engShow e).engNext e

/-- SETB (R233, R237 cause 4). -/
def State.insSetb (s : State) (e i : Nat) : State :=
  let v := s.engSt e
  let a := v.row (v.xAt (eiAux i % 8)) % 2 ^ 64
  if a % 64 ≠ 0 then s.engFault e 4 else (s.setEng e (v.setB (eiR i % 4) a)).engNext e

/-- WAIT (R233). -/
def State.insWait (s : State) (e i : Nat) : State :=
  let v := s.engSt e
  let busy := (natBit (eiAux i) 0 && !v.xfers.isEmpty) || (natBit (eiAux i) 1 && !v.pts.cells.isEmpty)
  if busy then s.setEngState e enWaiting else s.engNext e

/-- A trigger output pulsed (R240). -/
def State.engPulse (s : State) (e k : Nat) : State :=
  if natBit (s.fld (MEA_TRIG_EN k) MEA_TRIG_EN_ENGINES) e then s.pulseNext (BitVec.ofNat 64 (2 ^ (50 + k))) else s

/-- TRIG. -/
def State.insTrig (s : State) (e i : Nat) : State := (s.engPulse e (eiImm i % 8)).engNext e

/-- EVT. -/
def State.insEvt (s : State) (e i : Nat) : State := (s.raise 0x0702 e 0 (BitVec.ofNat 64 (eiImm i))).engNext e

/-- HALT. -/
def State.insHalt (s : State) (e i : Nat) : State := s.engEnd e stSuccess (eiImm i % 256)

/-- NOP, and a reserved opcode's fault (R237 cause 1). -/
def State.insNop (s : State) (e i : Nat) : State := if eiOpc i = 0 then s.engNext e else s.engFault e 1

/-- An instruction executed, whatever its opcode. -/
def State.insAny (s : State) (e i : Nat) : State :=
  let o := eiOpc i
  if o = eoMac then s.insMac e i
  else if o = eoAdda then s.insAdda e i
  else if o = eoAccop then s.insAccop e i
  else if o = eoNar then s.insNar e i
  else if o = eoCmp then s.insCmp e i
  else if o = eoHist then s.insHist e i
  else if o = eoDivs then s.insDivs e i
  else if o = eoMarg then s.insMarg e i
  else if o = eoCntr then s.insCntr e i
  else if o = eoSetx then s.insSetx e i
  else if o = eoAddx then s.insAddx e i
  else if o = eoLoop then s.insLoop e i
  else if o = eoJmp then s.insJmp e i
  else if o = eoLdm then s.insXfer e i true
  else if o = eoStm then s.insXfer e i false
  else if o = eoSetb then s.insSetb e i
  else if o = eoWait then s.insWait e i
  else if o = eoTrig then s.insTrig e i
  else if o = eoEvt then s.insEvt e i
  else if o = eoHalt then s.insHalt e i
  else s.insNop e i

/-! ### Comparators and the executing engine (R246) -/

/-- Whether a debug unlock is in force. -/
def State.unlocked (s : State) : Bool := s.fldOn SEC_STATUS SEC_STATUS_HOST_DBG || s.fldOn SEC_STATUS SEC_STATUS_JTAG_DBG

/-- The comparators act before the instruction at the PC; whether they halt the engine. -/
def State.engCompare (s : State) (e : Nat) : State × Bool :=
  (List.range 2).foldl (fun (a : State × Bool) k =>
    let r := a.1.reg (MEA_DBGC e k)
    let m := BitVec.ofNat 12 (MEA_DBGC_MASK.get r)
    let hit := MEA_DBGC_EN.on r && (BitVec.ofNat 12 (a.1.engPc e) &&& ~~~m) == (BitVec.ofNat 12 (MEA_DBGC_ADDR.get r) &&& ~~~m)
    if !hit then a
    else match MEA_DBGC_ACTION.get r with
      | 2 => (a.1.engPulse e (MEA_DBGC_TRIG.get r), a.2)
      | 1 => if a.1.unlocked then (a.1, true) else (a.1.raise 0x0703 e 0 (BitVec.ofNat 64 (a.1.engPc e)), a.2)
      | _ => (a.1.raise 0x0703 e 0 (BitVec.ofNat 64 (a.1.engPc e)), a.2)) (s, false)

def State.engWord (s : State) (e : Nat) : Nat := ((s.engSt e).prog.get (fun _ => 0) (s.engPc e)).toNat

/-- Whether engines execute: the root runs, and no entry into Rest or Dormant has begun, emulated or not (R245, R500, R532). -/
def State.engsRun (s : State) : Bool := s.clk.rootRun && (s.pwr.st == .active || s.pwr.st == .quiet)

/-- The instruction at the PC of a running engine executed by `f`, when its opcode passes `is`; the comparators act on it first, once.
Engines stop at an instruction boundary in Rest (R245). -/
def State.engRow (s : State) (e : Nat) (is : Nat → Bool) (f : State → Nat → State) : State :=
  let st := s.engState e
  let i := s.engWord e
  if (st = enRunning ∨ st = enWaiting) ∧ is (eiOpc i) ∧ s.engsRun then
    if (s.engSt e).passed then f s i
    else
      let c := s.engCompare e
      let t := c.1.setEng e { c.1.engSt e with passed := true }
      if c.2 then t.setEngState e enHalted else f t i
  else s

def opcIs (o x : Nat) : Bool := x == o
/-- Opcode 0 and the reserved ones. -/
def opcNop (x : Nat) : Bool := !((1 ≤ x && x ≤ 2) || (4 ≤ x && x ≤ 0x0A) || (0x10 ≤ x && x ≤ 0x1A))

/-- ENGINE_NOP (R233, R237). -/
def execEngineNop (e : EngNo) (s : State) : Host.Outcome State Fault Refusal := done (s.engRow e opcNop (fun s i => s.insNop e i))
/-- MAC (R233). -/
def execMac (e : EngNo) (s : State) : Host.Outcome State Fault Refusal := done (s.engRow e (opcIs eoMac) (fun s i => s.insMac e i))
/-- ADDA (R233). -/
def execAdda (e : EngNo) (s : State) : Host.Outcome State Fault Refusal := done (s.engRow e (opcIs eoAdda) (fun s i => s.insAdda e i))
/-- ACCOP (R233). -/
def execAccop (e : EngNo) (s : State) : Host.Outcome State Fault Refusal := done (s.engRow e (opcIs eoAccop) (fun s i => s.insAccop e i))
/-- NAR (R234). -/
def execNar (e : EngNo) (s : State) : Host.Outcome State Fault Refusal := done (s.engRow e (opcIs eoNar) (fun s i => s.insNar e i))
/-- ENGINE_CMP (R233). -/
def execEngineCmp (e : EngNo) (s : State) : Host.Outcome State Fault Refusal := done (s.engRow e (opcIs eoCmp) (fun s i => s.insCmp e i))
/-- HIST (R235). -/
def execHist (e : EngNo) (s : State) : Host.Outcome State Fault Refusal := done (s.engRow e (opcIs eoHist) (fun s i => s.insHist e i))
/-- DIVS (R236). -/
def execDivs (e : EngNo) (s : State) : Host.Outcome State Fault Refusal := done (s.engRow e (opcIs eoDivs) (fun s i => s.insDivs e i))
/-- MARG (R238). -/
def execMarg (e : EngNo) (s : State) : Host.Outcome State Fault Refusal := done (s.engRow e (opcIs eoMarg) (fun s i => s.insMarg e i))
/-- CNTR (R239). -/
def execCntr (e : EngNo) (s : State) : Host.Outcome State Fault Refusal := done (s.engRow e (opcIs eoCntr) (fun s i => s.insCntr e i))
/-- SETX (R233). -/
def execSetx (e : EngNo) (s : State) : Host.Outcome State Fault Refusal := done (s.engRow e (opcIs eoSetx) (fun s i => s.insSetx e i))
/-- ADDX (R233). -/
def execAddx (e : EngNo) (s : State) : Host.Outcome State Fault Refusal := done (s.engRow e (opcIs eoAddx) (fun s i => s.insAddx e i))
/-- LOOP (R237). -/
def execLoop (e : EngNo) (s : State) : Host.Outcome State Fault Refusal := done (s.engRow e (opcIs eoLoop) (fun s i => s.insLoop e i))
/-- JMP (R233). -/
def execJmp (e : EngNo) (s : State) : Host.Outcome State Fault Refusal := done (s.engRow e (opcIs eoJmp) (fun s i => s.insJmp e i))
/-- LDM (R233). -/
def execLdm (e : EngNo) (s : State) : Host.Outcome State Fault Refusal := done (s.engRow e (opcIs eoLdm) (fun s i => s.insXfer e i true))
/-- STM (R233). -/
def execStm (e : EngNo) (s : State) : Host.Outcome State Fault Refusal := done (s.engRow e (opcIs eoStm) (fun s i => s.insXfer e i false))
/-- SETB (R233). -/
def execSetb (e : EngNo) (s : State) : Host.Outcome State Fault Refusal := done (s.engRow e (opcIs eoSetb) (fun s i => s.insSetb e i))
/-- WAIT (R233). -/
def execWait (e : EngNo) (s : State) : Host.Outcome State Fault Refusal := done (s.engRow e (opcIs eoWait) (fun s i => s.insWait e i))
/-- TRIG (R240). -/
def execTrig (e : EngNo) (s : State) : Host.Outcome State Fault Refusal := done (s.engRow e (opcIs eoTrig) (fun s i => s.insTrig e i))
/-- EVT (R233). -/
def execEvt (e : EngNo) (s : State) : Host.Outcome State Fault Refusal := done (s.engRow e (opcIs eoEvt) (fun s i => s.insEvt e i))
/-- HALT (R233). -/
def execHalt (e : EngNo) (s : State) : Host.Outcome State Fault Refusal := done (s.engRow e (opcIs eoHalt) (fun s i => s.insHalt e i))

/-! ### Transfers and margin points that end -/

/-- The oldest line of a transfer carried out. -/
def State.xferLine (s : State) (e : Nat) (x : XferLine) : State × Nat :=
  if x.load then
    let r := s.plainAcc (engReq e) x.addr (.read 64)
    (if r.2.1 = 0 then r.1.setEng e ((r.1.engSt e).setRow x.row (ofBytes r.2.2)) else r.1, r.2.1)
  else
    let r := s.plainAcc (engReq e) x.addr (.write (toBytes 64 ((s.engSt e).row x.row)))
    (r.1, r.2.1)

/-- Whether an engine has a run item under way. -/
def State.engBusy (s : State) (e : Nat) : Bool := decide (enRunning ≤ s.engState e)

/-- ENGINE_TRANSFER_LINE (R233, R237 cause 5). `status` is what the ring answers when it does not answer success; otherwise the
device's own checks decide. -/
def execEngineTransferLine (e : EngNo) (status : RingStatus) (s : State) : Host.Outcome State Fault Refusal :=
  match (s.engSt e).xfers with
  | [] => done s
  | x :: _ =>
    let r := if status = .success then s.xferLine e x else (s, ringStatusCode status)
    if r.2 = memWait then done r.1
    else
      let v := r.1.engSt e
      if r.2 = 0 then done ((r.1.setEng e { v with xfers := v.xfers.drop 1 }).engShow e)
      else
        let s := (r.1.setEng e { v with xfers := [] }).engShow e
        done (if s.engBusy e then s.engFault e 5 else s)

/-- ENGINE_MARGIN_END (R238): the point has run its 2^DWELL UI, of which no more than all were errors. -/
def execEngineMarginEnd (e : EngNo) (lane : Fin 16) (errors : BitVec 41) (s : State) : Host.Outcome State Fault Refusal :=
  let dwell := match (s.engPort e lane).bind (fun n => (s.lane n).margin) with
    | some m => m.dwell
    | none => 40
  done (s.pointEnd e lane (min errors.toNat (2 ^ dwell)) false)

/-! ### Items (R242, R243) -/

/-- ENGINE_LOAD (R242). The words of lines read before one that fails are loaded (DEDUCED, log entry 35). -/
def execEngineLoad (e : EngNo) (s : State) : Host.Outcome State Fault Refusal :=
  match s.curOp (keyEngine e) opEngineLoad with
  | none => done s
  | some c =>
    if s.engState e = enOff then done (if c.item.resumed then s else s.finishSt (keyEngine e) stUnitOff)
    else if enRunning ≤ s.engState e then done s
    else
      let n := c.item.num 24 2
      let w := c.item.num 26 2
      let r := s.plainAcc (engReq e) (c.item.num 16 8) (.read (4 * n))
      if r.2.1 = memWait then done (r.1.setEngState e enLoading)
      else
        let got := ofBytes r.2.2
        let v := r.1.engSt e
        let prog := (List.range (min n (r.2.2.length / 4))).foldl (fun m k => m.set (fun _ => 0) (w + k) (BitVec.ofNat 32 (natBits got (32 * k) 32))) v.prog
        done (((r.1.setEng e { v with prog := prog }).setEngState e enIdle).finishSt (keyEngine e) (busStatus r.2.1))

/-- Accumulators, P, DZ and operand memory zeroed. -/
def State.engZero (s : State) (e : Nat) : State :=
  (s.setEng e { s.engSt e with acc := {}, mem := {} }).setReg (MEA_LFLAG e) 0

/-- ENGINE_RUN (R243). An item that a reset of the engine interrupted waits for the engine to be enabled again (R244, log entry 90). -/
def execEngineRun (e : EngNo) (s : State) : Host.Outcome State Fault Refusal :=
  match s.curOp (keyEngine e) opEngineRun with
  | none => done s
  | some c =>
    if s.engState e = enOff then done (if c.item.resumed then s else s.finishSt (keyEngine e) stUnitOff)
    else if s.engState e ≠ enIdle then done s
    else
      let s := if natBit (c.item.num 18 1) 0 then s.engZero e else s
      let v := s.engSt e
      let b := (List.range 4).foldl (fun (m : SMap (BitVec 64)) k => m.set (fun _ => 0) k (BitVec.ofNat 64 (c.item.num (24 + 8 * k) 8))) {}
      let s := s.setEng e { v with x := {}, b := b, loops := [], passed := false, stepping := false }
      done ((s.setEngPc e (c.item.num 16 2 % 4096)).setEngState e enRunning)

/-! ### Registers (R241, R242, R246, R247) -/

def State.engRefuse (s : State) (e : Nat) : State := (s.setFld (MEA_STATUS e) MEA_STATUS_CFG_REFUSED 1).raiseReg 0x0701 e 0 (MEA_STATUS e)

/-- EN of a CTL write. -/
def State.engEn (s : State) (e : Nat) (on : Bool) : State :=
  let st := s.engState e
  if on then
    let s := s.setFld (MEA_CTL e) MEA_CTL_EN 1
    if st = enOff then s.setEngState e enIdle else s
  else if enLoading ≤ st then s.engRefuse e
  else (s.setFld (MEA_CTL e) MEA_CTL_EN 0).setEngState e enOff

/-- One instruction executed in HALTED (R246). -/
def State.engStep (s : State) (e : Nat) : State :=
  if s.engState e ≠ enHalted then s
  else
    let c := if (s.engSt e).passed then (s, false) else s.engCompare e
    let t := c.1.setEng e { c.1.engSt e with passed := true, stepping := true }
    t.insAny e (t.engWord e)

/-- ABORT: the lines in flight, at most 16, complete; the rest are dropped (R245). -/
def State.engAbort (s : State) (e : Nat) : State :=
  if s.engBusy e then
    let v := s.engSt e
    ((s.setEng e { v with xfers := v.xfers.take 16 }).engShow e).engFault e 7
  else s

/-- A write of MEA.E[e].CTL. -/
def State.engCtlWrite (s : State) (e : Nat) (data : Data) : State :=
  let s := if MEA_CTL_CLEAR.on data ∧ s.engState e = enIdle then s.engZero e else s
  let s := if MEA_CTL_ABORT.on data then s.engAbort e else s
  let s := if MEA_CTL_RESUME.on data ∧ s.engState e = enHalted then s.setEngState e enRunning else s
  let s := if MEA_CTL_STEP.on data then s.engStep e else s
  s.engEn e (MEA_CTL_EN.on data)

/-- ENGINE_ENABLE (R247). -/
def execEngineEnable (e : EngNo) (data : Data) (s : State) : Host.Outcome State Fault Refusal :=
  done (s.regWrite (MEA_CTL e) data (fun s => s.engCtlWrite e data))
/-- ENGINE_STEP (R246). -/
def execEngineStep (e : EngNo) (data : Data) (s : State) : Host.Outcome State Fault Refusal :=
  done (s.regWrite (MEA_CTL e) data (fun s => s.engCtlWrite e data))
/-- ENGINE_RESUME (R246). -/
def execEngineResume (e : EngNo) (data : Data) (s : State) : Host.Outcome State Fault Refusal :=
  done (s.regWrite (MEA_CTL e) data (fun s => s.engCtlWrite e data))
/-- ENGINE_ABORT (R245). -/
def execEngineAbort (e : EngNo) (data : Data) (s : State) : Host.Outcome State Fault Refusal :=
  done (s.regWrite (MEA_CTL e) data (fun s => s.engCtlWrite e data))
/-- ENGINE_CLEAR (R247). -/
def execEngineClear (e : EngNo) (data : Data) (s : State) : Host.Outcome State Fault Refusal :=
  done (s.regWrite (MEA_CTL e) data (fun s => s.engCtlWrite e data))

/-- The port lanes that a MAP value names. -/
def mapLanes (v : Data) : List Nat := ((List.range 8).map (fun j => natBits v.toNat (8 * j) 8)).filterMap (fun b => if natBit b 7 then some (b % 64) else none)

/-- Whether a list names something twice. -/
def hasTwice : List Nat → Bool
  | [] => false
  | x :: r => r.contains x || hasTwice r

/-- The samplers of lanes owned, or given up, by an engine. -/
def State.ownLanes (s : State) (e : Nat) (own : Bool) (ls : List Nat) : State :=
  ls.foldl (fun s n => s.setFlds (LANE_MARGIN n) [(LANE_MARGIN_OWNED, bit01 own), (LANE_MARGIN_ENGINE, if own then e else 0)]) s

/-- A write of MEA.E[e].MAP[m] (R241). -/
def State.engMapWrite (s : State) (e m : Nat) (data : Data) : State :=
  let new := mapLanes data
  let mine := mapLanes (s.reg (MEA_MAP e m))
  let taken := fun n => s.fldOn (LANE_MARGIN n) LANE_MARGIN_OWNED && !mine.contains n
  if enIdle < s.engState e ∨ new.any (fun n => decide (48 ≤ n) || taken n) ∨ hasTwice new then s.engRefuse e
  else (((s.ownLanes e false mine).ownLanes e true new).setReg (MEA_MAP e m) data)

/-- ENGINE_MAP_WRITE (R241). -/
def execEngineMapWrite (e : EngNo) (m : Fin 2) (data : Data) (s : State) : Host.Outcome State Fault Refusal :=
  done (s.regWrite (MEA_MAP e m) data (fun s => s.engMapWrite e m data))

/-- A write of PROG_DATA (R242). -/
def State.progWrite (s : State) (e : Nat) (data : Data) : State :=
  if enIdle < s.engState e then s.engRefuse e
  else
    let a := s.fld (MEA_PROG_ADDR e) MEA_PROG_ADDR_ADDR
    let v := s.engSt e
    (s.setEng e { v with prog := v.prog.set (fun _ => 0) a (BitVec.ofNat 32 data.toNat) }).wrapFld (MEA_PROG_ADDR e) MEA_PROG_ADDR_ADDR 1

/-- The value a read of PROG_DATA returns. -/
def State.progData (s : State) (e : Nat) : Data := BitVec.ofNat 64 ((s.engSt e).prog.get (fun _ => 0) (s.fld (MEA_PROG_ADDR e) MEA_PROG_ADDR_ADDR)).toNat

/-- A read through the host path advances the address; the debug path has no read side effect (R12, R533). -/
def State.windowRead (s : State) (path : ReadPath) (v : Data) (reg : Nat) (f : Fld) : State :=
  let s := s.answerReg v
  if path = .host ∧ !s.fldOn DBG_PEEK DBG_PEEK_PEEK then s.wrapFld reg f 1 else s

/-- PROG_DATA_ACCESS (R242). -/
def execProgDataAccess (e : EngNo) (acc : RegAcc) (s : State) : Host.Outcome State Fault Refusal :=
  match acc with
  | .read path => done (s.regRead (MEA_PROG_DATA e) (path == .debug) (fun s => s.windowRead path (s.progData e) (MEA_PROG_ADDR e) MEA_PROG_ADDR_ADDR))
  | .write data => done (s.regWrite (MEA_PROG_DATA e) data (fun s => s.progWrite e data))

/-- A write of MEM_DATA (R230). -/
def State.memWrite (s : State) (e : Nat) (data : Data) : State :=
  let a := s.fld (MEA_MEM_ADDR e) MEA_MEM_ADDR_ADDR
  let v := s.engSt e
  let v := (v.setWord (a / 8) (2 * (a % 8)) data.toNat).setWord (a / 8) (2 * (a % 8) + 1) (data.toNat / 2 ^ 32)
  (s.setEng e v).wrapFld (MEA_MEM_ADDR e) MEA_MEM_ADDR_ADDR 1

/-- The value a read of MEM_DATA returns. -/
def State.memData (s : State) (e : Nat) : Data :=
  let a := s.fld (MEA_MEM_ADDR e) MEA_MEM_ADDR_ADDR
  BitVec.ofNat 64 (natBits ((s.engSt e).row (a / 8)) (64 * (a % 8)) 64)

/-- MEM_DATA_ACCESS (R230). -/
def execMemDataAccess (e : EngNo) (acc : RegAcc) (s : State) : Host.Outcome State Fault Refusal :=
  match acc with
  | .read path => done (s.regRead (MEA_MEM_DATA e) (path == .debug) (fun s => s.windowRead path (s.memData e) (MEA_MEM_ADDR e) MEA_MEM_ADDR_ADDR))
  | .write data => done (s.regWrite (MEA_MEM_DATA e) data (fun s => s.memWrite e data))

/-- The bit of an engine taken out of every MEA.TRIG_EN. -/
def State.trigEnClear (s : State) (e : Nat) : State :=
  (List.range 8).foldl (fun s k =>
    let v := s.fld (MEA_TRIG_EN k) MEA_TRIG_EN_ENGINES
    if natBit v e then s.setFld (MEA_TRIG_EN k) MEA_TRIG_EN_ENGINES (v - 2 ^ e) else s) s

/-- A reset of an engine (R244, R247): program and operand memory survive; its samplers are free; points under way end aborted. Of the
registers that engines share its bit of MEA.TRIG_EN is cleared (DEDUCED, log entry 128). -/
def State.engReset (s : State) (e : Nat) : State :=
  let v := s.engSt e
  let s := s.ownLanes e false (mapLanes (s.reg (MEA_MAP e 0)) ++ mapLanes (s.reg (MEA_MAP e 1)))
  let s := (List.range 16).foldl (fun s l =>
    match (s.engSt e).pts.get (fun _ => none) l, s.engPort e l with
    | some _, some n => s.marginAbort n
    | _, _ => s) s
  let s := (s.setEng e { prog := v.prog, mem := v.mem }).trigEnClear e
  [MEA_CTL e, MEA_STATUS e, MEA_PROG_ADDR e, MEA_MEM_ADDR e, MEA_LFLAG e, MEA_MAP e 0, MEA_MAP e 1, MEA_DBGC e 0, MEA_DBGC e 1].foldl
    (fun s o => s.resetReg o) s

end Sys2Proof.Machine
end

