-- ==== Sys2Proof/Machine/Rings.lean ====
section
/-!
DEFINITION. The rings (chapter 14): headers and routes, injection and ejection, reservation, routing tables, probes and the trace buffer.
The effect of a request on what it addresses is the row of that access; here it is held in its buffer until its response returns.
-/
namespace Sys2Proof.Machine

/-! ### Headers (R369) -/

def hdAddr (h : BitVec 128) : Nat := natBits h.toNat 80 48
def hdTag (h : BitVec 128) : Nat := natBits h.toNat 64 16
def hdClass (h : BitVec 128) : Nat := natBits h.toNat 56 2
def hdEpoch (h : BitVec 128) : Nat := natBits h.toNat 55 1
def hdKind (h : BitVec 128) : Nat := natBits h.toNat 52 3
def hdStatus (h : BitVec 128) : Nat := natBits h.toNat 48 4
def hdLen (h : BitVec 128) : Nat := natBits h.toNat 39 9
def hdLast (h : BitVec 128) : Bool := natBit h.toNat 38
def hdFlit (h : BitVec 128) : Nat := natBits h.toNat 36 2
def hdDst (h : BitVec 128) : Nat := natBits h.toNat 26 10
def hdSrc (h : BitVec 128) : Nat := natBits h.toNat 16 10
def hdRenew (h : BitVec 128) : Bool := natBit h.toNat 7
def hdHop (h : BitVec 128) : Nat := natBits h.toNat 0 7
def placePair (p : Nat) : Nat := p / 256
def placeStop (p : Nat) : Nat := p / 4 % 64
def placePort (p : Nat) : Nat := p % 4

/-- A header with a field replaced. -/
def hdPut (h : BitVec 128) (lo w x : Nat) : BitVec 128 :=
  let n := h.toNat
  BitVec.ofNat 128 (n - natBits n lo w * 2 ^ lo + (x % 2 ^ w) * 2 ^ lo)

def kdReserve := 0
def kdGrant := 1
def kdResponse := 4
def kdMarker := 5
/-- A packet that takes a buffer at its destination: a read, a write or an event. -/
def isRequest (k : Nat) : Bool := k == 2 || k == 3 || k == 6

/-- A packet that answers another: a response with a status, or a grant. -/
def answerTo (h : BitVec 128) (kind status : Nat) : BitVec 128 :=
  hdPut (hdPut (hdPut (hdPut (hdPut (hdPut h 52 3 kind) 48 4 status) 26 10 (hdSrc h)) 16 10 (hdDst h)) 7 1 0) 0 7 0

/-! ### The network's state -/

def State.ringFlits (s : State) (r : Nat) : List RFlit := s.net.flits.get (fun _ => []) r
def State.setFlits (s : State) (r : Nat) (l : List RFlit) : State :=
  { s with net := { s.net with flits := s.net.flits.set (fun _ => []) r l } }
def State.owe (s : State) (h : BitVec 128) : State := { s with net := { s.net with owed := s.net.owed ++ [h] } }

/-- The key of a destination, a class and a requester. -/
def grantKey (dst cls src : Nat) : Nat := (dst * 4 + cls) * 1024 + src
def State.grantsAt (s : State) (k : Nat) : Nat := s.net.grants.get (fun _ => 0) k
def State.setGrants (s : State) (k n : Nat) : State := { s with net := { s.net with grants := s.net.grants.set (fun _ => 0) k n } }
def State.heldAt (s : State) (k : Nat) : Nat := s.net.held.get (fun _ => 0) k
def State.setHeld (s : State) (k n : Nat) : State := { s with net := { s.net with held := s.net.held.set (fun _ => 0) k n } }
def State.rsvDepth (s : State) : Nat := max 1 (s.fld RING_CTL RING_CTL_RSV_DEPTH)

/-- Buffers of a destination and class that are granted or in use. -/
def State.bufsTaken (s : State) (dst cls : Nat) : Nat :=
  s.net.grants.cells.foldl (fun n c => if c.1 / 1024 = dst * 4 + cls then n + c.2 else n) 0
    + (s.net.bufs.filter (fun b => hdDst b.hdr == dst && hdClass b.hdr == cls)).length

/-! ### Routes (R365, R371 to R373) -/

/-- Hops from a stop to another on an even or an odd ring. -/
def hopsOn (odd : Bool) (a b : Nat) : Nat := if odd then (a + 48 - b) % 48 else (b + 48 - a) % 48

/-- The stop so many hops on. -/
def stopOn (odd : Bool) (a k : Nat) : Nat := if odd then (a + 48 - k % 48) % 48 else (a + k) % 48

/-- Whether a path crosses a segment in domain reset. -/
def State.pathShut (s : State) (pair : Nat) (odd : Bool) (a b : Nat) : Bool :=
  (List.range (hopsOn odd a b + 1)).any (fun k => s.pwr.inReset.contains (0x100 + 8 * pair + stopOn odd a k / 8))

/-- The ring that a packet goes on from a stop to a stop of its pair (R371). -/
def State.ringFor (s : State) (pair a b : Nat) : Nat :=
  let odd := decide (hopsOn true a b < hopsOn false a b)
  let odd := if s.pathShut pair odd a b && !s.pathShut pair (!odd) a b then !odd else odd
  2 * pair + bit01 odd

def State.tblActive (s : State) : Nat := s.fld RING_TBL_CTL RING_TBL_CTL_ACTIVE
def tblKey (bank pair dest : Nat) : Nat := (bank * 4 + pair) * 256 + dest

/-- The stop of its own pair that a packet heads for: the destination, or the riser that the table of its bank names; none where the
entry is not valid. -/
def State.headsFor (s : State) (pair : Nat) (h : BitVec 128) : Option Nat :=
  let d := hdDst h
  if placePair d = pair then some (placeStop d)
  else
    let e := s.net.tbl.get (fun _ => 0) (tblKey (hdEpoch h) pair (d / 4))
    if natBit e 4 then some (32 + e % 16) else none

/-- The riser nearest to a stop. -/
def nearestRiser (stop : Nat) : Nat :=
  let dist := fun (r : Nat) => min (hopsOn false (32 + r) stop) (hopsOn true (32 + r) stop)
  (List.range 16).foldl (fun b r => if dist r < dist b then r else b) 0

/-- Bank 0 filled at power-on so that each destination uses the riser nearest to it, and made active (R373). -/
def State.fillTables (s : State) : State :=
  let tbl := (List.range 3).foldl (fun t pair =>
    (List.range 3).foldl (fun t dp =>
      if dp = pair then t
      else (List.range 48).foldl (fun t st => t.set (fun _ => 0) (tblKey 0 pair (64 * dp + st)) (16 + nearestRiser st)) t) t) ({} : SMap Nat)
  { s with net := { s.net with tbl := tbl } }.setFld RING_TBL_CTL RING_TBL_CTL_ACTIVE 0

/-! ### Probes and the trace (R382, R383) -/

/-- Whether a probe watches a point of a stop of a ring and a header matches it. -/
def State.probeHits (s : State) (k ring stop point : Nat) (h : BitVec 128) : Bool :=
  let c := s.reg (PRB_P_CFG k)
  let pair := PRB_P_CFG_PAIR.get c % 3
  let pt := PRB_P_CFG_POINT.get c % 3
  PRB_P_CFG_EN.on c && 2 * pair + PRB_P_CFG_ODD.get c == ring && PRB_P_CFG_STOP.get c == stop && decide (stop < 48) && pt == point
    && ((BitVec.ofNat 64 h.toNat ^^^ s.reg (PRB_P_MATCH k)) &&& s.reg (PRB_P_MASK k)) == 0
    && (!PRB_P_CFG_ARANGE.on c || (decide ((s.reg (PRB_P_ADDR_LO k)).toNat ≤ hdAddr h) && decide (hdAddr h ≤ (s.reg (PRB_P_ADDR_HI k)).toNat)))

/-- The stamp of the RCK edge of a flit: RCK has an edge every 24 ticks (R210, R383); which of those in a fabric cycle is free. -/
def State.rckStamp (s : State) : BitVec 64 := BitVec.ofNat 64 ((s.time.stamp.toNat + 23) / 24 * 24 + 24 * Config.freeBelow 2 s.freeCtr)

/-- An entry written to the trace buffer. -/
def State.traceWrite (s : State) (k point : Nat) (h : BitVec 128) (stamp : BitVec 64) : State :=
  if !s.net.traceOn then s
  else
    let n := s.fld PRB_TRACE_PTR PRB_TRACE_PTR_NEXT
    let e := BitVec.ofNat 256 (stamp.toNat + 2 ^ 64 * h.toNat + 2 ^ 192 * k + 2 ^ 200 * point)
    let s := { s with net := { s.net with trace := s.net.trace.set (fun _ => 0) n e } }
    let s := s.setFld PRB_TRACE_PTR PRB_TRACE_PTR_NEXT ((n + 1) % 2048)
    if n + 1 < 2048 then s
    else if s.fldOn PRB_TRACE_CTL PRB_TRACE_CTL_MODE then s.setFld PRB_TRACE_PTR PRB_TRACE_PTR_WRAPPED 1
    else { s with net := { s.net with traceOn := false } }.setFld PRB_TRACE_CTL PRB_TRACE_CTL_EN 0

/-- A flit at a point of a stop, with the cycles it waited there (R382, R383). -/
def State.probe (s : State) (ring stop point wait : Nat) (h : BitVec 128) : State :=
  let hit := (List.range 16).filter (fun k => s.probeHits k ring stop point h)
  if hit.isEmpty then s
  else
    let s := if s.fldOn PRB_CTL PRB_CTL_FREEZE then s
      else hit.foldl (fun s k =>
        let s := if hdFlit h = 0 then s.wrapFld (PRB_P_CNT_PKT k) PRB_P_CNT_PKT_COUNT 1 else s
        (s.wrapFld (PRB_P_CNT_FLIT k) PRB_P_CNT_FLIT_COUNT 1).wrapFld (PRB_P_CNT_WAIT k) PRB_P_CNT_WAIT_COUNT wait) s
    let tr := hit.filter (fun k => s.fldOn (PRB_P_CFG k) PRB_P_CFG_TRACE)
    if tr.isEmpty ∨ !s.net.traceOn then s
    else
      let stamp := s.rckStamp
      let s := (s.spend 1)
      let s := (tr.take 4).foldl (fun s k => s.traceWrite k point h stamp) s
      s.satFld PRB_TRACE_PTR PRB_TRACE_PTR_DROPPED (tr.length - 4)

/-- The stops that a flit passes between its ends. -/
def State.probePass (s : State) (ring a b : Nat) (h : BitVec 128) : State :=
  let odd := ring % 2 = 1
  (List.range (hopsOn odd a b - 1)).foldl (fun s k => s.probe ring (stopOn odd a (k + 1)) 2 0 h) s

/-! ### Reservation (R377, R378) -/

/-- A request that is for a domain: what its router does (R379 to R381): it is taken, answered, or held. -/
def State.domainGate (s : State) (d : Nat) : State × Nat :=
  let clearing := (d = 1 ∧ s.oasClearing 0) ∨ (d = 4 ∧ s.oasClearing 64)
  if clearing then (if (s.dom d).woa then (s, memWait) else (s, 8)) else s.meetDomain d

/-- The block that a stop serves (R366): register hubs take BAR0 offsets, memory ports DRAM addresses. -/
inductive RingBlock where
  | hostLink | scheduler | configEngine | svA | security | debugPort
  | memPort (k : Nat)
  | dma (e : Nat)
  | hub (k : Nat)
  | probeUnit | units
  | riser (r : Nat)
  /-- The ergs 2k and 2k + 1 of a layer, with the oasis groups and the planes that pairs 1 and 2 reach there. -/
  | ergs (layer k : Nat)
deriving DecidableEq, Repr

/-- The block of a stop of a pair (R366). -/
def ringBlock (pair stop : Nat) : RingBlock :=
  if 32 ≤ stop then .riser (stop - 32)
  else if pair ≠ 0 then .ergs (pair - 1) stop
  else match stop with
    | 0 => .hostLink
    | 1 => .scheduler
    | 2 => .configEngine
    | 3 => .svA
    | 4 => .security
    | 5 => .debugPort
    | 30 => .probeUnit
    | 31 => .units
    | k => if k < 10 then .memPort (k - 6) else if k < 26 then .dma (k - 10) else .hub (k - 26)

/-- A number that names no domain. -/
def noDomain : Nat := 0x7FF

/-- The domain that a packet of a place with an address is for (R366, R379, R493, R494). At a stop that serves units of more than one domain
the spec does not lay out the ports, and the domain is open. SV-B is a port of the stop of riser 14 of pair 0. -/
def placeDomain (place addr : Nat) : Nat :=
  match ringBlock (placePair place) (placeStop place) with
  | .scheduler => 0
  | .configEngine => 0
  | .memPort _ => 0
  | .dma _ => 0
  | .svA => 0x600
  | .hub _ => (regDomain addr).getD noDomain
  | .riser r => if placePair place = 0 ∧ r = 14 then 0x601 else noDomain
  | .units => Config.ringDomain place addr % 2048
  | .ergs _ _ => Config.ringDomain place addr % 2048
  | _ => noDomain

def State.bufDomain (h : BitVec 128) : Nat := placeDomain (hdDst h) (hdAddr h)

/-- Whether a destination grants: it does not while its domain goes down (R379), and never more buffers than it holds. -/
def State.canGrant (s : State) (h : BitVec 128) : Bool :=
  (s.dom (State.bufDomain h)).st != domGoing
    && decide (s.bufsTaken (hdDst h) (hdClass h) < max 1 (Config.ringBuffers (hdDst h) (hdClass h)))

/-- Whether a requester may ask for a grant: its grants for the destination and class, with those asked for, stay within RSV_DEPTH (R377). -/
def State.mayReserve (s : State) (h : BitVec 128) : Bool :=
  let k := grantKey (hdDst h) (hdClass h) (hdSrc h)
  let sent := (List.range 6).foldl (fun n r => n + ((s.ringFlits r).filter (fun f => hdKind f.hdr == kdReserve
    && grantKey (hdDst f.hdr) (hdClass f.hdr) (hdSrc f.hdr) == k)).length) 0
  decide (s.grantsAt k + bit01 (s.net.waiting.contains k) + sent < s.rsvDepth)

/-- A reserve packet at its destination (R377, R378). -/
def State.reserveArrive (s : State) (h : BitVec 128) : State :=
  let k := grantKey (hdDst h) (hdClass h) (hdSrc h)
  if s.canGrant h then (s.setGrants k (s.grantsAt k + 1)).owe (answerTo h kdGrant 0)
  else if s.net.waiting.contains k then s
  else { s with net := { s.net with waiting := s.net.waiting ++ [k] } }

/-- A grant at its requester, which holds at most RSV_DEPTH for a destination and class. -/
def State.grantArrive (s : State) (h : BitVec 128) : State :=
  let k := grantKey (hdSrc h) (hdClass h) (hdDst h)
  s.setHeld k (min (s.heldAt k + 1) s.rsvDepth)

/-- A header that names the reserve packet of a key, and its grant. -/
def grantOf (k : Nat) : BitVec 128 :=
  BitVec.ofNat 128 (2 ^ 56 * (k / 1024 % 4) + 2 ^ 52 * kdGrant + 2 ^ 38 + 2 ^ 26 * (k % 1024) + 2 ^ 16 * (k / 4096))

/-- An unanswered reserve packet answered, if a buffer is there for it. -/
def State.serveKey (s : State) (k : Nat) : State :=
  let dst := k / 4096
  let free := (s.dom (placeDomain dst 0)).st != domGoing
    && decide (s.bufsTaken dst (k / 1024 % 4) < max 1 (Config.ringBuffers dst (k / 1024 % 4)))
  if free ∧ s.net.waiting.contains k then
    let s := { s with net := { s.net with waiting := s.net.waiting.filter (· != k) } }
    (s.setGrants k (s.grantsAt k + 1)).owe (grantOf k)
  else s

/-- The unanswered reserve packets answered, oldest first, as far as buffers are there for them (R378, R379). -/
def State.serveWaiting (s : State) : State := s.net.waiting.foldl (fun s k => s.serveKey k) s

/-- The buffer that a response leaves returned to the pool, or granted again (R377). -/
def State.returnBuf (s : State) (h : BitVec 128) : State :=
  let is := fun (b : RBuf) => hdDst b.hdr == hdSrc h && hdSrc b.hdr == hdDst h && hdTag b.hdr == hdTag h
  match s.net.bufs.find? is with
  | none => s
  | some b =>
    let s := { s with net := { s.net with bufs := s.net.bufs.erase b } }
    let k := grantKey (hdDst b.hdr) (hdClass b.hdr) (hdSrc b.hdr)
    if hdRenew h then s.setGrants k (s.grantsAt k + 1) else s.serveWaiting

/-- A response at its requester (R370, R377). -/
def State.responseArrive (s : State) (h : BitVec 128) : State :=
  let s := s.returnBuf h
  match s.net.asked.find? (fun a => a.1 == hdDst h && a.2.1 == hdTag h && a.2.2.1 == hdSrc h) with
  | none => s
  | some a =>
    let s := { s with net := { s.net with asked := s.net.asked.erase a, got := ((hdDst h, hdTag h, hdStatus h) :: s.net.got).take 64 } }
    if hdRenew h then
      let k := grantKey a.2.2.1 a.2.2.2 a.1
      s.setHeld k (min (s.heldAt k + 1) s.rsvDepth)
    else s

/-- A request in its buffer: it waits for its domain, or its router answers it (R379, R380). -/
def State.requestArrive (s : State) (h : BitVec 128) (body : List (BitVec 8)) : State :=
  let k := grantKey (hdDst h) (hdClass h) (hdSrc h)
  let s := s.setGrants k (s.grantsAt k - 1)
  let d := State.bufDomain h
  let r := s.domainGate d
  let b : RBuf := { hdr := h, body := body, wait := if r.2 = memWait then some d else none, status := if r.2 = 8 then some 8 else none }
  let s := { r.1 with net := { r.1.net with bufs := r.1.net.bufs ++ [b] } }
  if r.2 = 8 then s.owe (answerTo h kdResponse 8) else s

/-- Requests that waited for a domain: performed, or answered with a status (R380). -/
def State.ringWoken (s : State) (d : Nat) (status : Option Nat) : State :=
  let mine := s.net.bufs.filter (fun b => b.wait == some d)
  let s := { s with net := { s.net with bufs := s.net.bufs.map (fun b => if b.wait = some d then { b with wait := none, status := status } else b) } }
  match status with
  | some st => mine.foldl (fun s b => s.owe (answerTo b.hdr kdResponse st)) s
  | none => s

/-! ### Injection and ejection (R369, R371, R372, R375 to R377) -/

/-- A flit put on the ring that the rule names, from a stop of a pair towards a stop of it. -/
def State.putFlit (s : State) (pair a b wait : Nat) (f : RFlit) : State :=
  let ring := s.ringFor pair a b
  let s := s.setFlits ring (s.ringFlits ring ++ [f])
  let s := s.wrapFld (RING_STAT_FLITS ring) RING_STAT_FLITS_FLITS 1
  let s := if hdClass f.hdr = 0 then
      let s := s.wrapFld (RING_STAT_C0_FLITS ring) RING_STAT_C0_FLITS_C0_FLITS 1
      s.setFld (RING_STAT_C0_MAXWAIT ring) RING_STAT_C0_MAXWAIT_C0_MAXWAIT
        (max (s.fld (RING_STAT_C0_MAXWAIT ring) RING_STAT_C0_MAXWAIT_C0_MAXWAIT) (min wait 255))
    else s
  s.probe ring a 0 wait f.hdr

/-- A packet removed after two circuits, recorded and answered (R372). -/
def State.misroute (s : State) (h : BitVec 128) : State :=
  let s := s.satFld RING_ERR RING_ERR_MISROUTED 1
  let s := if s.fldOn RING_ERR RING_ERR_VALID then s else s.setFlds RING_ERR [(RING_ERR_VALID, 1), (RING_ERR_SRC, hdSrc h)]
  (s.raiseReg 0x0B01 0 0 RING_ERR).owe (answerTo h kdResponse 10)

/-- Whether DST names what no stop is (R372, R373). -/
def State.noStop (s : State) (pair : Nat) (h : BitVec 128) : Bool :=
  decide (48 ≤ placeStop (hdDst h)) || placePort (hdDst h) == 3 || placePair (hdDst h) == 3 || (s.headsFor pair h).isNone

/-- The grant that a request uses at its first flit. -/
def State.useGrant (s : State) (h : BitVec 128) : Option State :=
  if isRequest (hdKind h) ∧ hdFlit h = 0 then
    let k := grantKey (hdDst h) (hdClass h) (hdSrc h)
    if s.heldAt k = 0 then none
    else some { s.setHeld k (s.heldAt k - 1) with
                net := { (s.setHeld k (s.heldAt k - 1)).net with asked := s.net.asked ++ [(hdSrc h, hdTag h, hdDst h, hdClass h)] } }
  else some s

/-- A packet that its source owed is sent. -/
def State.paid (s : State) (h : BitVec 128) : State :=
  { s with net := { s.net with owed := s.net.owed.filter (fun o =>
      !(hdKind o == hdKind h && hdDst o == hdDst h && hdSrc o == hdSrc h && hdTag o == hdTag h && hdClass o == hdClass h)) } }

/-- Whether the conditions of R9 that bear on a ring hold: Active, no recovery or reconciliation, at most 4,096 class-0 items in flight,
and class-0 flits in at most 20 % of the ring's slots (DESIGN CHOICE, log entry 148). -/
def State.ringCalm (s : State) (ring : Nat) : Bool :=
  s.pwr.st == .active && s.sup.kind == 0 && s.fld QIF_STATUS QIF_STATUS_STATE != 1 && decide (s.fld SCH_STATUS SCH_STATUS_C0_TAGS ≤ 4096)
    && decide (5 * ((s.ringFlits ring).filter (fun f => hdClass f.hdr == 0)).length ≤ 48)

/-- How many RCK cycles a flit waits for injection: timing, so a free value, of at most 16 for class 0 while R9 holds (R376). -/
def State.injectWait (s : State) (ring cls : Nat) : Nat :=
  Config.freeBelow (if cls = 0 ∧ s.ringCalm ring then 17 else 256) s.freeCtr

/-- Whether a packet has a form that R369 allows: at most 256 bytes in three flits, for class 0 one flit; and, for a reserve packet, whether
its requester may send it. -/
def State.flitFits (s : State) (h : BitVec 128) : Bool :=
  decide (hdKind h < 7) && hdKind h != kdMarker && decide (hdFlit h < 3) && decide (hdLen h ≤ 256)
    && (hdClass h != 0 || (hdFlit h == 0 && hdLast h && decide (hdLen h ≤ 112))) && (hdKind h != kdReserve || s.mayReserve h)

/-- FLIT_INJECT (R369, R371, R372, R375, R377): at a stop of the pair of `ring`; the router takes the ring that R371 names. A slot
reserved for class 0 takes no other class, and a request is not sent without a grant. In which order waiting flits of the classes 1 to 3 are
injected is the order of the commands (R375; log entry 148). -/
def execFlitInject (ring : Fin 6) (stop : Fin 48) (hdr : BitVec 128) (body : List (BitVec 8)) (class0Slot : Bool) (s : State) :
    Host.Outcome State Fault Refusal :=
  let pair := ring.val / 2
  let cls := hdClass hdr
  let h := hdPut hdr 55 1 s.tblActive
  if !s.flitFits h ∨ (class0Slot = true ∧ cls ≠ 0) then done s
  else if s.noStop pair h then done (s.owe (answerTo h kdResponse 11))
  else
    match s.headsFor pair h, s.useGrant h with
    | some b, some t =>
      let hops := hopsOn (s.ringFor pair stop b % 2 = 1) stop b
      let t := t.paid h
      let t := if hdKind h = kdResponse ∧ hdLast h then t.returnBuf h else t
      if 97 ≤ hdHop h + hops then done (t.misroute h)
      else
        let wait := t.injectWait (t.ringFor pair stop b) cls
        done ((t.spend 1).putFlit pair stop b wait { hdr := h, body := body.take 112, start := stop })
    | _, _ => done s

/-- The flits of the first packet on a ring that has wholly arrived at a stop: those of one SRC and TAG up to the LAST. -/
def wholePacket (l : List RFlit) : List RFlit :=
  match l.find? (fun f =>
      let same := l.filter (fun g => hdSrc g.hdr == hdSrc f.hdr && hdTag g.hdr == hdTag f.hdr && hdKind g.hdr == hdKind f.hdr)
      same.any (fun g => hdLast g.hdr && (List.range (hdFlit g.hdr + 1)).all (fun k => same.any (fun x => hdFlit x.hdr == k)))) with
  | some f => l.filter (fun g => hdSrc g.hdr == hdSrc f.hdr && hdTag g.hdr == hdTag f.hdr && hdKind g.hdr == hdKind f.hdr)
  | none => []

/-- HOP after the hops taken, saturating. -/
def hopped (h : BitVec 128) (n : Nat) : BitVec 128 := hdPut h 0 7 (min 127 (hdHop h + n))

/-- A packet that leaves a ring at a stop: at its destination by its kind, at a riser on to the other pair (R371, R377). -/
def State.packetArrive (s : State) (pair stop : Nat) (fs : List RFlit) : State :=
  match fs with
  | [] => s
  | f :: _ =>
    let h := f.hdr
    if placePair (hdDst h) ≠ pair then
      let far := placePair (hdDst h)
      if 97 ≤ hdHop h + hopsOn (s.ringFor far stop (placeStop (hdDst h)) % 2 = 1) stop (placeStop (hdDst h)) then s.misroute h
      else fs.foldl (fun s g => s.putFlit far stop (placeStop (hdDst h)) 0 { g with start := stop }) s
    else if hdKind h = kdReserve then s.reserveArrive h
    else if hdKind h = kdGrant then s.grantArrive h
    else if hdKind h = kdResponse then s.responseArrive h
    else s.requestArrive h (fs.flatMap (·.body))

/-- Whether a request finds a granted buffer; what is no request always finds its place (R378). -/
def State.ejectable (s : State) (pair : Nat) (fs : List RFlit) : Bool :=
  match fs with
  | [] => false
  | f :: _ => placePair (hdDst f.hdr) != pair || !isRequest (hdKind f.hdr)
      || s.grantsAt (grantKey (hdDst f.hdr) (hdClass f.hdr) (hdSrc f.hdr)) != 0

/-- PACKET_EJECT (R369, R377, R379 to R382): the first packet that has wholly reached a stop of a ring. Packets wait at the boundary of a
segment in reset (R371). -/
def execPacketEject (ring : Fin 6) (stop : Fin 48) (s : State) : Host.Outcome State Fault Refusal :=
  let pair := ring.val / 2
  let odd := ring.val % 2 = 1
  let here := (s.ringFlits ring).filter (fun f => s.headsFor pair f.hdr == some stop.val && !s.pathShut pair odd f.start stop)
  let fs := wholePacket here
  if !s.ejectable pair fs then done s
  else
    let s := s.setFlits ring ((s.ringFlits ring).filter (fun f => !fs.contains f))
    let fs := fs.map (fun f => { f with hdr := hopped f.hdr (hopsOn odd f.start stop) })
    let s := fs.foldl (fun s f => (s.probePass ring f.start stop f.hdr).probe ring stop 1 0 f.hdr) s
    done (s.packetArrive pair stop fs)

/-- RESERVE_PACKET (R377, R378). -/
def execReservePacket (hdr : BitVec 128) (s : State) : Host.Outcome State Fault Refusal :=
  if hdKind hdr = kdReserve ∧ s.mayReserve hdr then done (s.reserveArrive hdr) else done s

/-- GRANT_PACKET (R377). -/
def execGrantPacket (hdr : BitVec 128) (s : State) : Host.Outcome State Fault Refusal :=
  if hdKind hdr = kdGrant then done ((s.paid hdr).grantArrive hdr) else done s

/-- RING_RESPONSE (R370, R377). -/
def execRingResponse (hdr : BitVec 128) (s : State) : Host.Outcome State Fault Refusal :=
  if hdKind hdr = kdResponse then done ((s.paid hdr).responseArrive hdr) else done s

/-! ### Routing tables (R373, R374, R384) -/

def State.tblRefuse (s : State) : State := (s.setFld RING_TBL_CTL RING_TBL_CTL_REFUSED 1).raiseReg 0x0B02 0 0 RING_TBL_CTL

/-- A write of TBL_CTL. -/
def State.tblCtlWrite (s : State) (data : Data) : State :=
  let s := if RING_TBL_CTL_REFUSED.on data then s.setFld RING_TBL_CTL RING_TBL_CTL_REFUSED 0 else s
  if !RING_TBL_CTL_SWITCH.on data then s
  else if s.fldOn RING_TBL_CTL RING_TBL_CTL_DRAINING then s.tblRefuse
  else
    let s := s.setFlds RING_TBL_CTL [(RING_TBL_CTL_ACTIVE, 1 - s.tblActive), (RING_TBL_CTL_DRAINING, 1)]
    { s with net := { s.net with markers := List.range 6 } }

/-- TABLE_SWITCH (R373). -/
def execTableSwitch (data : Data) (s : State) : Host.Outcome State Fault Refusal :=
  done (s.regWrite RING_TBL_CTL data (fun s => s.tblCtlWrite data))

/-- Whether a packet of the bank that is not active is on a ring. -/
def State.oldFlits (s : State) : Bool :=
  (List.range 6).any (fun r => (s.ringFlits r).any (fun f => hdEpoch f.hdr != s.tblActive))

/-- DRAIN_MARKER_RETURN (R373). A marker follows every earlier transfer, so none returns before the packets of the old bank. -/
def execDrainMarkerReturn (ring : Fin 6) (s : State) : Host.Outcome State Fault Refusal :=
  if s.net.markers.contains ring.val ∧ !s.oldFlits then
    let m := s.net.markers.filter (· != ring.val)
    let s := { s with net := { s.net with markers := m } }
    if m.isEmpty then done (s.setFld RING_TBL_CTL RING_TBL_CTL_DRAINING 0) else done s
  else done s

/-- The entry that TBL_SEL selects. -/
def State.tblSel (s : State) : Nat :=
  tblKey (s.fld RING_TBL_SEL RING_TBL_SEL_BANK) (s.fld RING_TBL_SEL RING_TBL_SEL_PAIR % 3) (s.fld RING_TBL_SEL RING_TBL_SEL_DEST)

/-- What TBL_DATA reads as. -/
def State.tblData (s : State) : Data := BitVec.ofNat 64 (s.net.tbl.get (fun _ => 0) s.tblSel)

/-- A write of TBL_DATA (R374). -/
def State.tblDataWrite (s : State) (data : Data) : State :=
  if s.fld RING_TBL_SEL RING_TBL_SEL_BANK = s.tblActive ∨ s.fldOn RING_TBL_CTL RING_TBL_CTL_DRAINING then s.tblRefuse
  else { s with net := { s.net with tbl := s.net.tbl.set (fun _ => 0) s.tblSel (data.toNat % 32) } }

/-- TBL_DATA_WRITE (R374). -/
def execTblDataWrite (data : Data) (s : State) : Host.Outcome State Fault Refusal :=
  done (s.regWrite RING_TBL_DATA data (fun s => s.tblDataWrite data))

/-! ### Trace and probe control (R383, R385) -/

/-- A write of TRACE_CTL: EN 1 empties the buffer, and starts tracing or arms it. -/
def State.traceCtlWrite (s : State) (data : Data) : State :=
  let s := s.writeReg PRB_TRACE_CTL data
  if PRB_TRACE_CTL_EN.on data then
    let s := { s with net := { s.net with trace := {}, traceOn := !PRB_TRACE_CTL_ARM.on data } }
    s.setFlds PRB_TRACE_PTR [(PRB_TRACE_PTR_NEXT, 0), (PRB_TRACE_PTR_WRAPPED, 0)]
  else { s with net := { s.net with traceOn := false } }

/-- TRACE_ENABLE (R383). -/
def execTraceEnable (data : Data) (s : State) : Host.Outcome State Fault Refusal :=
  done (s.regWrite PRB_TRACE_CTL data (fun s => s.traceCtlWrite data))

/-- Armed tracing begins as its trigger-matrix line is asserted (R383). -/
def State.traceEdge (s : State) : State :=
  let t := s.fld PRB_TRACE_CTL PRB_TRACE_CTL_TRIG
  if s.fldOn PRB_TRACE_CTL PRB_TRACE_CTL_EN ∧ s.fldOn PRB_TRACE_CTL PRB_TRACE_CTL_ARM ∧ !s.net.traceOn ∧ s.line t ∧ !s.lineBefore t then
    { s with net := { s.net with traceOn := true } }
  else s

/-- Every probe counter zeroed. -/
def State.probeZero (s : State) : State :=
  (List.range 16).foldl (fun s k => ((s.setReg (PRB_P_CNT_PKT k) 0).setReg (PRB_P_CNT_FLIT k) 0).setReg (PRB_P_CNT_WAIT k) 0) s

/-- A write of PRB.CTL (R385). -/
def State.prbCtlWrite (s : State) (data : Data) : State :=
  let s := s.writeReg PRB_CTL data
  if PRB_CTL_CLEAR.on data then s.probeZero else s

/-- PROBE_CLEAR (R385). -/
def execProbeClear (data : Data) (s : State) : Host.Outcome State Fault Refusal :=
  done (s.regWrite PRB_CTL data (fun s => s.prbCtlWrite data))

/-- Word `k` of the trace buffer. -/
def State.traceData (s : State) (k : Nat) : Data := BitVec.ofNat 64 (natBits (s.net.trace.get (fun _ => 0) (k / 4)).toNat (64 * (k % 4)) 64)

end Sys2Proof.Machine
end

