-- ==== Sys2Proof/Machine/Domains.lean ====
section
/-!
DEFINITION. The domains of R493: which exist, and their powering down and up with the drain (R379 to R381, R506).
-/
namespace Sys2Proof.Machine

/-- Whether a number names a domain (R493). -/
def domKnown (d : Nat) : Bool :=
  let x := d % 256
  match d / 256 with
  | 0 => decide (x < 7)
  | 1 => decide (x < 24) && decide (x % 8 < 6)
  | 2 => decide (x < 32)
  | 3 => decide (x < 128)
  | 4 => true
  | 5 => decide (x < 12)
  | 6 => decide (x < 2)
  | 7 => decide (x < 24)
  | _ => false

/-- Whether a domain powers down (R493). -/
def domPowers (d : Nat) : Bool := domKnown d && [2, 3, 5, 7].contains (d / 256)

/-- Whether a domain's power-down is refused as busy (R506). -/
def State.domBusy (s : State) (d : Nat) : Bool :=
  let x := d % 256
  match d / 256 with
  | 3 => s.fldOn (FAB_ERG_STATUS x) FAB_ERG_STATUS_ACTIVE_WRITE
  | 5 => (List.range 4).any (fun k => s.rxState (4 * x + k) != rxDisabled || s.txState (4 * x + k) != txDisabled)
  | 7 => decide (2 ≤ s.fld (MEA_STATUS x) MEA_STATUS_STATE)
  | _ => false

/-- PWR.DOM_CTL as it shows the selected domain (R508). -/
def State.domCtl (s : State) : Data :=
  let d := s.fld PWR_DOM_SEL PWR_DOM_SEL_DOMAIN
  let v := s.dom d
  let clearing := (d = 1 ∧ s.oasClearing 0) ∨ (d = 4 ∧ s.oasClearing 64)
  BitVec.ofNat 64 (bit01 v.on + 2 * bit01 v.woa + 16 * (if clearing then 4 else v.st))

def State.domShow (s : State) : State := s.setReg PWR_DOM_CTL s.domCtl

/-- What a domain does as its power is removed: an erg's state is saved, a controller parked, an engine keeps its memories alone (R493). -/
def State.domGone (s : State) (d : Nat) : State :=
  let x := d % 256
  let s := match d / 256 with
    | 2 => s.parkCtl x
    | 3 => s.ergGateOff x
    | 7 => s.engReset x
    | _ => s
  (s.setDom d { s.dom d with st := domDown }).domShow

/-- A domain going down has performed every request in its buffers, and no response is due to it as a requester (R379, R381). -/
def State.drained (s : State) (d : Nat) : Bool :=
  s.net.bufs.all (fun b => State.bufDomain b.hdr != d) && s.net.asked.all (fun a => placeDomain a.1 0 != d)

/-- Domains going down that have drained lose power; a reserve packet that waited for one is granted (R381). -/
def State.domEdge (s : State) : State :=
  ((s.pwr.doms.keys.filter (fun d => (s.dom d).st == domGoing && s.drained d)).foldl (fun s d => s.domGone d) s).serveWaiting

/-- Requests held for a domain performed, or answered with a status (R380). -/
def State.domWoken (s : State) (d : Nat) (status : Option Nat) : State :=
  let s := { s with pwr := { s.pwr with wokenFor := s.pwr.wokenFor.filter (· != d) } }
  s.ringWoken d status

/-- A domain up again. -/
def State.domBack (s : State) (d : Nat) : State :=
  let x := d % 256
  let s := s.setDom d { s.dom d with st := domUp, on := true }
  let s := match d / 256 with
    | 2 => (s.unparkCtl x).trainCtl x
    | 3 => s.ergGateOn x
    | _ => s
  (s.domWoken d none).domShow

/-- The end of a domain's wake (R380, R506). -/
def State.domWakeEnd (s : State) (d : Nat) : State := if (s.dom d).st = domWaking then s.domBack d else s

/-- The accesses held for a memory layer answered with a status. -/
def State.oasHeldFail (s : State) (layer status : Nat) : State :=
  (State.layerGroups layer).foldl (fun s i =>
    let g := s.oasGrp i
    if g.held.isEmpty then s
    else
      let s := s.setOasGrp i { g with held := [] }
      g.held.foldl (fun s h => s.answerMem h.req (accWrites h.acc) (i % 64 * 2 ^ 24 + h.off + i / 64 * 2 ^ 30) h.id status []) s) s

/-- A request held for the domain is answered with status wake failed; the domain goes on waking, or clearing (R380). -/
def State.wakeTimeout (s : State) (d : Nat) : State :=
  let layer := if d = 1 then some 0 else if d = 4 then some 1 else none
  let held := match layer with
    | some l => (State.layerGroups l).any (fun i => !(s.oasGrp i).held.isEmpty)
    | none => false
  if held then (((s.oasHeldFail (layer.getD 0) 9).domWoken d (some 9)).domShow).raise 0x0B03 d 0 s.domCtl
  else if s.pwr.wokenFor.contains d then ((s.domWoken d (some 9)).domShow).raise 0x0B03 d 0 s.domCtl
  else s

/-- A power request or power-down refused (R499, R506). -/
def State.pwrRefused (s : State) (inst reason : Nat) : State :=
  (s.setFlds PWR_STATUS [(PWR_STATUS_REFUSED, 1), (PWR_STATUS_REASON, reason)]).raiseReg 0x0108 inst 0 PWR_STATUS

/-- A write of PWR.DOM_CTL (R506): WOA of the selected domain, and its powering down or up. -/
def State.domCtlWrite (s : State) (data : Data) : State :=
  let d := s.fld PWR_DOM_SEL PWR_DOM_SEL_DOMAIN
  let s := s.setDom d { s.dom d with woa := PWR_DOM_CTL_WOA.on data }
  let v := s.dom d
  let s := if PWR_DOM_CTL_ON.on data then
      if v.st = domGoing then s.setDom d { v with on := true, st := domUp }
      else if v.st = domDown then s.setDom d { v with on := true, st := domWaking }
      else s
    else if !domPowers d then s.pwrRefused d 6
    else if s.domBusy d then s.pwrRefused d 5
    else if v.st = domUp ∨ v.st = domWaking then s.setDom d { v with on := false, st := domGoing }
    else s
  s.domShow

/-- DOMAIN_POWER_DOWN (R506): the domain drains; it is down at the first edge after it has. -/
def execDomainPowerDown (data : Data) (s : State) : Host.Outcome State Fault Refusal :=
  done (s.regWrite PWR_DOM_CTL data (fun s => s.domCtlWrite (PWR_DOM_CTL_ON.put data 0)))

/-- DOMAIN_POWER_UP (R506). -/
def execDomainPowerUp (data : Data) (s : State) : Host.Outcome State Fault Refusal :=
  done (s.regWrite PWR_DOM_CTL data (fun s => s.domCtlWrite (PWR_DOM_CTL_ON.put data 1)))

end Sys2Proof.Machine
end

