-- ==== Sys2Proof/Machine/Host.lean ====
section
/-!
DEFINITION. The host link beside the rings: BAR4, the event ring's registers, the link's loss and return, and leaving the slot
(R389 to R392, R409 to R412, R415).
-/
namespace Sys2Proof.Machine

/-! ### The event ring (R415) -/

/-- A write of EVT.BASE: with EN at 1 it takes effect only if it writes EN 0; setting EN zeroes HEAD and TAIL. -/
def State.evtBaseWrite (s : State) (data : Data) : State :=
  if s.fldOn EVT_BASE EVT_BASE_EN then
    if EVT_BASE_EN.on data then s else s.writeReg EVT_BASE data
  else
    let s := s.writeReg EVT_BASE data
    if EVT_BASE_EN.on data then (s.setReg EVT_HEAD 0).setReg EVT_TAIL 0 else s

/-- EVT_BASE_WRITE (R415). -/
def execEvtBaseWrite (data : Data) (s : State) : Host.Outcome State Fault Refusal :=
  done (s.regWrite EVT_BASE data (fun s => s.evtBaseWrite data))

/-- A write of EVT.HEAD above TAIL or below its previous value is ignored. -/
def State.evtHeadWrite (s : State) (data : Data) : State :=
  if (s.reg EVT_TAIL).toNat < data.toNat ∨ data.toNat < (s.reg EVT_HEAD).toNat then s else s.setReg EVT_HEAD data

/-- EVT_HEAD_WRITE (R415). -/
def execEvtHeadWrite (data : Data) (s : State) : Host.Outcome State Fault Refusal :=
  done (s.regWrite EVT_HEAD data (fun s => s.evtHeadWrite data))

/-- A write of EVT.CFG: SIZE only while EN is 0. -/
def State.evtCfgWrite (s : State) (data : Data) : State :=
  if s.fldOn EVT_BASE EVT_BASE_EN then s.setFld EVT_CFG EVT_CFG_VECTOR (EVT_CFG_VECTOR.get data) else s.writeReg EVT_CFG data

/-- EVT_CFG_WRITE (R415). -/
def execEvtCfgWrite (data : Data) (s : State) : Host.Outcome State Fault Refusal :=
  done (s.regWrite EVT_CFG data (fun s => s.evtCfgWrite data))

/-! ### BAR4 (R391) -/

/-- What the host's read of a BAR or a data window returned. -/
def State.answerHost (s : State) (b : Option (List Byte)) : State := { s with host := { s.host with answer := b } }


/-- An access of BAR4 carried out with its status and bytes. -/
def State.bar4Done (s : State) (write : Bool) (off st : Nat) (bytes : List Byte) : State :=
  if st ≠ 0 then s.bar4Fail write st off else if write then s else s.answerHost (some bytes)

/-- The DRAM address that offset 0 of BAR4 reaches: BASE without its bits below the BAR's size (R391, R413). -/
def State.bar4Base (s : State) : Nat := s.fld QIF_BAR4_WIN QIF_BAR4_WIN_BASE * 2 ^ 30 / 2 ^ s.host.bar4 * 2 ^ s.host.bar4

/-- BAR4_ACCESS (R389, R391). An access that must wait for its domain is held with the requests of the memory it is for. -/
def execBar4Access (off : Nat) (acc : MemAcc) (s : State) : Host.Outcome State Fault Refusal :=
  let write := accWrites acc
  if !s.hostReaches ∨ 2 ^ s.host.bar4 ≤ off then done s
  else if s.qif = 4 then done (if write then s else s.answerHost none)
  else if s.fldOn QIF_BAR4_WIN QIF_BAR4_WIN_SPACE then
    if 2 ^ 31 ≤ off then done (s.bar4Fail write 4 off)
    else
      let i := off / 2 ^ 30 * 64 + off / 2 ^ 24 % 64
      let r := s.oasAcc i 0 (off % 2 ^ 24) acc
      if r.2.1 = memWait then done (s.oasRequest i 0 (off % 2 ^ 24) acc) else done (r.1.bar4Done write off r.2.1 r.2.2)
  else
    let a := s.bar4Base + off
    let r := s.dramAcc 0 a acc
    if r.2.1 = memWait then done (s.dramRequest 0 a acc) else done (r.1.bar4Done write a r.2.1 r.2.2)

/-! ### The link (R410) -/

/-- HOST_LINK_DOWN (R410). -/
def execHostLinkDown (s : State) : Host.Outcome State Fault Refusal := done { s with host := { s.host with linkUp := false } }

/-- LINK_RETURN (R410): PERST# is high and the link has trained, which ends WAKE# (R502); the held transfers are issued in order. A device
that has departed issues none (R411). -/
def execLinkReturn (s : State) : Host.Outcome State Fault Refusal :=
  if s.host.linkUp ∨ !s.host.present then done s
  else
    let held := s.host.held
    let s := { s with host := { s.host with linkUp := true, held := [] }, pins := { s.pins with perst := false, wake := false } }
    if s.qif = 4 then done s else done (held.foldl (fun s h => s.issueHeld h) s)

/-! ### Leaving the slot (R411, R412) -/

/-- The journal entries of items started and not finished. -/
def State.startedEntries (s : State) : List Nat := (s.jr.entries.keys).filter (fun e => (s.jentry e).state == 1)

/-- Steps 1 to 3 of a departure, up to the read of the page: each started entry is written, that of a playing item when its player has
stopped. -/
def State.depart (s : State) : State :=
  let s := { s with jr := { s.jr with departDue := false } }.setFld QIF_STATUS QIF_STATUS_STATE 3
  let s := (List.range 48).foldl (fun s p => s.plyEject p) s
  let started := s.startedEntries
  let s := started.foldl (fun s e => s.journalPut e (s.jentry e)) s
  { s with jr := { s.jr with departing := some started.length } }.setFld QIF_STATUS QIF_STATUS_STATE 3

/-- EJECT# low. -/
def State.ejectLow (s : State) : State := { s with pins := { s.pins with eject := true } }

/-- EJECT_FALL (R411, R412): during a recovery step, and while the device sleeps, the departure follows. -/
def execEjectFall (s : State) : Host.Outcome State Fault Refusal :=
  if s.pins.eject then done s
  else if !s.pwr.powered ∨ s.qif = 3 ∨ s.qif = 4 then done s.ejectLow
  else if s.qif = 1 ∨ s.sup.kind ≠ 0 ∨ s.pwr.st = .rest ∨ s.pwr.st = .dormant then
    done { s with jr := { s.jr with departDue := true } }.ejectLow
  else done s.depart.ejectLow

/-- EJECT_RISE (R412): a departure begun completes, and DEPARTED stays. -/
def execEjectRise (s : State) : Host.Outcome State Fault Refusal := done { s with pins := { s.pins with eject := false } }

/-- The completions of a ring that may be released, written one after another. -/
def State.releaseRing (s : State) (r : Nat) : State :=
  (List.range (s.ring r).order.length).foldl (fun s _ => s.releaseFirst r) s

/-- Every item that has finished completed as far as ring and flow order let it (R411 step 2). -/
def State.releaseAll (s : State) : State :=
  let s := s.sched.execs.keys.foldl (fun s k => s.itemFinish k) s
  (List.range s.sched.reorder.cells.length).foldl (fun s _ => s.rings.keys.foldl (fun s r => s.releaseRing r) s) s

/-- DATA of the departure event: items accepted and not completed on all rings, entries written, whether the read completed (R411). -/
def State.departData (s : State) (read : Bool) : BitVec 128 :=
  let items := (s.rings.cells.map (fun c => c.2.order.length)).foldl (· + ·) 0
  BitVec.ofNat 128 (items % 2 ^ 64 + 2 ^ 64 * s.startedEntries.length + 2 ^ 96 * bit01 read)

/-- DEPARTURE_READ_COMPLETE (R411): the read of the page has ended; frames still in progress have been cut by then. The DRAM is parked,
the event is written, and the device has departed. While the link is down the read is held (R410). -/
def execDepartureReadComplete (res : HostRead) (s : State) : Host.Outcome State Fault Refusal :=
  match s.jr.departing with
  | none => done s
  | some _ =>
    if s.host.linkUp ∧ s.host.present then
      let s := (List.range 48).foldl (fun s p => s.plyEjectCut p) s
      let s := s.releaseAll.parkDram
      let s := { s with jr := { s.jr with departing := none } }
      done ((s.raiseRaw 0x000C 1 0 (s.departData (res == .ok))).setFld QIF_STATUS QIF_STATUS_STATE 4)
    else done s

end Sys2Proof.Machine
end

