-- ==== Sys2Proof/Machine/Shade.lean ====
section
/-!
DEFINITION. The shade planner and the wear accounting (chapter 13).
-/
namespace Sys2Proof.Machine

/-! ### Sensors (R344, R354) -/

/-- A sensor's reading as held, signed, in 1/16 °C; none while no reading is held. -/
def State.temp (s : State) (k : Nat) : Option Int :=
  if s.fldOn (THM_SENS k) THM_SENS_VALID then some (signed 16 (s.fld (THM_SENS k) THM_SENS_TEMP)) else none

/-- Whether a sensor reads at least so many °C. -/
def State.reads (s : State) (k : Nat) (deg : Int) : Bool :=
  match s.temp k with
  | some t => decide (deg * 16 ≤ t)
  | none => false

/-- The index of a die's 2 × 2 block sensor over a column (R23). -/
def blockOf (n : Nat) : Nat := n % 8 / 2 + 4 * (n / 16)

/-- The sensor of a die over a column, by die code (R15, R23). -/
def dieSensor (die n : Nat) : Nat :=
  match die with
  | 0 => 128 + n
  | 1 => 192 + blockOf n
  | 2 => 208 + blockOf n
  | 3 => n
  | 4 => 224 + blockOf n
  | 5 => 240 + blockOf n
  | _ => 64 + n

/-- The sensors whose areas share a side with a sensor's on its die (R23, R344). -/
def sensorBeside (k : Nat) : List Nat :=
  let size := if k < 192 then 8 else 4
  let base := if k < 192 then k / 64 * 64 else k / 16 * 16
  let x := (k - base) % size
  let y := (k - base) / size
  (if 0 < x then [k - 1] else []) ++ (if x + 1 < size then [k + 1] else [])
    ++ (if 0 < y then [k - size] else []) ++ (if y + 1 < size then [k + size] else [])

/-- The highest of a list of temperatures. -/
def hottest : List Int → Option Int
  | [] => none
  | t :: r => match hottest r with
    | none => some t
    | some u => some (if u < t then t else u)

/-- A reading taken. One that fails the self-check, or lies outside −40 to 150 °C, marks the sensor FAILED (R344). -/
def State.takeReading (s : State) (x : SensorIn) : State :=
  let r := THM_SENS x.k
  if s.fldOn r THM_SENS_FAILED then s
  else
    let bad := match x.reading with
      | none => true
      | some v => decide (signed 16 v.toNat < -640) || decide (2400 < signed 16 v.toNat)
    if bad then (s.setFlds r [(THM_SENS_FAILED, 1), (THM_SENS_VALID, 0)]).raiseReg 0x0A01 x.k 0 r
    else s.setFlds r [(THM_SENS_VALID, 1), (THM_SENS_TEMP, (x.reading.getD 0).toNat)]

/-- A FAILED sensor's replacement value: a free value when no neighbour holds a valid reading. -/
def State.replaceReading (s : State) (k : Nat) : State :=
  let r := THM_SENS k
  if s.fldOn r THM_SENS_FAILED then
    match hottest (((sensorBeside k).filter (fun j => !s.fldOn (THM_SENS j) THM_SENS_FAILED)).filterMap s.temp) with
    | some t => s.setFlds r [(THM_SENS_VALID, 1), (THM_SENS_TEMP, wrapInt 16 (t + 160))]
    | none => (s.spend 1).setFlds r [(THM_SENS_VALID, 1), (THM_SENS_TEMP, (Config.freeValue 16 s.freeCtr).toNat)]
  else s

/-- What a sensor at 100 °C or above, or at 105 °C or above, raises when it gets there (R354). -/
def State.limitEvents (s old : State) (k : Nat) : State :=
  let s := if k < 128 ∧ s.reads k 100 then
      let t := s.setFld THM_STATUS THM_STATUS_THROTTLE 1
      if old.reads k 100 then t else t.raiseReg 0x0A06 k 0 (THM_SENS k)
    else s
  if s.reads k 105 then
    let t := s.setFld THM_STATUS THM_STATUS_LIMIT 1
    if old.reads k 105 then t else t.raiseReg 0x0A07 k 0 (THM_SENS k)
  else s

/-- Gating at N = 2 begun or ended on an erg (R354); what R350 had in force stands again at its end. -/
def State.setHalf (s : State) (i : Nat) (on : Bool) : State :=
  let t := s.ergThm i
  let r := FAB_ERG_SHADE i
  if on && !t.half then
    let s := (s.setErgThm i { t with half := true, pre := s.reg r, phase := Config.freeBelow 2 s.freeCtr }).spend 1
    s.setFlds r [(FAB_ERG_SHADE_MEANS, 3), (FAB_ERG_SHADE_RULE, 3), (FAB_ERG_SHADE_GATE_N, 2)]
  else if t.half && !on then
    (s.setErgThm i { t with half := false, pre := 0 }).setFlds r [(FAB_ERG_SHADE_MEANS, FAB_ERG_SHADE_MEANS.get t.pre),
      (FAB_ERG_SHADE_RULE, FAB_ERG_SHADE_RULE.get t.pre), (FAB_ERG_SHADE_GATE_N, FAB_ERG_SHADE_GATE_N.get t.pre)]
  else s

/-- An erg's clock gated fully, or released (R354). -/
def State.setFull (s : State) (i : Nat) (on : Bool) : State :=
  if (s.ergThm i).full = on then s else s.setErgThm i { s.ergThm i with full := on }

/-- The limits of 100 °C and 105 °C on one column (R354). -/
def State.limitColumn (s : State) (n : Nat) : State :=
  let half := [n, n + 64].any (fun k => s.reads k 100) || ((s.ergThm n).half && [n, n + 64].any (fun k => s.reads k 98))
  let all := (List.range 7).map (fun d => dieSensor d n)
  let full := all.any (fun k => s.reads k 105) || ((s.ergThm n).full && all.any (fun k => s.reads k 100))
  let s := (s.setHalf n half).setHalf (n + 64) half
  (s.setFull n full).setFull (n + 64) full

/-- For how many readings in a row a sensor has been at 110 °C or above (R354, R505). -/
def State.countOver (s : State) (k : Nat) : State :=
  let n := s.thm.hotFor.get (fun _ => 0) k
  let m := if s.reads k 110 then n + 1 else 0
  { s with thm := { s.thm with hotFor := s.thm.hotFor.set (fun _ => 0) k m } }

/-- STATUS.ACTIVE follows the interventions in force (R361). -/
def State.showActive (s : State) : State :=
  s.setFld THM_STATUS THM_STATUS_ACTIVE (bit01 ((List.range 128).any (fun i => s.fldOn (FAB_ERG_SHADE i) FAB_ERG_SHADE_MEANS)))

/-- After a forced Dormant, FAULT# is released once every sensor reads below 95 °C (R505). -/
def State.coolEnough (s : State) : State :=
  if s.pwr.thermal ∧ s.pwr.st ≠ .dormant ∧ (List.range 256).all (fun k => s.fldOn (THM_SENS k) THM_SENS_VALID && !s.reads k 95) then
    { s with pwr := { s.pwr with thermal := false }, pins := { s.pins with fault := false } }
  else s

/-- SENSOR_READ (R344, R354). A sensor that the operand does not name reads as before. -/
def execSensorRead (readings : List SensorIn) (s : State) : Host.Outcome State Fault Refusal :=
  let old := s
  let s := readings.foldl State.takeReading s
  let s := (List.range 256).foldl State.replaceReading s
  let s := (List.range 256).foldl (fun s k => s.limitEvents old k) s
  let s := (List.range 64).foldl State.limitColumn s
  done (((List.range 256).foldl State.countOver s).showActive).coolEnough

/-! ### Interventions (R348 to R353) -/

def meansMove := 1
def meansStretch := 2
def meansGate := 3
def ruleBudget := 1
def ruleStacked := 2
def ruleTemp := 3

def State.means (s : State) (i : Nat) : Nat := s.fld (FAB_ERG_SHADE i) FAB_ERG_SHADE_MEANS

/-- The effective target in °C (R354). -/
def State.effTarget (s : State) : Nat :=
  min (s.fld THM_CTL THM_CTL_TARGET) 100 - s.fld THM_WEAR_CTL THM_WEAR_CTL_NARROW

/-- Whether an erg's sensor reads above the effective target. -/
def State.tooWarm (s : State) (i : Nat) : Bool :=
  match s.temp i with
  | some t => decide ((s.effTarget : Int) * 16 < t)
  | none => false

/-- Whether an erg is exempt (R353); at 100 °C exemptions of the column are ignored (R354). -/
def State.exempt (s : State) (i : Nat) : Bool := s.fldOn (FAB_ERG_SHADE i) FAB_ERG_SHADE_EXEMPT && !(s.ergThm i).half

/-- Whether erg j can take the work of erg i: the same image and context, FRESH or VALID, not hot, not reserved (R350). -/
def State.canTake (s : State) (i j : Nat) : Bool :=
  match s.ergActive i with
  | some c =>
    let st := s.planeState j c
    i != j && i / 64 == j / 64 && !(s.ergThm j).hot && !s.ergReserved j && (st == plFresh || st == plValid)
      && ((s.erg j).plane c).imageId == ((s.erg i).plane c).imageId
  | none => false

/-- The erg that a move sends erg i's work to: the lowest number among those that can take it (DESIGN CHOICE, log entry 37). -/
def State.moveTarget (s : State) (i : Nat) : Option Nat :=
  if plMovable (s.activePlane i).settings ∧ (s.ergActive i).isSome then (List.range 128).find? (fun j => s.canTake i j) else none

/-- Whether an erg takes work through its task port (R350): a task has been delivered to it, or one stands in its port or before it
(DEDUCED, log entry 38). -/
def State.takesWork (s : State) (i : Nat) : Bool :=
  s.fldOn (SCH_TP i) SCH_TP_TASKNO || (s.cur (keyTask i)).isSome || !(s.exec? (keyTask i)).queue.isEmpty
    || s.sched.ready.any (fun it => it.execOf == some (keyTask i))

/-- Items in the ready stage sent to another erg's port, or back (R350, R355). -/
def State.redirect (s : State) (i : Nat) (dst : Option Nat) : State :=
  { s with sched := { s.sched with ready := s.sched.ready.map (fun it =>
      if it.opc = opTask ∧ it.unit = i then { it with movedTo := dst } else it) } }

/-- A means put in force on an erg (R350). -/
def State.apply_ (s : State) (i m : Nat) (dst : Option Nat) : State :=
  let r := FAB_ERG_SHADE i
  let t := s.ergThm i
  if m = meansMove then
    ((s.setErgThm i { t with moveTo := dst, moved := false, outside := 0, within := 0 }).setFld r FAB_ERG_SHADE_MEANS meansMove).redirect i dst
  else if m = meansStretch then
    (s.setErgThm i { t with outside := 0, within := 0 }).setFlds r [(FAB_ERG_SHADE_MEANS, meansStretch), (FAB_ERG_SHADE_STRETCH, 1)]
  else
    let s := (s.setErgThm i { t with outside := 0, within := 0, phase := Config.freeBelow 16 s.freeCtr }).spend 1
    s.setFlds r [(FAB_ERG_SHADE_MEANS, meansGate), (FAB_ERG_SHADE_GATE_N, 16)]

/-- The first applicable means above those in force put in force (R350). -/
def State.addMeans (s : State) (i : Nat) : State :=
  let m := s.means i
  match (if m = 0 then s.moveTarget i else none) with
  | some j => s.apply_ i meansMove (some j)
  | none =>
    if m < meansStretch ∧ s.takesWork i then s.apply_ i meansStretch none
    else if m < meansGate then s.apply_ i meansGate none
    else s

/-- An intervention begun on an erg for a rule, with its event (R350, R352). -/
def State.beginOn (s : State) (i rule : Nat) : State :=
  let s := s.setFld (FAB_ERG_SHADE i) FAB_ERG_SHADE_RULE rule
  (s.addMeans i).raiseReg 0x0A02 i 0 (FAB_ERG_SHADE i)

/-- An intervention ended: its event names the rule and the means, and nothing of it stays in force (R349, R352). -/
def State.endOn (s : State) (i : Nat) : State :=
  let r := FAB_ERG_SHADE i
  if s.means i = 0 ∨ (s.ergThm i).half then s
  else
    let s := s.raiseReg 0x0A03 i 0 r
    let s := (s.setErgThm i { s.ergThm i with moveTo := none, moved := false, outside := 0, within := 0 }).redirect i none
    s.setFlds r [(FAB_ERG_SHADE_MEANS, 0), (FAB_ERG_SHADE_RULE, 0), (FAB_ERG_SHADE_STRETCH, 0), (FAB_ERG_SHADE_GATE_N, 0)]

/-- After 20 windows outside the rules, the next means (R350). -/
def State.escalate (s : State) (i : Nat) : State :=
  if s.means i ≠ 0 ∧ (s.ergThm i).outside ≥ 20 ∧ !(s.ergThm i).half then s.addMeans i else s

/-- After 20 windows within both rules, the end (R349). -/
def State.endDue (s : State) (i : Nat) : State := if (s.ergThm i).within ≥ 20 then s.endOn i else s

/-- INTERVENTION_ESCALATE (R350). -/
def execInterventionEscalate (i : ErgNo) (s : State) : Host.Outcome State Fault Refusal := done (s.escalate i)

/-- INTERVENTION_END (R349). -/
def execInterventionEnd (i : ErgNo) (s : State) : Host.Outcome State Fault Refusal := done (s.endDue i).showActive

/-- A move whose target has become hot or has changed its plane before the switch item is dispatched is abandoned, and stretch applies;
where an erg takes no work through its port, gating does (R355). -/
def State.abandonMove (s : State) (i : Nat) : State :=
  let t := s.ergThm i
  match t.moveTo with
  | some j =>
    if t.moved ∨ s.canTake i j then s
    else
      let s := (s.setErgThm i { t with moveTo := none }).redirect i none
      (s.raiseReg 0x0A04 i 0 (FAB_ERG_SHADE i)).addMeans i
  | none => s

/-! ### The window -/

/-- The activity of a window from its operations (R345). -/
def activity (ops : Nat) : Nat := min 1024 (ops / 960)

/-- The activity of every erg taken for the window, and its counter started anew. In Quiet it is 0 (R345, R355). -/
def State.takeActivity (s : State) (i : Nat) : State :=
  let t := s.ergThm i
  let a := if s.pwr.st = .quiet then 0 else activity t.ops
  let hot := decide (min (s.fld THM_CTL THM_CTL_HOT) 1024 ≤ a) || s.tooWarm i
  (s.setErgThm i { t with ops := 0, hot := hot }).setFld (FAB_ERG_SHADE i) FAB_ERG_SHADE_ACT a

/-- Operations of a layer in the window. -/
def State.layerOps (s : State) (l : Nat) : Nat := (List.range 64).foldl (fun n k => n + (s.ergThm (64 * l + k)).ops) 0

/-- The sum of a layer's operations over the windows kept, and their number. -/
def State.histSum (s : State) (l : Nat) : Nat :=
  s.thm.hist.foldl (fun n p => n + (if l = 0 then p.1 else p.2)) 0

def State.staticPower (s : State) (l : Nat) : Nat := if l = 0 then s.fuses.staticA else s.fuses.staticB
def State.budgetOf (s : State) (l : Nat) : Nat := s.fld THM_BUDGET (if l = 0 then THM_BUDGET_LAYER_A else THM_BUDGET_LAYER_B)

/-- Whether a layer's estimate exceeds its budget: 4 pJ an operation, a window of 1 µs, so 25,000 operations are 0.1 W (R345 to R347). -/
def State.overBudget (s : State) (l : Nat) : Bool :=
  let n := 25000 * max s.thm.hist.length 1
  decide (s.budgetOf l * n < s.histSum l + s.staticPower l * n)

/-- A layer's estimate as shown, in 0.1 W: which way a fraction is rounded is free. -/
def State.showPower (s : State) (l : Nat) : State :=
  let n := 25000 * max s.thm.hist.length 1
  let up := if s.histSum l % n = 0 then 0 else Config.freeBelow 2 s.freeCtr
  (s.spend 1).setFld THM_POWER (if l = 0 then THM_POWER_LAYER_A else THM_POWER_LAYER_B)
    (min (s.histSum l / n + s.staticPower l + up) 65535)

/-- A rule that exemption leaves unmet (R353); for the stacked rule, whose pair lies on both layers, the event names layer 0 (DESIGN CHOICE,
log entry 146). -/
def State.ruleUnmet (s : State) (l : Nat) : State :=
  if s.fldOn THM_STATUS THM_STATUS_OVER then s
  else (s.setFld THM_STATUS THM_STATUS_OVER 1).raiseReg 0x0A05 l 0 THM_STATUS

/-- Windows a pair has been hot together (R348). -/
def State.countPair (s : State) (n : Nat) : State :=
  let h := s.thm.hotRun.get (fun _ => 0) n
  let h := if (s.ergThm n).hot && (s.ergThm (n + 64)).hot then h + 1 else 0
  { s with thm := { s.thm with hotRun := s.thm.hotRun.set (fun _ => 0) n h } }

/-- Whether a pair has been hot together for HOLD windows. -/
def State.pairHeld (s : State) (n : Nat) : Bool :=
  decide (max (s.fld THM_CTL THM_CTL_HOLD) 1 ≤ s.thm.hotRun.get (fun _ => 0) n)

/-- The erg of a pair that the planner acts on; none when both are exempt (R348, R353). -/
def State.pairChoice (s : State) (n : Nat) : Option Nat :=
  let a := plShadePrio (s.activePlane n).settings
  let b := plShadePrio (s.activePlane (n + 64)).settings
  let first := if b < a then n + 64 else n
  let other := if b < a then n else n + 64
  if !s.exempt first then some first else if !s.exempt other then some other else none

/-- The erg a layer over its budget has added this window: any one not exempt, with operations and under no intervention; which is
free. -/
def State.budgetChoice (s : State) (l : Nat) : Option Nat :=
  let cands := ((List.range 64).map (· + 64 * l)).filter (fun i =>
    !s.exempt i && s.fldOn (FAB_ERG_SHADE i) FAB_ERG_SHADE_ACT && s.means i == 0)
  cands[Config.freeBelow cands.length s.freeCtr]?

/-- Whether exemption keeps a layer over its budget (R353): an exempt erg works, and every other that does is gated as far as it may be. -/
def State.onlyExempt (s : State) (l : Nat) : Bool :=
  let act := ((List.range 64).map (· + 64 * l)).filter (fun i => s.fldOn (FAB_ERG_SHADE i) FAB_ERG_SHADE_ACT)
  act.any s.exempt && act.all (fun i => s.exempt i || s.fld (FAB_ERG_SHADE i) FAB_ERG_SHADE_GATE_N == 2)

/-- The rule an erg is outside of, if any: temperature, stacked, budget (R347, R348, R354). -/
def State.ruleOf (s : State) (i : Nat) (added : List Nat) : Nat :=
  if s.pwr.st = .quiet then 0
  else if s.tooWarm i then ruleTemp
  else if !s.fldOn THM_CTL THM_CTL_EN ∨ s.exempt i then 0
  else if s.pairHeld (i % 64) ∧ s.pairChoice (i % 64) = some i then ruleStacked
  else if s.overBudget (i / 64) ∧ (added.contains i ∨ (s.means i ≠ 0 ∧ s.fld (FAB_ERG_SHADE i) FAB_ERG_SHADE_RULE = ruleBudget)) then ruleBudget
  else 0

/-- An erg's means over a window outside the rules: stretched by one more, gated at a smaller N (R350). -/
def State.harder (s : State) (i : Nat) : State :=
  let r := FAB_ERG_SHADE i
  let st := s.fld r FAB_ERG_SHADE_STRETCH
  let n := s.fld r FAB_ERG_SHADE_GATE_N
  s.setFlds r [(FAB_ERG_SHADE_STRETCH, if st = 0 then 0 else min (st + 1) 255), (FAB_ERG_SHADE_GATE_N, if n = 0 then 0 else max (n - 1) 2)]

/-- One erg at the end of a window: an intervention begins, presses harder, or counts a window within the rules (R349, R350). With EN 0
and in Quiet what is in force for no temperature is released (R355). -/
def State.judgeErg (s : State) (added : List Nat) (i : Nat) : State :=
  let rule := s.ruleOf i added
  let t := s.ergThm i
  if t.half then s
  else if s.means i = 0 then (if rule = 0 then s else s.beginOn i rule)
  else if rule = 0 then
    if s.pwr.st = .quiet ∨ !s.fldOn THM_CTL THM_CTL_EN then s.endOn i
    else s.setErgThm i { t with outside := 0, within := t.within + 1 }
  else
    let s := s.setErgThm i { t with outside := t.outside + 1, within := 0 }
    (s.setFld (FAB_ERG_SHADE i) FAB_ERG_SHADE_RULE rule).harder i

/-- SHADE_WINDOW (R345 to R350, R353, R355). Escalations and ends that the last windows owe are performed first. -/
def execShadeWindow (s : State) : Host.Outcome State Fault Refusal :=
  let ergs := List.range 128
  let s := ergs.foldl (fun s i => (s.escalate i).endDue i) s
  let s := { s with thm := { s.thm with hist := ((s.layerOps 0, s.layerOps 1) :: s.thm.hist).take 100 } }
  let s := ergs.foldl State.takeActivity s
  let s := (s.showPower 0).showPower 1
  let s := ergs.foldl State.abandonMove s
  let s := (List.range 64).foldl State.countPair s
  let en := s.fldOn THM_CTL THM_CTL_EN && s.pwr.st != .quiet
  let added := if en then (List.range 2).filterMap (fun l => if s.overBudget l then s.budgetChoice l else none) else []
  let s := s.spend 1
  let s := if en then (List.range 2).foldl (fun s l => if s.overBudget l ∧ s.onlyExempt l then s.ruleUnmet l else s) s else s
  let s := if en then (List.range 64).foldl (fun s n => if s.pairHeld n ∧ s.pairChoice n = none then s.ruleUnmet 0 else s) s else s
  done (ergs.foldl (fun s i => s.judgeErg added i) s).showActive

/-! ### Writes of THM registers -/

/-- A write of THM.CTL (R355, R361). -/
def State.thmCtlWrite (s : State) (data : Data) : State :=
  let was := s.fldOn THM_CTL THM_CTL_EN
  let s := s.writeReg THM_CTL data
  s.raiseIf (was && !s.fldOn THM_CTL THM_CTL_EN) 0x0A09 0 0 THM_CTL

/-- THM_CTL_WRITE (R355). -/
def execThmCtlWrite (data : Data) (s : State) : Host.Outcome State Fault Refusal :=
  done (s.regWrite THM_CTL data (fun s => s.thmCtlWrite data))

/-- A write of THM.BUDGET: each field is clamped to 200 to 2,500 (R347, R361). -/
def State.budgetWrite (s : State) (data : Data) : State :=
  let clamp := fun (n : Nat) => min (max n 200) 2500
  s.setFlds THM_BUDGET [(THM_BUDGET_LAYER_A, clamp (THM_BUDGET_LAYER_A.get data)), (THM_BUDGET_LAYER_B, clamp (THM_BUDGET_LAYER_B.get data))]

/-- What power-on reset, warm reset and PERST# do to the planner (R364). A FAILED mark holds until power-on reset (R344). -/
def State.thmReset (s : State) (powerOn : Bool) : State :=
  let s := [THM_CTL, THM_BUDGET, THM_POWER, THM_STATUS].foldl State.resetReg s
  let s := s.setFld THM_WEAR_CTL THM_WEAR_CTL_WORST 0
  let s := (List.range 256).foldl (fun s k =>
    if s.fldOn (THM_SENS k) THM_SENS_FAILED && !powerOn then (s.resetReg (THM_SENS k)).setFld (THM_SENS k) THM_SENS_FAILED 1
    else s.resetReg (THM_SENS k)) s
  let s := (List.range 128).foldl (fun s i => (s.resetReg (FAB_ERG_SHADE i)).redirect i none) s
  { s with thm := { s.thm with ergs := {}, hist := [], hotRun := {}, hotFor := {} } }

end Sys2Proof.Machine
end

