-- ==== Sys2Proof/Machine/Reset.lean ====
section
/-!
DEFINITION. Warm reset, function level reset and PERST# (R388, R492, R542). A reset is one step: the 2 ms in which it completes are
timing (log entry 49).
-/
namespace Sys2Proof.Machine

/-- Every listed register changed by a function of its offset and value. -/
def State.mapRegs (s : State) (f : Nat → Data → Data) : State :=
  { s with regs := { cells := s.regs.cells.filterMap (fun (c : Nat × Data) => let v := f c.1 c.2; if v = regReset c.1 then none else some (c.1, v)) } }

/-- A register's value with the bits of a mask at their reset value. -/
def clearTo (off : Nat) (v : Data) (mask : Nat) : Data := maskWrite v (regReset off) mask

/-- The mask of a field. -/
def Fld.mask (f : Fld) : Nat := (2 ^ f.w - 1) * 2 ^ f.lo

/-- The bits of SCH registers that warm reset keeps, beside RWS fields (R439, R542): STORE, SPILL, RECON (counted since power-on), and of a
task port CH, and TASKNO and PENDING, which follow the retained journal. -/
def schKept (off : Nat) : Nat :=
  if off = SCH_STORE ∨ off = SCH_SPILL ∨ off = SCH_RECON then 0xFFFFFFFFFFFFFFFF
  else if SCH_TP 0 ≤ off ∧ off < SCH_TP 128 then SCH_TP_CH.mask + SCH_TP_TASKNO.mask + SCH_TP_PENDING.mask
  else 0

/-- The bits of a register, beside RWS fields, that warm reset and PERST# keep, by block (R542). -/
def warmKept (off : Nat) (r : RegInfo) : Nat :=
  let all := 0xFFFFFFFFFFFFFFFF
  if off < 0x10000 then 0
  else if off < 0x20000 then all - r.w1c
  else if off < 0x30000 then all
  else if off < 0x40000 then (if off = RST_CAUSE then all else 0)
  else if off < 0x50000 then all
  else if off < 0x60000 then
    if off = SUP_STATUS then SUP_STATUS_TAKEOVERS.mask + SUP_STATUS_LEADER.mask
    else if off < SUP_WDOG 0 then all
    else SUP_WDOG_EXPIRIES.mask
  else if off < 0xC0000 then 0
  else if off < 0x100000 then schKept off
  else if off < 0x180000 then (if off = RING_TBL_CTL then RING_TBL_CTL_ACTIVE.mask else 0)
  else if off < 0x1C0000 then
    if off = CFG_STATUS then all - CFG_STATUS_ENGINE.mask
    else if off = CFG_SCRUB then 0
    else all
  else if off < 0x200000 then all
  else if off < 0x240000 then (if off = WELL_ERR ∨ off = WELL_REPLAY then 0 else all)
  else if off < 0x280000 then
    if off = OAS_BIST 0 ∨ off = OAS_BIST 1 then all
    else if OAS_G_CTL 0 ≤ off ∧ off < OAS_G_CTL 128 ∧ off % 0x40 = 0x10 then OAS_G_STATUS_CLEARING.mask
    else 0
  else if off < 0x2A0000 ∧ (off % 0x1000 = 0x60 ∨ off % 0x1000 = 0x68) then 0
  else if off < 0x340000 then all - r.rcl
  else if off < 0x3C0000 then all
  else if off < 0x400000 then 0
  else all

/-- The value that warm reset and PERST# leave in a register (R542); RWS fields keep theirs in every block (R12). -/
def warmValue (off : Nat) (v : Data) : Data :=
  match regInfo off with
  | some r => clearTo off v (0xFFFFFFFFFFFFFFFF &&& (0xFFFFFFFFFFFFFFFF - (warmKept off r ||| r.rws)))
  | none => v

/-- A ring after a reset (R434): HELD while it has been accepted on, its control block read again where its check had not ended or had
failed. -/
def State.ringAfterReset (s : State) (r old : Nat) : State :=
  let q := s.ring r
  let s := s.setRing r { q with modRun := false, modPend := false }
  let s := s.setFld (QIF_RING_STATUS r) QIF_RING_STATUS_INFLIGHT q.order.length
  if old = ringOff then s
  else if old = ringChecking ∨ (old = ringError ∧ s.fldOn (QIF_RING_CB r) QIF_RING_CB_EN ∧ !s.jr.rings.keys.contains r) then
    (s.setRing r { s.ring r with cbRead := true }).setRingState r ringChecking
  else if old = ringError ∧ q.order.isEmpty ∧ !s.fldOn (QIF_RING_CB r) QIF_RING_CB_EN then s
  else s.setRingState r ringHeld

/-- PENDING of the task ports from the retained journal, on a wake from Dormant (R430, R439). -/
def State.showTasks (s : State) : State :=
  (List.range 128).foldl (fun s i =>
    let j := s.jentry (49 + i)
    if j.state = 1 ∧ j.opc = opTask then
      s.setFld (SCH_TP i) SCH_TP_PENDING (natBits j.body.toNat 16 1)
    else s) s

/-- A load in progress ends with its planes and slot INVALID, to be begun anew (R454, R461). -/
def State.loadReset (s : State) : State :=
  match s.store.load with
  | none => s
  | some ld =>
    let s := s.spoilLoad ld
    if ld.powerUp ∨ ld.wake then { s with store := { s.store with bootDue := true, wakeDue := ld.wake } } else s

/-- Claims of hard blocks whose binding registers warm reset clears are gone (R77, R542). -/
def claimKept (c : Claim) : Bool :=
  match c.who with
  | .playerFeed _ => false
  | .playerFabric _ => false
  | .oasis _ => false
  | .actionWord => false
  | .queuePort _ => false
  | .queueDrain _ => false
  | _ => true

/-- An entry into Rest or Dormant abandoned: Active again, nothing bridged (R500). -/
def State.abandonEntry (s : State) : State :=
  match s.pwr.st with
  | .entering _ =>
    let s := { s with pwr := { s.pwr with st := .active } }
    (s.driftUnrest.setFlds PWR_STATUS [(PWR_STATUS_STATE, 0), (PWR_STATUS_ABANDONED, 1)]).raiseReg 0x0109 0 1 PWR_STATUS
  | _ => s

/-- What warm reset and PERST# do to the executors and the units of the base die beside their registers. The trigger matrix forgets its lines,
so a line that is high at the first edge after counts as asserted there, for a snapshot too (DESIGN CHOICE, log entry 129). -/
def State.warmUnits (s : State) : State :=
  let s := s.ply.keys.foldl (fun s p => s.plyReset p) s
  let s := s.sched.execs.keys.foldl (fun s k => s.execLost k) s
  let s := (List.range 24).foldl (fun s e => s.engReset e) s
  let s := s.loadReset
  let s := [0, 1, 2].foldl (fun s c => s.coreReset c) s.endUnlock
  let s := s.ctl.keys.foldl (fun s p => s.setCtl p { s.ctlAt p with acts := {} }) s
  { s with cap := {}, cores := {}, ply := {}, pwr := { s.pwr with inReset := [], heldRegs := s.pwr.heldRegs.filter (fun h => !s.pwr.inReset.contains h.dom) },
           oas := { s.oas with conf := {} },
           fab := { s.fab with claims := s.fab.claims.filter claimKept } }

/-- Warm reset (R492, R542): units, registers, then what follows each: rings held, the supervisors restarting, new firmware running (R477), the
drift resumed, and a reconciliation needed (R434, R517). -/
def State.warmReset (s : State) : State :=
  let s := s.abandonEntry
  let old := (List.range 256).map (fun r => s.ringState r)
  let s := (s.warmUnits.thmReset false).mapRegs warmValue
  let s := { s with jr := { s.jr with departing := none, departDue := s.pins.eject } }
  let s := (List.range 256).foldl (fun s r => s.ringAfterReset r (old[r]?.getD 0)) s
  let s := s.showTags
  let s := s.sched.held.keys.foldl (fun s l => s.setSgl l (s.sglHeld l)) s
  let s := s.setFlds SUP_STATUS [(SUP_STATUS_SVA, svResetting), (SUP_STATUS_SVB, svResetting)]
  let s := s.setFld QIF_STATUS QIF_STATUS_STATE 1
  let s := { s with sup := { s.sup with noLead := false } }
  s.firmwareRuns.showRec.driftResume.needRecon

/-- A write of RST.CTL (R492, R509). -/
def State.rstCtlWrite (s : State) (data : Data) : State :=
  if RST_CTL_WARM.on data then s.warmReset.setFld RST_CAUSE RST_CAUSE_WARM 1 else s

/-- WARM_RESET (R492). -/
def execWarmReset (data : Data) (s : State) : Host.Outcome State Fault Refusal := done (s.regWrite RST_CTL data (fun s => s.rstCtlWrite data))

/-- The MSI-X structures as the reset of the function leaves them (PRESUMED, from the PCI Express specification). -/
def State.functionReset (s : State) : State := { s with host := { s.host with msix := {}, pba := {} } }

/-- FUNCTION_LEVEL_RESET (R388). -/
def execFunctionLevelReset (s : State) : Host.Outcome State Fault Refusal :=
  if s.hostReaches ∧ s.pwr.st ≠ .rest ∧ s.pwr.st ≠ .dormant then done (s.functionReset.warmReset.setFld RST_CAUSE RST_CAUSE_FLR 1) else done s

/-- The watchdogs of cores that do not stand halted frozen, or running again (R519, R532). -/
def State.freezeDogs (s : State) (on : Bool) : State :=
  [0, 1, 2].foldl (fun s c => if s.coreHalted c then s else s.setFld (SUP_WDOG c) SUP_WDOG_FROZEN (bit01 on)) s

/-- An emulated sleep goes on over a reset: EMULATED shows it and the watchdogs stay frozen (DESIGN CHOICE, log entry 130). -/
def State.stillEmulated (s : State) : State :=
  if s.pwr.emulated then (s.setFld DBG_ATTACH DBG_ATTACH_EMULATED 1).freezeDogs true else s

/-- PERST (R410, R492): held transfers are lost and the link is down until it has trained again. In Dormant, where the rails are off, PERST#
low resets the link alone, and its release is a wake source (R502); in Rest, and where a sleep is emulated, the reset acts and the sleep goes
on (log entry 130). -/
def execPerst (s : State) : Host.Outcome State Fault Refusal :=
  let s := { s with pins := { s.pins with perst := true }, host := { s.host with linkUp := false, held := [] } }
  if !s.pwr.powered ∨ (s.pwr.st = .dormant ∧ !s.pwr.emulated) then done s.functionReset
  else done ((s.functionReset.warmReset.setFld RST_CAUSE RST_CAUSE_PERST 1).stillEmulated)

end Sys2Proof.Machine
end

