-- ==== Sys2Proof/Machine/Work.lean ====
section
/-!
DEFINITION. Work items of the scheduler, the DMA engines, the task ports and the capture controller, and the scheduler's own registers
(chapters 15 and 16).
-/
namespace Sys2Proof.Machine

/-! ### NOP and CANCEL (R402, R407) -/

/-- NOP (R402). -/
def execNop (s : State) : Host.Outcome State Fault Refusal :=
  match s.curOp keyScheduler opNop with
  | some _ => done (s.finishSt keyScheduler stSuccess)
  | none => done s

/-- Whether an item has a ring and a WSN. -/
def Item.isAt (it : Item) (r w : Nat) : Bool := it.ring == r && it.wsn == w

/-- An item without a tag marked cancelled where it waits: it completes so in its turn. -/
def markCancelled (r w : Nat) (l : List Item) : List Item :=
  l.map (fun it => if it.isAt r w then { it with settled := some { status := stCancelled } } else it)

/-- An item with a tag that no executor performs: it is taken out of where it waits and completes as cancelled. -/
def State.dropTagged (s : State) (r w : Nat) : Option State :=
  let sc := s.sched
  let out := fun (l : List Item) => l.filter (fun it => !it.isAt r w)
  match sc.ready.find? (·.isAt r w) with
  | some it => some ({ s with sched := { sc with ready := out sc.ready } }.toReorder it { status := stCancelled })
  | none =>
    match (List.range 8).findSome? (fun l => (s.sglHeld l).find? (·.isAt r w)) with
    | some it => some ((s.setSgl it.sglList (out (s.sglHeld it.sglList))).toReorder it { status := stCancelled })
    | none =>
      match sc.execs.cells.findSome? (fun c => (c.2.queue.find? (·.isAt r w)).map (fun it => (c.1, it))) with
      | some (k, it) =>
        let e := s.exec? k
        some ((s.setExec k { e with queue := out e.queue }).toReorder it { status := stCancelled })
      | none =>
        match (List.range 16).findSome? (fun k => ((s.slotKey k).waiting.find? (·.isAt r w)).map (fun it => (k, it))) with
        | some (k, it) =>
          let v := s.slotKey k
          if v.waiting.head? = some it then none
          else some ((s.setSlotKey k { v with waiting := out v.waiting }).toReorder it { status := stCancelled })
        | none => none

/-- The executor that performs an item. -/
def State.performerOf (s : State) (r w : Nat) : Option (Nat × Running) :=
  s.sched.execs.cells.findSome? (fun c => match c.2.cur with
    | some x => if x.item.isAt r w then some (c.1, x) else none
    | none => none)

/-- What a CANCEL does to an item that is being performed (R407). -/
def State.cancelRunning (s : State) (k : Nat) (c : Running) : State :=
  if c.result.isSome then s
  else if c.item.opc = opPlay then (if (s.player (k - 16)).cur.isSome then s.plyCancel (k - 16) else s.finishSt k stCancelled)
  else if c.item.opc = opEngineRun then s.engAbort (k - 65)
  else s.setCur k (some { c with cancel := true })

/-- The CANCEL being performed given its result: DETAIL is the status of the target's own completion, COUNT its WSN (R407). -/
def State.endCancel (s : State) (st detail w : Nat) : State := s.finish keyScheduler { status := st, detail := detail, count := w }

/-- CANCEL (R407). For a target that is being performed it waits for that target's end. Where there is nothing to cancel the target has no
completion to name, and DETAIL is a free value. -/
def execCancel (s : State) : Host.Outcome State Fault Refusal :=
  match s.curOp keyScheduler opCancel with
  | none => done s
  | some c =>
    let r := c.item.num 16 2
    let w := c.item.num 24 8
    let q := s.ring r
    if 2 ≤ c.step then done (s.endCancel stSuccess (c.step - 2) w)
    else if c.item.isAt r w then done (s.endCancel stSuccess stSuccess w)
    else match s.finishedOf r w with
      | some f => done (s.endCancel stSuccess f.res.status w)
      | none =>
        if c.step = 1 then done s
        else if !q.order.any (fun x => x.1 == w) then
          done ((s.spend 1).endCancel stNothingToCancel (Config.freeValue 16 s.freeCtr).toNat w)
        else match s.performerOf r w with
          | some (k, x) =>
            if opcodeCritical x.item.opc then done ((s.spend 1).endCancel stNotCancellable (Config.freeValue 16 s.freeCtr).toNat w)
            else
              let s := s.setCur keyScheduler (some { c with step := 1 })
              done (s.cancelRunning k x)
          | none =>
            match s.dropTagged r w with
            | some s => done (s.endCancel stSuccess stCancelled w)
            | none =>
              let s := s.setRing r { q with queue := markCancelled r w q.queue, spilled := markCancelled r w q.spilled }
              let s := { s with sched := { s.sched with c0 := markCancelled r w s.sched.c0 } }
              let k := (List.range 16).filter (fun k => (s.slotKey k).waiting.any (·.isAt r w))
              let s := k.foldl (fun s k => s.setSlotKey k { s.slotKey k with waiting := markCancelled r w (s.slotKey k).waiting }) s
              done (s.endCancel stSuccess stCancelled w)

/-! ### DMA (R403, R407) -/

/-- Bytes of a space read by a DMA engine. -/
def State.dmaRead (s : State) (e space a n : Nat) : State × Nat × List Byte :=
  match space with
  | 0 => if s.mayIssue then (s, stSuccess, s.hostBytes a n) else (s, stHostError, [])
  | 1 => let r := s.dramAcc (1 + e) a (.read n); (r.1, if r.2.1 = memWait then memWait else busStatus r.2.1, r.2.2)
  | _ =>
    if 2 ^ 31 ≤ a then (s, stBusError 4, [])
    else let r := s.oasAcc (a / 2 ^ 24) (1 + e) (a % 2 ^ 24) (.read n); (r.1, if r.2.1 = memWait then memWait else busStatus r.2.1, r.2.2)

/-- Bytes of a space written by a DMA engine. -/
def State.dmaWrite (s : State) (e space a : Nat) (bytes : List Byte) : State × Nat :=
  match space with
  | 0 => if s.mayIssue then (s.hostWrite a bytes, stSuccess) else (s, stHostError)
  | 1 => let r := s.dramAcc (1 + e) a (.write bytes); (r.1, if r.2.1 = memWait then memWait else busStatus r.2.1)
  | _ =>
    if 2 ^ 31 ≤ a then (s, stBusError 4)
    else let r := s.oasAcc (a / 2 ^ 24) (1 + e) (a % 2 ^ 24) (.write bytes); (r.1, if r.2.1 = memWait then memWait else busStatus r.2.1)

/-- A copy carried on from byte `o`, by the lines of the destination, to its end, a bad status, `upTo` bytes or a host access at
`hostFail`. The bytes copied and the status; `memWait` when memory makes it wait. -/
def State.dmaCopy (e sp dp src dst len upTo : Nat) (hostFail : Option Nat) : (fuel : Nat) → Nat → State → State × Nat × Nat
  | 0, o, s => (s, o, stSuccess)
  | k + 1, o, s =>
    if len ≤ o then (s, o, stSuccess)
    else if upTo ≤ o then (s, o, stCancelled)
    else
      let n := min (64 - (dst + o) % 64) (len - o)
      if (sp = 0 ∨ dp = 0) ∧ hostFail.any (fun h => decide (h < o + n)) then (s, o, stHostError)
      else
        let r := s.dmaRead e sp (src + o) n
        if r.2.1 ≠ stSuccess then (r.1, o, r.2.1)
        else
          let t := r.1.dmaWrite e dp (dst + o) r.2.2
          if t.2 ≠ stSuccess then (t.1, o, t.2) else State.dmaCopy e sp dp src dst len upTo hostFail k (o + n) t.1

/-- DMA (R403, R407): the whole copy. `hostFail` is the byte at which an access of host memory fails, if one does. While the link is down
reads of the host are held (R410). A cancelled copy stops at a line boundary; at which is free. -/
def execDma (e : DmaNo) (hostFail : Option Nat) (s : State) : Host.Outcome State Fault Refusal :=
  match s.curOp (keyDma e) opDma with
  | none => done s
  | some c =>
    let it := c.item
    let sp := it.num 36 1 % 4
    let dp := it.num 36 1 / 4 % 4
    let len := it.num 32 4
    if sp = 0 ∧ !s.host.linkUp then done s
    else
      let upTo := if c.cancel then min len (c.step + (64 - (it.num 24 8 + c.step) % 64) + 64 * Config.freeBelow (len / 64 + 1) s.freeCtr) else len
      let s := if c.cancel then s.spend 1 else s
      let r := State.dmaCopy e sp dp (it.num 16 8) (it.num 24 8) len upTo hostFail (len / 64 + 2) c.step s
      if r.2.2 = memWait then done (r.1.setCur (keyDma e) (some { c with step := r.2.1 }))
      else done (r.1.finish (keyDma e) { status := r.2.2, count := r.2.1 })

/-! ### Task ports (R65, R417) -/

/-- ERG_SWITCH (R65): the request falls at the fourth edge. One that meets a reserved erg without a tag needs authentication (R67). -/
def execErgSwitch (i : ErgNo) (s : State) : Host.Outcome State Fault Refusal :=
  match s.curOp (keyTask i) opErgSwitch with
  | some c =>
    if c.step = 0 then
      let s := s.setCur (keyTask i) (some { c with step := 1 })
      if s.ergReserved i ∧ !c.item.auth then done (s.finishSt (keyTask i) stAuthRequired)
      else done (s.askSwitch i .dispatch (c.item.num 16 1) 4)
    else done s
  | none => done s

/-- TASK (R417): taken for delivery at the second FCK edge. `step` is twice the FCK count of that edge, plus one once delivered. -/
def execTask (i : ErgNo) (s : State) : Host.Outcome State Fault Refusal :=
  match s.curOp (keyTask i) opTask with
  | some c => if c.step = 0 then done (s.setCur (keyTask i) (some { c with step := 2 * (s.time.fck + 2) })) else done s
  | none => done s

/-- The task an erg's port performs. -/
def State.taskAt (s : State) (i : Nat) : Option Running :=
  match s.cur (keyTask i) with
  | some c => if c.item.opc = opTask ∧ c.phase = .effective ∧ c.result = none then some c else none
  | none => none

def State.taskNo (s : State) (i : Nat) : Nat := s.fld (SCH_TP i) SCH_TP_TASKNO

/-- The words of a task driven on the erg's own well stop at the edge of its delivery (R417). -/
def State.driveTask (s : State) (i : Nat) : State :=
  match s.taskAt i with
  | some c =>
    if c.step = 2 * s.time.fck ∧ c.step ≠ 0 then
      let ch := s.fld (SCH_TP i) SCH_TP_CH
      let put := fun (s : State) (j v : Nat) => s.drive (i % 64) (ch + j) (ergDie i) (ergDie i) (BitVec.ofNat 32 v)
      let s := (List.range 8).foldl (fun s j => put s j (c.item.num (16 + 4 * j) 4)) s
      put s 8 (1 + 65536 * ((s.taskNo i + 1) % 65536))
    else s
  | none => s

/-- A delivery counted, PENDING set and the delivery mirrored to the page (R417, R433 step 2). -/
def State.taskDeliver (s : State) (i : Nat) : State :=
  match s.taskAt i with
  | some c =>
    if c.step = 2 * s.time.fck ∧ c.step ≠ 0 then
      let s := s.setFlds (SCH_TP i) [(SCH_TP_TASKNO, s.taskNo i + 1), (SCH_TP_PENDING, 1)]
      (s.setCur (keyTask i) (some { c with step := c.step + 1 })).journalMark (keyTask i) 65536
    else s
  | none => s

/-- TASK_DELIVERY (R417): at the edge at which FABRIC_CYCLE has driven the words. -/
def execTaskDelivery (i : ErgNo) (s : State) : Host.Outcome State Fault Refusal := done (s.taskDeliver i)

/-- The word on CH + 9 of an erg's port at this edge, taken once (R417). -/
def State.taskTake (s : State) (i : Nat) : State :=
  let w := (s.chanAt (i % 64) (s.fld (SCH_TP i) SCH_TP_CH + 9) (ergDie i) (ergDie i) 0).toNat
  if !natBit w 0 ∨ s.sched.taskReply.get (fun _ => 0) i = s.time.fck + 1 then s
  else
    let s := { s with sched := { s.sched with taskReply := s.sched.taskReply.set (fun _ => 0) i (s.time.fck + 1) } }
    if s.fldOn (SCH_TP i) SCH_TP_PENDING ∧ w / 65536 = s.taskNo i then
      let s := s.setFld (SCH_TP i) SCH_TP_PENDING 0
      match s.taskAt i with
      | some _ => s.finishSt (keyTask i) stSuccess
      | none => s
    else s.satFld (SCH_TP i) SCH_TP_STRAY 1

/-- TASK_DONE_WORD (R417). -/
def execTaskDoneWord (i : ErgNo) (s : State) : Host.Outcome State Fault Refusal := done (s.taskTake i)

/-- The erg of a delivered task reset: the item is interrupted and its port freed (R417, R429). -/
def State.taskErgReset (s : State) (i : Nat) : State :=
  match s.taskAt i with
  | some c =>
    if c.step % 2 = 1 then (s.setFld (SCH_TP i) SCH_TP_PENDING 0).finishSt (keyTask i) stInterrupted else s
  | none => s

/-! ### Capture commands (R169, R403) -/

/-- CAPTURE_CMD (R403). -/
def execCaptureCmd (s : State) : Host.Outcome State Fault Refusal :=
  match s.curOp keyCapture opCaptureCmd with
  | some c => done ((s.queueCmd c.item.unit (c.item.num 16 1)).finishSt keyCapture stSuccess)
  | none => done s

/-! ### Registers (R197, R208, R421, R438, R439) -/

/-- A write of SCH.SGL[l].CFG: TICK holds while EN is 1, with an event when it would change (R197). -/
def State.sglCfgWrite (s : State) (l : Nat) (data : Data) : State :=
  let r := SCH_SGL_CFG l
  let old := s.fld r SCH_SGL_CFG_TICK
  if s.fldOn r SCH_SGL_CFG_EN then
    let s := s.setFld r SCH_SGL_CFG_EN (SCH_SGL_CFG_EN.get data)
    s.raiseIf (decide (SCH_SGL_CFG_TICK.get data ≠ old)) 0x0505 l 0 r
  else s.writeReg r data

/-- SANDGLASS_CFG_WRITE (R197). -/
def execSandglassCfgWrite (l : ListNo) (data : Data) (s : State) : Host.Outcome State Fault Refusal :=
  done (s.regWrite (SCH_SGL_CFG l) data (fun s => s.sglCfgWrite l data))

def State.schRefuse (s : State) (reason : Nat) : State :=
  s.setFlds SCH_STATUS [(SCH_STATUS_REFUSED, 1), (SCH_STATUS_REASON, reason)]

/-- A write of SCH.SPILL or SCH.STORE (R421, R438). -/
def State.schMoveWrite (s : State) (off : Nat) (data : Data) : State :=
  if !s.allRingsOff then s.schRefuse 1
  else if off = SCH_SPILL ∧ SCH_SPILL_BASE.get data % 1024 ≠ 0 then s.schRefuse 2
  else s.writeReg off data

/-- SCH_SPILL_STORE_WRITE (R421). -/
def execSchSpillStoreWrite (reg : SchReg) (data : Data) (s : State) : Host.Outcome State Fault Refusal :=
  match reg with
  | .spill => done (s.regWrite SCH_SPILL data (fun s => s.schMoveWrite SCH_SPILL data))
  | .store => done (s.regWrite SCH_STORE data (fun s => s.schMoveWrite SCH_STORE data))

/-- A write of SCH.TP[i].CH (R439). -/
def State.tpChWrite (s : State) (i : Nat) (data : Data) : State :=
  if s.fldOn (SCH_TP i) SCH_TP_PENDING ∨ 54 < SCH_TP_CH.get data then s.schRefuse 3
  else s.setFld (SCH_TP i) SCH_TP_CH (SCH_TP_CH.get data)

/-- TP_CH_WRITE (R439). -/
def execTpChWrite (i : ErgNo) (data : Data) (s : State) : Host.Outcome State Fault Refusal :=
  done (s.regWrite (SCH_TP i) data (fun s => s.tpChWrite i data))

end Sys2Proof.Machine
end

