-- ==== Sys2Proof/Machine/DomReset.lean ====
section
/-!
DEFINITION. Domain resets (R493 to R495) and the takeover (R515 to R517).
-/
namespace Sys2Proof.Machine

/-! ### Supervisors -/

/-- No supervisor remains (R517). -/
def State.noLeader (s : State) : State :=
  ({ s with sup := { s.sup with noLead := true } }.faultPin).raiseReg 0x0006 0 0 SUP_STATUS

/-- The first queued need begun, when no recovery is in progress (R514). -/
def State.nextNeed (s : State) : State :=
  match s.sup.kind, s.sup.queue with
  | 0, n :: rest => { s with sup := { s.sup with queue := rest } }.recBegin n.1 n.2
  | _, _ => s

/-- Supervisor `new` leads, and the former leader is in reset (R515). -/
def State.lead (s : State) (old new : Nat) : State :=
  let s := { s with sup := { s.sup with leader := new } }
  let s := s.setFlds SUP_STATUS [(SUP_STATUS_LEADER, new), (SUP_STATUS_TAKEOVERS, s.fld SUP_STATUS SUP_STATUS_TAKEOVERS + 1)]
  ((s.setSv old svResetting).setSv new svLeading).raiseReg 0x0001 new 0 SUP_RECOVERY

/-- A reconciliation needed, unless one is in progress and begins again. -/
def State.reconAgain (s : State) : State := if s.sup.kind = 1 then s else s.needRecon

/-- The follower takes over (R515): it leads, the former leader's domain is reset, the drift resumes at its checkpoint (R321), the recorded
recovery goes on, or the first need begins, and a reconciliation follows (R434). Without a follower none remains (R517). -/
def State.takeover (s : State) : State :=
  let old := s.leaderNo
  let s := (s.coreReset old).execLost keySupervisor
  if s.sv (1 - old) == svFollowing then (s.lead old (1 - old)).nextNeed.driftResume.reconAgain
  else (s.setSv old svFailed).noLeader

/-- A supervisor's domain reset (R495, R515, R516). -/
def State.svReset (s : State) (c : Nat) : State :=
  if s.leaderNo = c then s.takeover else (s.coreReset c).setSv c svResetting

/-- Whether the other supervisor is in reset or failed. -/
def State.svAlone (s : State) (c : Nat) : Bool := let x := s.sv (1 - c); x == svResetting || x == svFailed || x == svOff

/-! ### What a domain's reset does as it is asserted and as it ends (R494) -/

/-- Rings that accept or complete are HELD until they are reconciled (R434 step 1). -/
def State.holdRings (s : State) : State :=
  let s := (s.ringsWhere (fun x => x == ringRun || x == ringStopping)).foldl (fun s r => s.setRingState r ringHeld) s
  if s.qif = 3 ∨ s.qif = 4 then s else s.setFld QIF_STATUS QIF_STATUS_STATE 1

/-- The base die: the scheduler, DMA engines, players, capture, measurement engines and the configuration engine. -/
def State.baseReset (s : State) : State :=
  let s := s.ply.keys.foldl (fun s p => s.plyReset p) s
  let s := (s.sched.execs.keys.filter (fun k => decide (k < keySecurity) || k == keyScheduler)).foldl (fun s k => s.execLost k) s
  let s := (List.range 24).foldl (fun s e => s.engReset e) s
  let s := s.cap.qs.keys.foldl (fun s q => s.queueReset q) s
  let s := { s with cap := { s.cap with seq := {} } }
  s.loadReset.driftResume

/-- A configuration die: a load that has written planes of its layer fails. -/
def State.cfgDieAssert (s : State) (layer : Nat) : State :=
  match s.store.load with
  | some ld => if !ld.activating ∧ ld.planes.any (fun p => p / 512 == layer) then s.dieResetLoad ld else s
  | none => s

/-- A task delivered to an erg before its executor was reset, and interrupted by the erg's own reset since (R429). -/
def State.lostTask (s : State) (i : Nat) : State :=
  { s with sched := { s.sched with
      lost := s.sched.lost.map (fun (x : Nat × Running) => if x.1 = keyTask i ∧ x.2.step % 2 = 1 ∧ x.2.result.isNone then
        (x.1, { x.2 with result := some { status := stInterrupted } }) else x) } }

/-- An erg's reset as its domain's, with its task interrupted (R68, R429). -/
def State.ergDomReset (s : State) (i : Nat) : State := ((s.ergReset i).taskErgReset i).lostTask i

/-- A controller's reset: its queue stays, its counters and throttles and what its logic holds are cleared (R296). -/
def State.ctlDomReset (s : State) (p : Nat) : State :=
  let c := s.ctlAt p
  let s := s.setCtl p { c with resetFrom := s.ctlState p, acts := {}, throttled := [], retrain := [], fails := {}, refDue := [], openRow := {}, cache := {} }
  let s := ((s.clearCounts p).setReg (DRMC_CNT_RD p) 0).setReg (DRMC_CNT_WR p) 0
  s.setFlds (DRMC_STATUS p) [(DRMC_STATUS_STATE, ctlResetting), (DRMC_STATUS_RETRAINING, 0)]

/-- What a domain's reset does when it is asserted. -/
def State.domAssert (s : State) (d : Nat) : State :=
  let x := d % 256
  let s := match d / 256 with
    | 0 => if x = 0 then s.baseReset
      else if x = 2 ∨ x = 5 then s.cfgDieAssert (x / 5)
      else if x = 3 ∨ x = 6 then (List.range 64).foldl (fun s k => s.ergDomReset (64 * (x / 6) + k)) s
      else s
    | 2 => s.ctlDomReset x
    | 3 => s.ergDomReset x
    | 4 => s.queueReset x
    | 5 => s.quadReset x
    | 6 => s.svReset x
    | 7 => (s.engReset x).execLost (keyEngine x)
    | _ => s
  s.setPwr { s.pwr with inReset := sortOn id (d :: s.pwr.inReset.filter (· != d)) }

/-- An engine's item run again from its start (R244), once CTL.EN, which the reset has cleared (R247), is 1 again (DEDUCED, log entry 90). -/
def State.engAgain (s : State) (e : Nat) : State :=
  let k := keyEngine e
  match s.sched.lost.find? (fun x => x.1 == k) with
  | some (_, c) =>
    let s := { s with sched := { s.sched with lost := s.sched.lost.filter (fun x => x.1 != k) } }
    match c.result with
    | some _ => s.setCur k (some c)
    | none => s.setCur k (some { item := { c.item with resumed := true }, phase := .effective })
  | none => s

/-- What follows when it ends (R493). -/
def State.domReturn (s : State) (d : Nat) : State :=
  let x := d % 256
  let s := s.setPwr { s.pwr with inReset := s.pwr.inReset.filter (· != d) }
  let s := match d / 256 with
    | 0 => if x = 0 then s.holdRings.needRecon
      else if x = 1 ∨ x = 4 then (State.layerGroups (x / 4)).foldl (fun s i => s.oasHeldGo i) s
      else s
    | 2 =>
      let nxt := if (s.ctlAt x).resetFrom = ctlReady then ctlReady else ctlTraining
      (s.setCtl x { s.ctlAt x with resetFrom := 0 }).setFld (DRMC_STATUS x) DRMC_STATUS_STATE nxt
    | 5 => s.quadRestart x
    | 7 => s.engAgain x
    | _ => s
  (s.domWoken d none).raiseReg 0x010C d 0 RST_STATUS

/-! ### The commands -/

/-- The REASON that refuses a domain reset, if one does (R495). -/
def State.domResetRefusal (s : State) (d : Nat) : Option Nat :=
  if !domKnown d then some 1
  else if s.pwr.inReset.contains d then some 3
  else if (s.dom d).st = domDown ∨ (d / 256 = 2 ∧ s.ctlState (d % 256) = ctlSelfRefresh) then some 4
  else if d / 256 = 6 ∧ s.svAlone (d % 256) then some 2
  else none

/-- A domain reset asked for: refused, or asserted; that of a controller which is OFF completes at once (R296). -/
def State.domResetAsk (s : State) (d : Nat) : State :=
  match s.domResetRefusal d with
  | some r => (s.setFlds RST_STATUS [(RST_STATUS_REFUSED, 1), (RST_STATUS_REASON, r)]).raiseReg 0x010B d 0 RST_STATUS
  | none =>
    if d / 256 = 2 ∧ s.ctlState (d % 256) = ctlOff then s.raiseReg 0x010C d 0 RST_STATUS
    else (s.domAssert d).setFld RST_STATUS RST_STATUS_BUSY 1

/-- A write of RST.DOM (R509). -/
def State.rstDomWrite (s : State) (data : Data) : State :=
  let s := s.setFld RST_DOM RST_DOM_DOMAIN (RST_DOM_DOMAIN.get data)
  if RST_DOM_GO.on data then s.domResetAsk (RST_DOM_DOMAIN.get data) else s

/-- The end of a domain reset: STATUS.BUSY falls when none is asserted any more. -/
def State.domResetEnd (s : State) (d : Nat) : State :=
  if s.pwr.inReset.contains d then
    let last := (s.pwr.inReset.filter (· != d)).isEmpty
    (if last then s.setFld RST_STATUS RST_STATUS_BUSY 0 else s).domReturn d
  else s

end Sys2Proof.Machine
end

