-- ==== Sys2Proof/Machine/Recon.lean ====
section
/-!
DEFINITION. Reconciliation (R434 to R437): what is settled after a reset with the scheduler store kept, and what is rebuilt from host memory
after power loss, on a wake from Dormant or on a replacement module.
-/
namespace Sys2Proof.Machine

/-! ### After a reset that keeps the scheduler store (R429, third column) -/

/-- The unconfirmed completions of a ring written again, identical (R434 step 3). -/
def State.rewriteCompletions (s : State) (r : Nat) : State :=
  let q := s.ring r
  let blockDone := s.hostNum (s.cbAddr r + 72) 8
  let first := q.cqCount - q.confirming.length
  let size := 2 ^ q.cqLog2
  let s := s.cbWrite r 64 q.accept
  let s := (List.range q.confirming.length).foldl (fun s k =>
    match (q.confirming[k]?).bind s.reorderAt with
    | some f =>
      if blockDone ≤ f.item.wsn then s.hostWrite (q.cqBase + 32 * ((first + k) % size)) (completionBytes f (phaseBit (first + k) size)) else s
    | none => s) s
  (s.cbWrite r 80 q.cqCount).cbWrite r 72 q.done

/-- The journal entry kept for an item by its executor, when it is that item's. -/
def State.entryOf (s : State) (k : Nat) (it : Item) : Option JEntry :=
  match journalEntry k with
  | none => none
  | some e =>
    let j := s.jentry e
    if j.state ≠ 0 ∧ j.wsn = it.wsn ∧ j.ring = it.ring then some j else none

/-- The result that a finished entry records (R432). -/
def recorded (j : JEntry) : Result :=
  let b := j.body.toNat
  { status := natBits b 0 16, detail := natBits b 32 32, count := natBits b 64 64 }

/-- The result of an item whose executor is not enabled when it would be performed again (R407, R436). -/
def unitOffResult (it : Item) (j : Option JEntry) : Result :=
  if it.opc = opPlay then
    let b := (j.map (·.body.toNat)).getD 0
    { status := stUnitOff, detail := min (entryCut b) 0x3FFFFF * 1024, count := entrySent b }
  else { status := stUnitOff }

/-- An item that its executor was performing at the reset: settled by its entry, performed again, or resumed (R429). -/
def State.settleLost (s : State) (k : Nat) (c : Running) : State :=
  let it := c.item
  let again : Running := { item := { it with resumed := true }, phase := if c.phase = .reading then .reading else .effective, cancel := c.cancel }
  let j := s.entryOf k it
  let body := (j.map (·.body.toNat)).getD 0
  match c.result with
  | some _ => s.setCur k (some c)
  | none =>
    if (j.map (·.state)) = some 2 then s.setCur k (some { c with result := j.map recorded })
    else if !s.execEnabled k then s.setCur k (some { c with result := some (unitOffResult it j) })
    else if it.opc = opErgSwitch ∧ natBit body 8 then s.setCur k (some { c with result := some { status := stSuccess } })
    else if it.opc = opTask ∧ natBit body 16 then s.setCur k (some { c with step := 1, phase := .effective })
    else if opcodeCritical it.opc then s.setCur k (some { again with step := natBits body 0 32 })
    else s.setCur k (some again)

/-- Every such item settled. -/
def State.settleAll (s : State) : State :=
  let l := s.sched.lost
  let s := { s with sched := { s.sched with lost := [] } }
  l.foldl (fun s x => s.settleLost x.1 x.2) s

/-! ### Without the scheduler store (R429, fourth column; R435 to R437) -/

/-- Completions already present adopted (R435): CQ_COUNT and DONE, or none where an entry does not follow. -/
def State.adopt (s : State) (r : Nat) : (fuel : Nat) → (n done : Nat) → Option (Nat × Nat)
  | 0, n, done => some (n, done)
  | k + 1, n, done =>
    let q := s.ring r
    let size := 2 ^ q.cqLog2
    let a := q.cqBase + 32 * (n % size)
    if s.hostNum (a + 11) 1 % 2 ≠ phaseBit n size then some (n, done)
    else if s.hostNum a 8 ≠ done then none
    else State.adopt s r k (n + 1) (done + (if natBit (descNum (s.entryAt r done) 1 1) 7 then 2 else 1))

/-- The items of a ring from DONE to ACCEPT − 1, read again from its submission ring (R434 step 4). -/
def State.readItems (s : State) (r accept : Nat) : (fuel : Nat) → (w : Nat) → List Item
  | 0, _ => []
  | k + 1, w =>
    if accept ≤ w then []
    else
      let d := s.entryAt r w
      let auth := natBit (descNum d 1 1) 7
      let it : Item := { ring := r, wsn := w, desc := d, ext := if auth then some (s.entryAt r (w + 1)) else none }
      it :: State.readItems s r accept k (w + it.entries)

/-- What a play item that had started completes with (R204). -/
def playInterrupted (j : JEntry) : Result :=
  let b := j.body.toNat
  let unsure := entryLimit b - entrySent b - entryCut b
  { status := stInterrupted, detail := min (entryCut b) 0x3FFFFF * 1024 + min unsure 1023, count := entrySent b }

/-- Whether an item that had not started has lost its data (R429): what lay in the fabric, in engines or in oases, and in DRAM unless it was
kept. -/
def dataLost (it : Item) (dramKept : Bool) : Bool :=
  if it.opc = opDma then
    let space := it.num 36 1 % 4
    (space == 1 && !dramKept) || space == 2
  else [opEngineLoad, opEngineRun, opReadback, opCaptureCmd, opPlay, opErgSwitch, opTask].contains it.opc

/-- What settles an item without its being performed, if anything does. -/
def State.coldResult (s : State) (it : Item) (j : Option JEntry) (kept : Bool) : Option Result :=
  match j with
  | some j =>
    if j.state = 2 then some (recorded j)
    else
      let b := j.body.toNat
      if it.opc = opPlay then some (playInterrupted j)
      else if it.opc = opErgSwitch then some { status := if natBit b 8 then stSuccess else stInterrupted }
      else if it.opc = opTask then some { status := if natBit b 16 then stInterrupted else stMemoryLost }
      else if it.opc = opDriftStart then (if kept then none else some (s.driftResult stMemoryLost))
      else some { status := stInterrupted }
  | none => if (s.descFault it).isNone && dataLost it kept then some { status := stMemoryLost } else none

/-- An item as reconciliation places it: settled, or to be performed with RESUMED (R405, R429). -/
def State.coldItem (s : State) (it : Item) (j : Option JEntry) (kept handed : Bool) : Item :=
  let it := { it with handed := handed }
  match s.coldResult it j kept with
  | some r =>
    let b := (j.map (·.body.toNat)).getD 0
    let fin := (j.map (·.state)) = some 2
    { it with settled := some r, late := fin && natBit b 129, resumed := fin && natBit b 130 }
  | none => { it with resumed := true }

/-- The entry that the journal keeps for an item, whichever executor wrote it. -/
def State.entryFor (s : State) (it : Item) : Option JEntry :=
  ((List.range 181).map (fun e => s.jentry (e + 1))).find? (fun j => j.state != 0 && j.wsn == it.wsn && j.ring == it.ring)

/-- An item of a rebuilt ring placed as acceptance places it, with its flow sequence. -/
def State.placeCold (s : State) (it : Item) : State :=
  let fl := s.flowAt it.flow
  let it := if it.hasFlow then { it with flowSeq := fl.next } else it
  let s := if it.hasFlow then s.setFlow it.flow { fl with next := (fl.next + 1) % 2 ^ 32 } else s
  s.placeItem it

/-- A ring rebuilt from its control block: its words adopted, or those retained; its items settled or placed. -/
def State.rebuildRing (s : State) (r : Nat) (pageOk handed kept : Bool) : State :=
  let old := s.ring r
  let s := s.setRing r { recTail := old.recTail, recHead := old.recHead }
  let s := s.cbCache r
  let f := s.cbFault r
  if f ≠ 0 then s.ringToError r f
  else
    let q := s.ring r
    let ret := if s.jr.valid ∧ !old.adopted ∧ s.jr.rings.keys.contains r then some (s.jr.rings.get (fun _ => {}) r) else none
    let words := match ret with
      | some w => some (w.cqCount, w.done, w.accept, w.lastTail)
      | none => (s.adopt r (2 ^ q.cqLog2) q.cqCount q.done).map (fun (p : Nat × Nat) => (p.1, p.2, q.accept, q.accept))
    match words with
    | none => s.ringToError r 4
    | some (n, dn, acc, tail) =>
      if dn < acc ∧ !pageOk then s.ringToError r 4
      else
        let q := { q with cqCount := n, done := dn, accept := acc, lastTail := tail, confirmed := dn, unBase := n }
        let s := s.setRing r q
        let s := match ret with
          | some _ => s.cbWrite r 64 acc
          | none => s
        let s := (s.cbWrite r 80 n).cbWrite r 72 dn
        let items : List Item := s.readItems r acc (acc - dn) dn
        let s := s.setRing r { s.ring r with order := items.map (fun it => (it.wsn, it.entries)), unconsumed := items.map (·.wsn) }
        let s := s.setFld (QIF_RING_STATUS r) QIF_RING_STATUS_INFLIGHT items.length
        items.foldl (fun s it => s.placeCold (s.coldItem it (s.entryFor it) kept handed)) s

/-! ### The whole (R434) -/

/-- Whether a ring's words and items stand in the store. Those of a ring checked with ACCEPT 0 since the store was lost do too. -/
def State.ringKept (s : State) (r : Nat) : Bool := s.jr.valid && !s.sched.storeLost && (s.ring r).sqLog2 != 0 && !(s.ring r).adopted

/-- Whether DRAM contents were kept: no controller has lost them since the items were accepted. -/
def State.dramKept (s : State) : Bool := s.jr.valid && (List.range 32).any (fun p => s.fldOn (DRMC_STATUS p) DRMC_STATUS_KEPT)

/-- The entries of the page taken over where no retained journal is valid (R434 step 2). -/
def State.takePage (s : State) (pageOk : Bool) : State :=
  if s.jr.valid ∨ !pageOk then s
  else
    { s with jr := { s.jr with
        valid := true, rings := {},
        entries := (List.range 181).foldl (fun m k => m.set (fun _ => {}) (k + 1) (s.pageEntry (k + 1))) ({} : SMap JEntry) } }

/-- One ring that is HELD reconciled. -/
def State.reconRing (s : State) (r : Nat) (bad pageOk handed kept : Bool) : State :=
  if bad then s.ringToError r 4
  else if s.ringKept r then s.rewriteCompletions r
  else s.rebuildRing r pageOk handed kept

/-- A reconciled ring enters RUN, or goes on stopping (R434 step 6). -/
def State.ringResume (s : State) (r : Nat) : State :=
  if s.ringState r ≠ ringHeld then s
  else
    let s := (s.cbWrite r 88 s.serialLo).retainRing r
    if s.fldOn (QIF_RING_CB r) QIF_RING_CB_EN then s.setRingState r ringRun
    else (s.setRingState r ringStopping).stopIfDone r

/-- Steps 1 to 6 for every ring that is HELD. `pageOk` says that the page was read and is usable. -/
def State.reconcile (s : State) (pageRead : Bool) (bad : List Nat) : State :=
  let s := s.holdRings
  let held := s.ringsWhere (fun x => x == ringHeld)
  let retained := s.jr.valid
  let pageOk := retained || (pageRead && !s.pageBad)
  let handed := !retained && s.pageMagic == journalMagic && s.pageOwner != s.serialLo
  let kept := s.dramKept
  let s := s.takePage pageOk
  let s := held.foldl (fun s r => s.reconRing r (bad.contains r) pageOk handed kept) s
  let s : State := s.settleAll
  let s : State := { s with sched := { s.sched with storeLost := false } }
  let s := if pageOk then s.pageHeader else s
  let s := (List.range 181).foldl (fun s e => s.freeStale (e + 1)) s
  let s : State := held.foldl (fun s r => s.ringResume r) s
  let s : State := s.setFlds SCH_RECON [(SCH_RECON_GEN, s.fld SCH_RECON SCH_RECON_GEN + 1), (SCH_RECON_STEP, 0), (SCH_RECON_HANDED, bit01 handed),
    (SCH_RECON_RETAINED, bit01 retained)]
  let s := if s.qif = 1 then s.setFld QIF_STATUS QIF_STATUS_STATE 2 else s
  let s := held.foldl (fun s r => if s.ringState r = ringRun then s.actRecorded r else s) s
  s.sched.execs.keys.foldl (fun s k => s.takeNext k) s

end Sys2Proof.Machine
end

