-- ==== Sys2Proof/Machine/Recover.lean ====
section
/-!
DEFINITION. The recoveries performed (R513, R514), heartbeats, takeover and watchdogs (R510 to R519), and domain resets as commands.
-/
namespace Sys2Proof.Machine

/-! ### Recoveries -/

/-- A recovery other than a reconciliation performed (R513). -/
def State.recPerform (s : State) (kind : Nat) (target : BitVec 64) : State :=
  let t := target.toNat
  match kind with
  | 2 => (s.recStep 7).laneFails (natBits t 0 14) (natBits t 16 8)
  | 3 => (s.recStep 2).oasMove (natBits t 9 7) (8 * natBits t 24 18 + natBits t 6 3)
  | 4 => (s.recStep 2).dramMove (natBits t 0 5) (natBits t 34 30)
  | 5 =>
    let d := natBits t 0 11
    if !domKnown d ∨ s.pwr.inReset.contains d ∨ (s.dom d).st = domDown then s else ((s.recStep 3).domAssert d).domReturn d
  | 6 => (s.recStep 2).driftResume
  | _ => s

/-- Recoveries run one after another while a supervisor leads (R514); a reconciliation waits for its own command. -/
def State.recLoop : (fuel : Nat) → State → State
  | 0, s => s
  | n + 1, s =>
    if s.sup.kind = 0 ∨ s.sup.kind = 1 ∨ !s.leads then s
    else State.recLoop n (s.recPerform s.sup.kind s.sup.target).recEnd

/-- A departure owed begins once a supervisor leads (R412, R556). -/
def State.departOwed (s : State) : State := if s.jr.departDue ∧ s.leads ∧ s.qif ≠ 3 ∧ s.qif ≠ 4 then s.depart else s

def State.recRun (s : State) : State := (State.recLoop 16 s).departOwed

/-- RECOVERY_NEED (R514). -/
def execRecoveryNeed (kind : BitVec 8) (target : Data) (s : State) : Host.Outcome State Fault Refusal :=
  let k := kind.toNat
  if k = 0 ∨ 6 < k then done s
  else if k = 1 then done s.needRecon
  else done (s.needRecovery k target).recRun

/-- RECONCILIATION (R434): performed by the leading supervisor while the link is up. With a departure owed, that comes first (R412). -/
def execReconciliation (pageRead : HostRead) (badRings : List RingNo) (s : State) : Host.Outcome State Fault Refusal :=
  if s.sup.kind ≠ 1 ∨ !s.leads ∨ !s.host.linkUp ∨ s.qif = 3 ∨ s.qif = 4 then done s
  else if s.jr.departDue then done s.depart
  else done (((s.recStep 6).reconcile (pageRead == .ok) (badRings.map (·.val))).recEnd.recRun)

/-! ### Heartbeats and takeover (R511, R515 to R517) -/

/-- HEARTBEAT (R511): the follower mirrors what the leader's heartbeat carries. -/
def execHeartbeat (dst : SvNo) (s : State) : Host.Outcome State Fault Refusal :=
  let src := 1 - dst.val
  let alive := s.sv src = svLeading ∨ s.sv src = svHalted
  if s.leaderNo = src ∧ alive ∧ s.sv dst = svFollowing then done { s with sup := { s.sup with mirror := (s.sup.gen, s.sup.kind, s.sup.step) } }
  else done s

/-- HEARTBEAT_TIMEOUT (R511, R515, R516): supervisor `who` is declared failed by the other; a halted one is not (R517). -/
def execHeartbeatTimeout (who : SvNo) (s : State) : Host.Outcome State Fault Refusal :=
  let st := s.sv who
  if s.leaderNo = who.val then
    if st = svLeading then done s.takeover.recRun else done s
  else if s.leads ∧ (st = svFollowing ∨ st = svOff) then done ((s.raiseReg 0x0002 who 0 SUP_STATUS).svReset who)
  else done s

/-- SUPERVISOR_SELF_CHECK_END (R510, R515): the supervisor leads, follows or reads FAILED. The first to lead fills the routing tables
(R373). -/
def execSupervisorSelfCheckEnd (c : SvNo) (pass : Bool) (s : State) : Host.Outcome State Fault Refusal :=
  if (s.sv c ≠ svOff ∧ s.sv c ≠ svResetting) ∨ s.clk.mgmtReset ∨ s.pwr.inReset.contains (0x600 + c) then done s
  else
    let s := s.setSv c (if !pass then svFailed else if s.sup.leader = c.val ∧ !s.sup.noLead then svLeading else svFollowing)
    let l := s.sup.leader % 2
    let s := if s.sv l = svFailed ∧ s.sv (1 - l) = svFollowing ∧ !s.sup.noLead then
        ({ s with sup := { s.sup with leader := 1 - l } }.setFld SUP_STATUS SUP_STATUS_LEADER (1 - l)).setSv (1 - l) svLeading
      else s
    let s := if s.leads ∧ s.net.tbl.cells.isEmpty then s.fillTables else s
    done s.recRun

/-! ### Watchdogs (R518, R519) -/

/-- WATCHDOG_RESTART (R518): the core's firmware restarts it with a period in µs. -/
def execWatchdogRestart (c : CoreNo) (period : BitVec 24) (s : State) : Host.Outcome State Fault Refusal :=
  if s.coreHalted c ∨ s.clk.mgmtReset then done s
  else
    let p := max period.toNat 100
    done ((s.setCore c { s.core c with period := p }).setFld (SUP_WDOG c) SUP_WDOG_REMAIN p)

/-- The item that the security controller performs resumed at its journalled step after the controller's own reset (R429, R518). -/
def State.secResume (s : State) : State :=
  match s.cur keySecurity with
  | some c => if c.item.isOwn then s else s.settleLost keySecurity c
  | none => s

/-- WATCHDOG_EXPIRY (R518): a supervisor's domain is reset, a leader's with takeover; the security controller resets alone. -/
def execWatchdogExpiry (c : CoreNo) (s : State) : Host.Outcome State Fault Refusal :=
  if s.fldOn (SUP_WDOG c) SUP_WDOG_FROZEN ∨ s.clk.mgmtReset then done s
  else
    let s := (s.satFld (SUP_WDOG c) SUP_WDOG_EXPIRIES 1).raiseReg 0x0003 c 0 (SUP_WDOG c)
    if c.val = 2 then done (s.coreReset 2).secResume else done (s.svReset c).recRun

/-! ### Domain resets (R493 to R495) -/

/-- DOMAIN_RESET (R493, R495). -/
def execDomainReset (data : Data) (s : State) : Host.Outcome State Fault Refusal :=
  done (s.regWrite RST_DOM data (fun s => (s.rstDomWrite data).recRun))


end Sys2Proof.Machine
end

