-- ==== Sys2Proof/Machine/Wear.lean ====
section
/-!
DEFINITION. Wear of the bonded interfaces (R356 to R360). Temperatures of interfaces are in 1/32 °C.
-/
namespace Sys2Proof.Machine

def State.wearAt (s : State) (j : Nat) : WearSt := s.thm.wear.get (fun _ => {}) j
def State.setWear (s : State) (j : Nat) (v : WearSt) : State := { s with thm := { s.thm with wear := s.thm.wear.set (fun _ => {}) j v } }

/-- The temperature of an interface in a column: twice the base-die sensor for the substrate joint, else the sum of the readings of
the two dies that the bond joins (R356). -/
def State.columnTemp (s : State) (j n : Nat) : Option Int :=
  match s.temp (dieSensor (j - 1) n), s.temp (dieSensor j n) with
  | some a, some b => some (a + b)
  | _, _ => none

/-- T_j, the highest of the 64 column temperatures (R356); none before the sensors hold readings. -/
def State.interfaceTemp (s : State) (j : Nat) : Option Int := hottest ((List.range 64).filterMap (s.columnTemp j))

/-- Samples per day and the wear unit's scale: 8,640,000 of 10 ms, 2^16. -/
def samplesPerDay : Nat := 8640000
/-- 2^(1/640) in units of 2^-48. -/
def rootStep : Nat := 281779991206582

/-- 2^(f/640) in units of 2^-48. -/
def rootPower : Nat → Nat
  | 0 => 2 ^ 48
  | f + 1 => rootPower f * rootStep / 2 ^ 48

/-- The wear of a full cycle between two temperatures in units of 2^-16 wear unit, before the device's error (R357):
5.4757 (R / 40)^2 2^((M - 70) / 10), R being |b - c| / 32 K and M being (b + c) / 64 °C. -/
def cycleWear (b c : Int) : Nat :=
  let r := (b - c).natAbs
  let x := b + c - 4480
  let q := x / 640
  let f := (x % 640).toNat
  54757 * r * r * rootPower f * 2 ^ (q + 64).toNat / (250000 * 2 ^ 48 * 2 ^ 64)

/-- A cycle counted. The relative error is at most 2^-12 and the rounding to a unit either way: which is free (R357). -/
def State.addCycle (s : State) (j : Nat) (b c : Int) : State :=
  let w := cycleWear b c
  let w := w - w / 4096 + Config.freeBelow (2 * (w / 4096) + 2) s.freeCtr
  ((s.spend 1).satFld (THM_WEAR j) THM_WEAR_CONSUMED w).satFld (THM_WEAR j) THM_WEAR_CYCLES 1

/-- Four-point rainflow over the turning points, newest first: cycles closed, and what stays (R357). -/
def rainflow : (fuel : Nat) → List Int → List (Int × Int) × List Int
  | 0, l => ([], l)
  | k + 1, l =>
    match l with
    | d :: c :: b :: a :: r =>
      let x := (b - c).natAbs
      if x ≤ (a - b).natAbs ∧ x ≤ (c - d).natAbs then
        let t := rainflow k (d :: a :: r)
        ((b, c) :: t.1, t.2)
      else ([], l)
    | _ => ([], l)

/-- Turning points appended to the residue, the cycles they close counted. -/
def State.addTurns (s : State) (j : Nat) (pts : List Int) (cand : Option Int) : State :=
  pts.foldl (fun s p =>
      let w := s.wearAt j
      let l := p :: w.residue.reverse
      let t := rainflow l.length l
      t.1.foldl (fun s c => s.addCycle j c.1 c.2) (s.setWear j { w with residue := t.2.reverse }))
    (s.setWear j { s.wearAt j with cand := cand })

/-- The last turning point. -/
def lastTurn : List Int → Option Int
  | [] => none
  | [x] => some x
  | _ :: r => lastTurn r

/-- A sample through the turning-point filter of 2 K (R357), or appended as a turning point after power returned (R358). -/
def State.sampleWear (s : State) (j : Nat) (x : Int) : State :=
  let w := s.wearAt j
  match lastTurn w.residue with
  | none => s.addTurns j [x] none
  | some p =>
    let onward := fun (c : Int) => decide (p ≤ c ∧ c ≤ x) || decide (x ≤ c ∧ c ≤ p)
    if s.thm.fresh then
      match w.cand with
      | some c => s.addTurns j (if onward c then [x] else [c, x]) none
      | none => if x = p then s else s.addTurns j [x] none
    else
      match w.cand with
      | none => if 64 ≤ (x - p).natAbs then s.setWear j { w with cand := some x } else s
      | some c =>
        if onward c then s.setWear j { w with cand := some x }
        else if 64 ≤ (c - x).natAbs then s.addTurns j [c] (some x)
        else s

/-! ### Service time, rates and projections (R359) -/

/-- One interface over the end of a service day. -/
def State.endDay (s : State) (j : Nat) (more : Nat) : State :=
  let w := s.wearAt j
  let used := s.fld (THM_WEAR j) THM_WEAR_CONSUMED
  s.setWear j { w with dayStart := used, days := (List.replicate more 0 ++ ((used - w.dayStart) :: w.days)).take 29 }

/-- Service time counted: the days that end in it are closed for every interface. -/
def State.serve (s : State) (n : Nat) : State :=
  let k := (s.thm.samples + n) / samplesPerDay - s.thm.samples / samplesPerDay
  let s := if k = 0 then s else (List.range 7).foldl (fun s j => s.endDay j (min (k - 1) 29)) s
  { s with thm := { s.thm with samples := s.thm.samples + n } }

/-- An interface's wear per day over the last 30 days, or over the service life if shorter (R359). -/
def State.wearRate (s : State) (j : Nat) : Nat :=
  let w := s.wearAt j
  let used := s.fld (THM_WEAR j) THM_WEAR_CONSUMED - w.dayStart + w.days.foldl (· + ·) 0
  let time := s.thm.samples % samplesPerDay + samplesPerDay * w.days.length
  if time = 0 then 0 else min (used * samplesPerDay / time) 0xFFFFFFFF

/-- LIFE[j] from the wear (R359, R362). -/
def State.showLife (s : State) (j : Nat) : State :=
  let rate := s.wearRate j
  let left := 1000000 * 65536 - s.fld (THM_WEAR j) THM_WEAR_CONSUMED
  s.setFlds (THM_LIFE j) [(THM_LIFE_RATE, rate), (THM_LIFE_REMAIN, if rate = 0 then 0xFFFFFFFF else min (left / rate) 0xFFFFFFFF)]

/-- The interface of shortest projection, the lowest number among equals. -/
def State.worstLife (s : State) : Nat :=
  (List.range 7).foldl (fun b j => if s.fld (THM_LIFE j) THM_LIFE_REMAIN < s.fld (THM_LIFE b) THM_LIFE_REMAIN then j else b) 0

/-- LIFE and WORST brought up to date. -/
def State.showLives (s : State) : State :=
  let s := (List.range 7).foldl State.showLife s
  s.setFld THM_WEAR_CTL THM_WEAR_CTL_WORST s.worstLife

/-- WEAR_SAMPLE (R356 to R359). -/
def execWearSample (s : State) : Host.Outcome State Fault Refusal :=
  let s := (List.range 7).foldl (fun s j => match s.interfaceTemp j with
    | some x => s.sampleWear j x
    | none => s) s
  let took := (List.range 7).any (fun j => (s.interfaceTemp j).isSome)
  let s := { s with thm := { s.thm with fresh := s.thm.fresh && !took } }
  done (s.serve 1).showLives

/-- The wear log written (R358, R360). -/
def State.wearLogWrite (s : State) : State :=
  let l := (List.range 7).map (fun j =>
    let w := s.wearAt j
    { reg := s.reg (THM_WEAR j), residue := w.residue, cand := w.cand, dayStart := w.dayStart, days := w.days : WearRec })
  { s with store := { s.store with wearLog := l, wearNarrow := s.fld THM_WEAR_CTL THM_WEAR_CTL_NARROW, wearTime := s.thm.samples } }

/-- WEAR_LOG_WRITE (R358). -/
def execWearLogWrite (s : State) : Host.Outcome State Fault Refusal := done s.wearLogWrite

/-- NARROW, WEAR and LIFE restored from the wear log at power-on; the next sample is a turning point (R358, R362). -/
def State.wearRestore (s : State) : State :=
  let s := { s with thm := { s.thm with wear := {}, samples := s.store.wearTime, fresh := true } }
  let s := (List.range 7).foldl (fun s j =>
    let r := (s.store.wearLog)[j]?.getD {}
    (s.setReg (THM_WEAR j) r.reg).setWear j { residue := r.residue, cand := r.cand, dayStart := r.dayStart, days := r.days }) s
  (s.setFld THM_WEAR_CTL THM_WEAR_CTL_NARROW s.store.wearNarrow).showLives

/-- DAILY_NARROW (R360). The schedule is 40,000 wear units per 365.25 days. -/
def execDailyNarrow (s : State) : Host.Outcome State Fault Refusal :=
  let j := s.fld THM_WEAR_CTL THM_WEAR_CTL_WORST
  let rate := s.fld (THM_LIFE j) THM_LIFE_RATE * 36525
  let plan := 40000 * 65536 * 100
  let n := s.fld THM_WEAR_CTL THM_WEAR_CTL_NARROW
  let m := if plan * (100 + s.fld THM_WEAR_CTL THM_WEAR_CTL_MARGIN) < rate * 100 then min (n + 1) 10
    else if rate < plan then n - 1 else n
  if m = n then done s else done ((s.setFld THM_WEAR_CTL THM_WEAR_CTL_NARROW m).raiseReg 0x0A08 j 0 THM_WEAR_CTL)

end Sys2Proof.Machine
end

