-- ==== Sys2Proof/Machine/Power.lean ====
section
/-!
DEFINITION. Power states, wake sources, supplies (R295, R412, R496 to R505, R532, R543, R548, R549).
-/
namespace Sys2Proof.Machine

/-! ### Requests (R498, R499) -/

/-- Whether a player hinders every state but Active (R499). -/
def State.playing (s : State) : Bool := (List.range 48).any (fun p => 2 ≤ s.plyState p && s.plyState p ≤ 5)

/-- Whether a capture queue hinders Rest and Dormant (R499). -/
def State.capturing (s : State) : Bool := (List.range 256).any (fun q => s.queueState q == qRun || s.queueState q == qPost)

/-- Whether a ring holds accepted items not completed (R499). -/
def State.owing (s : State) : Bool := s.rings.cells.any (fun c => !c.2.order.isEmpty)

/-- Whether an entry or a wake is in progress (R499). -/
def State.changing (s : State) : Bool :=
  match s.pwr.st with
  | .active => false
  | .quiet => false
  | _ => true

/-- The REASON with which a request is refused (R499); 0 where it is not. -/
def State.reqReason (s : State) (req : Nat) : Nat :=
  if s.changing then 4
  else if req ≠ 0 ∧ s.playing then 1
  else if 2 ≤ req ∧ s.capturing then 2
  else if req = 3 ∧ s.owing then 3
  else 0

/-- What entry into Dormant writes to the store: the wear log and, with keep-memory, the drift checkpoint (R358, R500 step 4). -/
def State.dormantLogs (s : State) : State :=
  let s := s.wearLogWrite
  if s.fldOn PWR_CTL PWR_CTL_KEEP_MEM ∧ driftState s ≠ 0 then s.driftRecord else s

/-- Entry into Rest or Dormant begun: acceptance, dispatch and releases pause (R500 step 1); for Dormant the store is written (step 4). -/
def State.enter (s : State) (dormant : Bool) : State :=
  let s := s.leaveQuiet
  let s := s.setPwr { s.pwr with st := .entering dormant }
  let s := s.setFld PWR_STATUS PWR_STATUS_STATE 2
  if dormant then s.dormantLogs else s

/-- A write of PWR.CTL (R499, R508). -/
def State.pwrCtlWrite (s : State) (data : Data) : State :=
  let s := s.writeReg PWR_CTL data
  let req := PWR_CTL_REQ.get data
  let r := s.reqReason req
  if r ≠ 0 then s.pwrRefused req r
  else if req = 0 then s.leaveQuiet
  else if req = 1 then (if s.pwr.st = .quiet then s else s.enterQuiet)
  else s.enter (req == 3)

/-- A request of one state: the written value with REQ as the row has it. -/
def reqData (data : Data) (req : Nat) : Data := PWR_CTL_REQ.put data req

/-- REQ_ACTIVE (R499). -/
def execReqActive (data : Data) (s : State) : Host.Outcome State Fault Refusal :=
  done (s.regWrite PWR_CTL data (fun s => s.pwrCtlWrite (reqData data 0)))

/-- REQ_QUIET (R499). -/
def execReqQuiet (data : Data) (s : State) : Host.Outcome State Fault Refusal :=
  done (s.regWrite PWR_CTL data (fun s => s.pwrCtlWrite (reqData data 1)))

/-- REQ_REST (R500). -/
def execReqRest (data : Data) (s : State) : Host.Outcome State Fault Refusal :=
  done (s.regWrite PWR_CTL data (fun s => s.pwrCtlWrite (reqData data 2)))

/-- REQ_DORMANT (R500). -/
def execReqDormant (data : Data) (s : State) : Host.Outcome State Fault Refusal :=
  done (s.regWrite PWR_CTL data (fun s => s.pwrCtlWrite (reqData data 3)))

/-! ### Wake sources (R501, R502) -/

/-- The bit of a source in WAKE_EN and WAKE_CAUSE. -/
def wakeBit : WakeSrc → Nat
  | .host => 0
  | .dawn => 1
  | .gio _ => 2
  | .timer => 3
  | .eject => 4
  | .sync => 5
  | .sigdet _ => 6

/-- Whether a source is a level source. -/
def wakeIsLevel : WakeSrc → Bool
  | .sync => false
  | .sigdet _ => false
  | _ => true

def State.wakeEn (s : State) (src : WakeSrc) : Bool := natBit (s.reg PWR_WAKE_EN).toNat (wakeBit src)

/-- Dormant, or on its way there. -/
def State.toDormant (s : State) : Bool := s.pwr.st == .dormant || s.pwr.st == .entering true

/-- Whether a source that is active counts in this state (R502). -/
def State.wakes (s : State) (src : WakeSrc) : Bool :=
  match src with
  | .host => s.pwr.st != .dormant || s.pwr.emulated || s.pins.perst
  | .dawn => s.wakeEn .dawn && (List.range 48).any (fun n => s.fldOn (LANE_WAKE n) LANE_WAKE_EN && s.fldOn (LANE_WAKE n) LANE_WAKE_SEEN)
  | .gio pins => s.wakeEn (.gio pins) && (s.reg GIO_WAKE_EN &&& (pins ^^^ s.reg GIO_WAKE_POL)) != 0
  | .timer => s.wakeEn .timer && s.reg PWR_WAKE_TIME != 0
  | .eject => s.pins.eject && !s.toDormant
  | .sync => s.wakeEn .sync
  | .sigdet n => s.wakeEn (.sigdet n) && s.fldOn (LANE_WAKE n) LANE_WAKE_EN

/-- The controllers whose domains are up take up their clocks (R294, R506). -/
def State.unparkDram (s : State) : State :=
  (List.range 32).foldl (fun s p => if (s.dom (512 + p)).st = domDown then s else s.unparkCtl p) s

/-- WAKE_CAUSE, the event of a wake, and STATE Active (R502, R508). -/
def State.showWake (s : State) (causes : Nat) : State :=
  let s := s.setPwr { s.pwr with st := .active, latched := 0 }
  let s := s.setReg PWR_WAKE_CAUSE (BitVec.ofNat 64 causes)
  (s.setFld PWR_STATUS PWR_STATUS_STATE 0).raiseReg 0x010A 0 0 PWR_WAKE_CAUSE

/-- An emulated Rest or Dormant ended: the device resumes as after Rest without relocking (R532). -/
def State.endEmulation (s : State) (causes : Nat) : State :=
  let s := s.setPwr { s.pwr with emulated := false }
  let s := (s.setFld DBG_ATTACH DBG_ATTACH_EMULATED 0).freezeDogs false
  (s.unparkDram.driftUnrest.showWake causes).departOwed

/-- An active source takes effect: Quiet is left, an entry is abandoned, a sleeping device begins to wake (R499 to R502). -/
def State.wakeBy (s : State) (src : WakeSrc) : State :=
  match s.pwr.st with
  | .active => s
  | .quiet => s.leaveQuiet
  | .entering _ => if s.pwr.thermal then s else s.abandonEntry
  | _ =>
    let s := if src = .host ∧ s.pwr.st = .dormant then { s with pins := { s.pins with perst := false } } else s
    let l := s.pwr.latched ||| 2 ^ (wakeBit src)
    if s.pwr.emulated then s.endEmulation l
    else (s.setPwr { s.pwr with latched := l }).setFld PWR_STATUS PWR_STATUS_STATE 3

/-- WAKE_SOURCE_LEVEL (R500, R502): a level source active at an always-on edge outside the entry window. -/
def execWakeSourceLevel (src : WakeSrc) (s : State) : Host.Outcome State Fault Refusal :=
  if s.pwr.powered ∧ wakeIsLevel src ∧ s.wakes src then done (s.wakeBy src) else done s

/-- WAKE_SOURCE_EDGE (R501, R502): an edge in the entry window is lost. -/
def execWakeSourceEdge (src : WakeSrc) (inWindow : Bool) (s : State) : Host.Outcome State Fault Refusal :=
  if s.pwr.powered ∧ !wakeIsLevel src ∧ s.wakes src ∧ !inWindow then done (s.wakeBy src) else done s

/-- WAKE_TIMER_MATCH (R502). -/
def execWakeTimerMatch (s : State) : Host.Outcome State Fault Refusal :=
  if s.pwr.powered ∧ s.wakes .timer then done (s.wakeBy .timer) else done s

/-! ### The end of the entry window (R500, R501, R532) -/

/-- An entry cut short by a level source active at the edge: its steps are undone (R501). -/
def State.cutShort (s : State) : State :=
  let s := s.setPwr { s.pwr with st := .active }
  (s.driftUnrest.setFlds PWR_STATUS [(PWR_STATUS_STATE, 0), (PWR_STATUS_CUT_SHORT, 1)]).raiseReg 0x0109 0 2 PWR_STATUS

/-- Whether a debugger is attached with EMU_SLEEP (R532). -/
def State.emulates (s : State) : Bool :=
  (s.fldOn DBG_ATTACH DBG_ATTACH_JTAG || s.fldOn DBG_ATTACH DBG_ATTACH_HOST) && s.fldOn DBG_ATTACH DBG_ATTACH_EMU_SLEEP

/-- The pins of lanes without WAKE.EN let go in Dormant; the others hold electrical idle (R104). -/
def State.lanesSleep (s : State) : State :=
  (List.range 48).foldl (fun s n => s.setLane n { s.lane n with pins := if s.fldOn (LANE_WAKE n) LANE_WAKE_EN then .idle else .highZ }) s

/-- Rest or Dormant entered, with LAST. -/
def State.asleep (s : State) (dormant : Bool) : State :=
  let s := s.setPwr { s.pwr with st := if dormant then .dormant else .rest, latched := 0 }
  s.setFlds PWR_STATUS [(PWR_STATUS_STATE, 0), (PWR_STATUS_LAST, if dormant then 3 else 2)]

/-- Entry emulated: everything that was to stop stays up (R532). -/
def State.emulate (s : State) (dormant : Bool) : State :=
  let s := (s.asleep dormant).setPwr { (s.asleep dormant).pwr with emulated := true }
  ((s.setFld DBG_ATTACH DBG_ATTACH_EMULATED 1).freezeDogs true).raiseReg 0x000B (if dormant then 3 else 2) 0 PWR_STATUS

/-- The margin points that software began end aborted as the engines and lanes stop. -/
def State.pointsStop (s : State) : State := (List.range 48).foldl (fun s n => s.marginAbort n) s

/-- The root stopped: both counts are recorded for the bridge, and the always-on island keeps its count (R222). -/
def State.rootStops (s : State) (aon : Data) : State :=
  let s := s.bridgeRecord aon
  let s := { s with clk := { s.clk with rootRun := false, xtalGap := !s.clk.xtal } }
  s.setPwr { s.pwr with aonCount := aon }

/-- ROOT_STOP (R500, R501, R532): `aon` is the always-on count at the edge, `level` a level source active there. -/
def execRootStop (aon : Data) (level : Option WakeSrc) (s : State) : Host.Outcome State Fault Refusal :=
  match s.pwr.st with
  | .entering d =>
    let cut : Bool := match level with
      | some src => wakeIsLevel src && s.wakes src && !s.pwr.thermal
      | none => false
    if cut then done s.cutShort
    else
      let s := if d then s.parkDram else s.parkDram.driftRest
      if s.emulates ∧ !s.pwr.thermal then done (s.emulate d)
      else
        let s := ((s.pointsStop.rootStops aon).asleep d).setReg PWR_AON_COUNT aon
        done (if d then { s.lanesSleep with host := { s.host with linkUp := false } } else s)
  | _ => done s

/-! ### The wake from Rest (R503) -/

/-- Enabled lane directions restart: receivers acquire, transmitters start. -/
def State.lanesRestart (s : State) : State :=
  (List.range 48).foldl (fun s n =>
    let s := if s.rxState n = rxDisabled then s else s.rxStop n rxAcquire
    if s.txState n = txDisabled then s else (s.setLane n (s.lane n).txCleared).setTx n txStarting) s


/-- WAKE_FROM_REST (R503): `aon` is the always-on count at the edge at which the dividers restart. -/
def execWakeFromRest (aon : Data) (s : State) : Host.Outcome State Fault Refusal :=
  if s.pwr.powered ∧ s.pwr.st = .rest ∧ !s.pwr.emulated ∧ s.pwr.latched ≠ 0 then
    let causes := s.pwr.latched
    let s := (s.rootBridged aon).unparkDram.lanesRestart.driftUnrest
    let s := s.setPwr { s.pwr with st := .active }
    let s := s.oas.grps.keys.foldl (fun s i => s.oasHeldGo i) s
    done (s.showWake causes).departOwed
  else done s

/-! ### The root's lock (R483) -/

/-- ROOT_LOCK (R211, R222, R226, R483): the root first locks; or, at the always-on count `aon`, it restarts after Dormant, with or without
REFIN; or, with REFIN back since Rest or Dormant, it relocks. The controllers' training follows (R291, R496 step 9). -/
def execRootLock (aon : Data) (s : State) : Host.Outcome State Fault Refusal :=
  if !s.awake then done s
  else if !s.clk.rootRun then
    if s.time.bridgeDue then done (s.rootBridged aon).trainAll
    else
      let s := s.setClk { s.clk with refin := true, rootEver := true, rootRun := true }
      done ((s.setFld CLK_STATUS CLK_STATUS_ROOT 1).setFld TSU_STATUS TSU_STATUS_LOCKED 1).trainAll
  else if s.clk.refin ∧ s.time.hold.isSome then done s.relocked
  else done s

/-! ### Registers through Dormant (R498, R508, R512, R543) -/

/-- The bits of a register, beside RWS fields, that Dormant keeps: the reloads from the store, which wrote them before, LAST, CAUSE, the
leader of the recovery record, and, where the contents of DRAM were kept, the encryption engine's registers and the places of the patrol
scrub (R296, R307). -/
def dormantKept (off : Nat) (kept : Bool) : Nat :=
  let all := 0xFFFFFFFFFFFFFFFF
  if off < 0x20000 then 0
  else if off < 0x30000 then (if off = PWR_STATUS then PWR_STATUS_LAST.mask else if off = PWR_AON_COUNT then all else 0)
  else if off < 0x40000 then (if off = RST_CAUSE then all else 0)
  else if off < 0x50000 then all
  else if off < 0x60000 then (if off = SUP_STATUS then SUP_STATUS_LEADER.mask else 0)
  else if SCH_TP 0 ≤ off ∧ off < SCH_TP 128 then SCH_TP_TASKNO.mask
  else if off < 0x180000 then 0
  else if off < 0x1C0000 then
    if off = CFG_STATUS then all - CFG_STATUS_ENGINE.mask
    else if off = CFG_SCRUB then 0
    else all
  else if off = TSU_BRIDGE_RATIO ∨ off = TSU_EPOCH_NS ∨ off = TSU_EPOCH_SEC then all
  else if kept ∧ (List.range 32).any (fun p => off == DRMC_SCRUB p) then DRMC_SCRUB_NEXT.mask
  else if 0x300000 ≤ off ∧ off < 0x340000 ∧ kept then all
  else 0

/-- The value that a wake from Dormant leaves in a register. -/
def dormantValue (kept : Bool) (off : Nat) (v : Data) : Data :=
  match regInfo off with
  | some r => clearTo off v (0xFFFFFFFFFFFFFFFF &&& (0xFFFFFFFFFFFFFFFF - (dormantKept off kept ||| r.rws)))
  | none => v

/-- Key slots as the store gives them: the last accepted value one below the ceiling (R474). -/
def State.secReload (s : State) : State :=
  let slots : SMap SlotKey := { cells := s.sec.slots.cells.filterMap (fun (c : Nat × SlotKey) =>
    let v : SlotKey := { c.2 with by_ := none, waiting := [] }
    if v = slotStart c.1 then none else some (c.1, v)) }
  let s := { s with sec := { s.sec with slots := slots, unlockForever := false, haltEver := false, imageHash := 0 } }
  let s := s.setFlds SEC_STATUS [(SEC_STATUS_ATTEST, 0), (SEC_STATUS_ATTEST_DONE, 0), (SEC_STATUS_HOST_DBG, 0), (SEC_STATUS_JTAG_DBG, 0)]
  let s := s.setReg SEC_DEBUG 0
  (List.range 16).foldl (fun s k => s.setFld (SEC_SLOT k) SEC_SLOT_LAST ((s.slotKey k).ceiling - 1)) s

/-- Domains through Dormant: those that were down stay down (R506). -/
def domsKept (d : SMap DomSt) : SMap DomSt :=
  d.mapVals {} (fun (v : DomSt) => { on := v.on, woa := true, st := if v.on then domUp else domDown })

/-- A controller through the loss of its power, or through Dormant with its contents kept (R288, R295). -/
def ctlThrough (kept : Bool) (c : CtlSt) : CtlSt :=
  if kept then { lines := c.lines, spares := c.spares, dead := c.dead, keep := true } else { spares := c.spares, dead := c.dead }

/-- The remap records reloaded into groups and controllers, and the controllers' contents where they were kept (R262, R288, R295). -/
def State.memThrough (s : State) (kept : Bool) : State :=
  let grps : SMap OasGrp := s.oas.grps.mapVals {} (fun (g : OasGrp) => { spares := g.spares })
  let ctl : SMap CtlSt := SMap.tab 32 (fun _ => {}) (fun p => ctlThrough kept (s.ctlAt p))
  { s with oas := { grps := grps }, ctl := ctl, mem := if kept then { s.mem with setUp := true, setKeys := false } else {} }

/-- EXHAUSTED of groups and controllers from their remap tables. -/
def State.showSpares (s : State) : State :=
  let s := s.oas.grps.keys.foldl (fun s i =>
    if (List.range 8).any (fun b => ((s.oasGrp i).freeEntry b).isNone) then s.setFld (OAS_G_STATUS i) OAS_G_STATUS_EXHAUSTED 1 else s) s
  s.ctl.keys.foldl (fun s p =>
    if (List.range 16).all (fun e => !((s.ctlAt p).spareFree e)) then s.setFld (DRMC_STATUS p) DRMC_STATUS_EXHAUSTED 1 else s) s

/-- What the blocks beside the registers hold after the power of all domains has been removed and returned. -/
def State.unitsLost (s : State) : State :=
  { s with fab := {}, lanes := {}, gio := {}, cap := {}, ply := {}, eng := {}, net := {}, cores := {}, rings := {},
           sched := { storeLost := true },
           clk := { refin := s.clk.refin, rootEver := s.clk.rootEver, xtal := s.clk.xtal, xtalWas := s.clk.xtalWas, mgmtReset := !s.clk.xtal, xtalGap := s.clk.xtalGap },
           host := { s.host with linkUp := false, held := [], msix := {}, pba := {}, answer := some [] },
           evt := { s.evt with next := 0, loss := false },
           jr := { s.jr with departing := none },
           jtag := {}, thm := {},
           time := { s.time with setDue := none, epochDue := false, sync := [], lineAt := [], outs := 0, outHigh := 0,
                                 bridgeDue := s.clk.rootEver, missed := s.outTimes },
           pins := { s.pins with syncOut := false },
           store := { s.store with load := none, bootDue := true, wakeDue := true },
           sup := { s.sup with noLead := false } }

/-- CLK.STATUS of a crystal that stayed qualified (R504). -/
def State.showXtal (s : State) : State :=
  if s.clk.xtal then s.setFlds CLK_STATUS [(CLK_STATUS_XTAL_OK, 1), (CLK_STATUS_MGMT_SRC, 1)] else s

/-- Every ring enabled in its control block register stands HELD until reconciliation (R434, R504). -/
def State.ringsHeld (s : State) : State :=
  let s := (List.range 256).foldl (fun s r =>
    if s.fldOn (QIF_RING_CB r) QIF_RING_CB_EN then
      s.ringAfterReset r (if s.jr.rings.keys.contains r then ringHeld else ringError)
    else s) s
  s.setFld QIF_STATUS QIF_STATUS_STATE 1

/-! ### The wake from Dormant (R504, R505, R543) -/

/-- Whether a wake from Dormant may proceed: power is there, and after a forced Dormant its second has passed (R505). -/
def State.mayWake (s : State) (aon : Data) : Bool :=
  s.pwr.powered && s.pwr.st == .dormant && !s.pwr.emulated && s.pwr.latched != 0 && s.pwr.softStarted
    && (!s.pwr.thermal || 25000000 ≤ (aon - s.pwr.aonCount).toNat)

/-- Contents of DRAM that keep-memory was to keep and that were lost (R296). -/
def State.keptLost (s : State) (kept : Bool) : State :=
  if s.fldOn PWR_CTL PWR_CTL_KEEP_MEM && !kept then (List.range 32).foldl (fun s p => s.raiseReg 0x0808 p 0 (DRMC_STATUS p)) s else s

/-- The power-on sequence as a wake from Dormant runs it, up to what later rows perform. -/
def State.dormantWake (s : State) (aon : Data) (kept : Bool) : State :=
  let slept := (aon - s.pwr.aonCount).toNat
  let s := s.endUnlock
  let s := if kept then s else s.driftLost
  let s := s.unitsLost.memThrough kept
  let s := s.mapRegs (dormantValue kept)
  let s := s.secReload.firmwareRuns
  let s := (s.wearRestore.serve (slept / 250000)).showRec
  let s := (s.showTasks.showXtal).showSpares
  let s := s.setPwr { s.pwr with doms := domsKept s.pwr.doms, inReset := [], wokenFor := [], quietTx := [], mainLost := false, aonCount := aon }
  let s := s.setReg PWR_AON_COUNT aon
  (s.keptLost kept).ringsHeld

/-- WAKE_FROM_DORMANT (R504): `padKept` says that the pad islands kept their supply. -/
def execWakeFromDormant (aon : Data) (padKept : Bool) (s : State) : Host.Outcome State Fault Refusal :=
  if s.mayWake aon then
    let causes := s.pwr.latched
    let kept := s.fldOn PWR_CTL PWR_CTL_KEEP_MEM && padKept && !s.pwr.mainLost
    let s := s.dormantWake aon kept
    let s := if causes % 2 = 0 then { s with pins := { s.pins with wake := true } } else s
    done ((s.needRecon.driftResume).showWake causes)
  else done s

/-! ### Supplies (R295, R412, R496, R497, R548, R549) -/

/-- Power lost (R497): the device is in reset, its retained journal is invalid. -/
def State.powerLost (s : State) : State :=
  { s with pwr := { s.pwr with powered := false, st := .active, emulated := false, latched := 0, thermal := false, mainLost := false },
           jr := {}, host := { s.host with linkUp := false, held := [] }, clk := { s.clk with rootRun := false },
           pins := { s.pins with cfgDone := false, cfgErr := false, wake := false, syncOut := false, fault := s.pwr.tripped } }

/-- 12 V main gone at the contacts: the pass switch opens, and one held open by an overcurrent may close again (R549). -/
def State.mainGone (s : State) : State :=
  { s with pwr := { s.pwr with mainOk := false, passClosed := false, softStarted := false, switchHeld := false } }

/-- POWER_LOSS (R497): the loss of auxiliary power (`aux`), or of main power outside Dormant. FAULT# of an overcurrent ends with the
auxiliary power that held it. In Dormant the loss of main power alone loses what keep-memory kept. -/
def execPowerLoss (aux : Bool) (s : State) : Host.Outcome State Fault Refusal :=
  if aux then done { s with pwr := { s.pwr with tripped := false, auxOk := false, softStarted := false } }.powerLost
  else if s.pwr.st = .dormant then done { s.mainGone with pwr := { s.mainGone.pwr with mainLost := true } }
  else
    let s := if s.pwr.powered then s.powerLost else s
    done s.mainGone

/-- MAIN_UNDERVOLTAGE (R549): power loss outside Dormant. -/
def execMainUndervoltage (s : State) : Host.Outcome State Fault Refusal :=
  if s.pwr.st = .dormant ∨ !s.pwr.powered then done s
  else done { s.powerLost with pwr := { s.powerLost.pwr with mainOk := false, softStarted := false } }

/-- OVERCURRENT (R549): the pass switch opens, which is power loss, and FAULT# is asserted. -/
def execOvercurrent (s : State) : Host.Outcome State Fault Refusal :=
  if s.pwr.passClosed then
    done { s with pwr := { s.pwr with tripped := true, switchHeld := true, passClosed := false, softStarted := false } }.powerLost
  else done s

/-- PASS_SWITCH_CLOSE (R548, R549): the contacts have read in range for 1 ms; the switch stays open after an overcurrent. -/
def execPassSwitchClose (s : State) : Host.Outcome State Fault Refusal :=
  if s.pwr.switchHeld ∨ s.pwr.passClosed ∨ !s.host.present then done s
  else done (s.setPwr { s.pwr with mainOk := true, passClosed := true })

/-- SOFT_START_END (R548): 12 V behind the switch and 3.3 V auxiliary are both within range. -/
def execSoftStartEnd (s : State) : Host.Outcome State Fault Refusal :=
  if s.pwr.passClosed ∧ s.host.present then done (s.setPwr { s.pwr with auxOk := true, mainOk := true, softStarted := true }) else done s

/-- MAIN_LOST_IN_DORMANT (R295): the controllers find it on the wake. -/
def execMainLostInDormant (s : State) : Host.Outcome State Fault Refusal :=
  if s.pwr.st = .dormant ∧ !s.pwr.emulated then done { s.mainGone with pwr := { s.mainGone.pwr with mainLost := true } } else done s

/-- SURPRISE_REMOVAL (R412): power and link go without a departure event. -/
def execSurpriseRemoval (s : State) : Host.Outcome State Fault Refusal :=
  let s := { s with pwr := { s.pwr with tripped := false } }.mainGone.powerLost
  done { s with host := { s.host with present := false }, pwr := { s.pwr with auxOk := false } }

/-! ### Power-on reset (R496, R453) -/

/-- The configuration store as power-on finds it: a slot whose write was cut is INVALID (R461). -/
def State.storeThrough (s : State) : StoreSt :=
  { s.store with load := none, bootDue := true, wakeDue := false }

/-- The registers that power-on reset reloads from the store: CFG.POLICY, the slots, SEC (R542). -/
def coldKept (off : Nat) : Bool :=
  off == CFG_POLICY || (decide (CFG_SLOT_INFO 0 ≤ off) && decide (off < CFG_SLOT_INFO 4)) || (decide (0x40000 ≤ off) && decide (off < 0x50000))

/-- A slot that was being written when power was lost is INVALID (R461). -/
def State.slotsSpoiled (s : State) : State :=
  (List.range 4).foldl (fun s k => if s.slotState k = slWriting then s.setSlotState k slInvalid else s) s

/-- The state of power-on reset: what the store, the fuses and the host hold, and everything else as at reset. -/
def State.cold (s : State) : State :=
  let r : State := State.reset
  let regs : SMap Data := { cells := s.regs.cells.filter (fun (c : Nat × Data) => coldKept c.1) }
  { r with variant := s.variant, fuses := s.fuses, regs := regs, freeCtr := s.freeCtr, pending := s.pending,
           host := { r.host with mem := s.host.mem, linkUp := false, sent := s.host.sent },
           pins := { r.pins with eject := s.pins.eject, perst := s.pins.perst, fault := s.pwr.tripped },
           pwr := { r.pwr with tripped := s.pwr.tripped },
           evt := { r.evt with log := s.evt.log },
           sec := { slots := s.sec.slots, ownerCert := s.sec.ownerCert },
           store := s.storeThrough,
           clk := { r.clk with refin := s.clk.refin },
           jr := { r.jr with departDue := s.pins.eject } }

/-- POWER_ON_RESET (R496): both supplies applied after power loss. -/
def execPowerOnReset (s : State) : Host.Outcome State Fault Refusal :=
  if !s.pwr.powered ∧ s.pwr.softStarted then
    let t := s.cold.memThrough false
    let t := { t with oas := (s.memThrough false).oas, ctl := (s.memThrough false).ctl }
    done ((t.slotsSpoiled.secReload.firmwareRuns.wearRestore).showSpares)
  else done s

/-! ### Forced Dormant (R354, R505) -/

/-- Whether sensor k forces Dormant: at 110 °C or above for 1 ms, or, after the wake from a forced Dormant, not below 95 °C. -/
def State.tooHot (s : State) (k : Nat) : Bool :=
  decide (100 ≤ s.thm.hotFor.get (fun _ => 0) k) || (s.pwr.thermal && s.reads k 95)

/-- Players stopped as for EJECT#, a frame in progress cut, and every started item's entry written to the page (R205, R505). -/
def State.stopAll (s : State) : State :=
  let s := (List.range 48).foldl (fun s p => (s.plyEject p).plyEjectCut p) s
  s.startedEntries.foldl (fun s e => s.journalPut e (s.jentry e)) s

/-- THERMAL_DORMANT (R505): `page` is how the read of the journal page ends. An entry in progress becomes one into Dormant. -/
def execThermalDormant (k : SensorNo) (_page : HostRead) (s : State) : Host.Outcome State Fault Refusal :=
  let forced := s.pwr.thermal && s.pwr.st == .entering true
  if s.awake ∧ !forced ∧ s.tooHot k then
    let s := s.leaveQuiet.faultPin
    let s := (s.setFld RST_CAUSE RST_CAUSE_THERMAL 1).raiseReg 0x010D k 0 (THM_SENS k)
    let s := s.stopAll.dormantLogs
    let s := s.setPwr { s.pwr with st := .entering true, thermal := true }
    done (s.setFld PWR_STATUS PWR_STATUS_STATE 2)
  else done s

end Sys2Proof.Machine
end

