-- ==== Sys2Proof/Machine/Bus.lean ====
section
/-!
DEFINITION. The registers as a bus reaches them (R12, R390, R481, R533, R538, R541, R544): what each reads as, and which operation a
write of it is. Registers without an operation of their own take the plain write of their fields. The registers of the cores follow in
`Debug.lean`.
-/
namespace Sys2Proof.Machine

/-! ### What registers read as -/

/-- GLB.ID (R541). -/
def State.glbId (s : State) : Data := BitVec.ofNat 64 (0x1F8C * 2 ^ 48 + variantCode s.variant * 2 ^ 32 + s.fuses.stepping.toNat * 2 ^ 24)

/-- GLB.CAPACITY (R541). -/
def State.glbCapacity (s : State) : Data :=
  let raw := match s.variant with
    | .yx4802 => 2048
    | .yx4801 => 1024
  let usable := (List.range 32).foldl (fun n p =>
    let st := s.ctlState p
    if st ≠ ctlOff ∧ st ≠ ctlTraining ∧ st ≠ ctlFailed then n + DRMC_GEOM_USABLE_MIB.get (s.geomData p) else n) 0
  BitVec.ofNat 64 (raw * 2 ^ 48 + 2048 * 2 ^ 32 + usable)

/-- WELL.XDATA of the crossing that SEL names (R343). -/
def State.wellData (s : State) : Data :=
  let sel := s.fld WELL_SEL WELL_SEL_CROSSING
  let bond := s.fld WELL_SEL WELL_SEL_BOND
  if 18 ≤ sel % 32 then 0 else (s.cross (crossKey (sel / 32) (sel % 32) (if bond = 0 ∨ bond = 7 then 1 else bond))).xdata

/-- SCH.FLOW_DATA (R438). -/
def State.flowData (s : State) : Data :=
  let f := s.sched.flows.get (fun _ => {}) (s.fld SCH_FLOW_SEL SCH_FLOW_SEL_FLOW)
  BitVec.ofNat 64 (f.next % 2 ^ 32 * 2 ^ 32 + f.release % 2 ^ 32)

/-- CLK.GATE with EN of the node that GATE_SEL names (R489). -/
def State.gateData (s : State) : Data :=
  CLK_GATE_EN.put (s.reg CLK_GATE) (bit01 (!s.clk.gatedNodes.contains (s.fld CLK_GATE_SEL CLK_GATE_SEL_NODE)))

/-- SEC.DEBUG: the seconds left of an unlock that expires are a free value of which the state holds only the first (R481). -/
def State.secDebugData (s : State) : Data :=
  let v := s.reg SEC_DEBUG
  if v = 0 ∨ v = 0xFFFFFFFF then v else BitVec.ofNat 64 (Config.freeValue 32 s.freeCtr).toNat

/-- A watchdog that runs: what is left of its period is a free value (R518). -/
def State.wdogData (s : State) (c : Nat) : Data :=
  let v := s.reg (SUP_WDOG c)
  if s.fldOn (SUP_WDOG c) SUP_WDOG_FROZEN ∨ SUP_WDOG_REMAIN.get v = 0 then v else SUP_WDOG_REMAIN.put v (Config.freeValue 24 s.freeCtr).toNat

/-- PATCH[u] of a core: zero until a firmware image has been loaded, and while the management domain is in reset (R530, R537). -/
def State.patchData (s : State) (c u : Nat) : Data :=
  if s.sec.fwHash = 0 ∨ s.clk.mgmtReset then 0 else Config.patchUnit s.sec.fwHash c u &&& 0x80000FFFFFFFFFFF

/-- The MSI-X table and pending-bit array, by the byte offset in their space (R392). -/
def State.msixData (s : State) (o : Nat) : Data :=
  if o < 0x2000 then s.host.msix.get msixReset (o / 8)
  else BitVec.ofNat 64 (ofBits ((List.range 64).map (fun b => s.host.pba.get (fun _ => false) ((o - 0x2000) / 8 * 64 + b))))

/-- Computed values of the management class (R481, R541). -/
def State.busValueM (s : State) (o : Nat) : Option Data :=
  if o = GLB_ID then some s.glbId
  else if o = GLB_CAPACITY then some s.glbCapacity
  else if o = CLK_GATE then some s.gateData
  else if o = PWR_DOM_CTL then some s.domCtl
  else if o = PWR_AON_COUNT then some (Config.freeValue 64 s.freeCtr)
  else if o = SEC_SERIAL_LO then some (BitVec.ofNat 64 s.fuses.serial.toNat)
  else if o = SEC_SERIAL_HI then some (BitVec.ofNat 64 (s.fuses.serial.toNat / 2 ^ 64))
  else if o = SEC_DEBUG then some s.secDebugData
  else if SUP_WDOG 0 ≤ o ∧ o < SUP_WDOG 3 then some (s.wdogData ((o - SUP_WDOG 0) / 8))
  else if 0x60100 ≤ o ∧ o < 0x60700 ∧ 0x100 ≤ (o - 0x60100) % 0x200 ∧ (o - 0x60100) % 0x200 < 0x180 then
    some (s.patchData ((o - 0x60100) / 0x200) ((o - 0x60100) % 0x200 % 0x100 / 8))
  else if 0xA0000 ≤ o ∧ o < 0xA2040 then some (s.msixData (o - 0xA0000))
  else if o = CFG_STACK_SIG then some s.fuses.stackSig
  else none

/-- Computed values of the measurement class. -/
def State.busValueX (s : State) (o : Nat) : Option Data :=
  if o = SCH_FLOW_DATA then some s.flowData
  else if o = RING_TBL_DATA then some s.tblData
  else if 0x148000 ≤ o ∧ o < 0x158000 then some (s.traceData ((o - 0x148000) / 8))
  else if o = WELL_XDATA then some s.wellData
  else if o = OAS_RMP_DATA then some s.rmpData
  else if o = OAS_CONF_DATA then some s.confData
  else if DRMC_CTL 0 ≤ o ∧ o < DRMC_CTL 32 then
    let p := (o - DRMC_CTL 0) / 0x1000
    if o = DRMC_GEOM p then some (s.geomData p) else if o = DRMC_REMAP_DATA p then some (s.remapData p) else none
  else if FAB_ERG_LOCK 64 ≤ o ∧ o < FAB_ERG_LOCK 128 ∧ o % 0x40 = FAB_ERG_LOCK 0 % 0x40 then some 0
  else if o = TSU_NOW_NS then some (s.nowRead .debug).2
  else if o = TSU_HOLD then some (BitVec.ofNat 64 s.holdNow)
  else if MEA_CTL 0 ≤ o ∧ o < MEA_CTL 24 then
    let e := (o - MEA_CTL 0) / 0x100
    if o = MEA_PROG_DATA e then some (s.progData e) else if o = MEA_MEM_DATA e then some (s.memData e) else none
  else none

/-- What a register reads as. Write-only fields, reserved bits and unassigned offsets read zero (R12, R538). -/
def State.busValue (s : State) (o : Nat) : Data :=
  match if classX o then s.busValueX o else s.busValueM o with
  | some v => v
  | none =>
    match regInfo o with
    | some r => s.reg o &&& BitVec.ofNat 64 (0xFFFFFFFFFFFFFFFF - r.wo)
    | none => 0

/-- The side effects of a read (R12, R242, R227, R533). -/
def State.busReadFx (s : State) (o : Nat) : State :=
  if o = TSU_NOW_NS then (s.nowRead .host).1
  else if MEA_CTL 0 ≤ o ∧ o < MEA_CTL 24 ∧ o = MEA_PROG_DATA ((o - MEA_CTL 0) / 0x100) then
    s.wrapFld (MEA_PROG_ADDR ((o - MEA_CTL 0) / 0x100)) MEA_PROG_ADDR_ADDR 1
  else if MEA_CTL 0 ≤ o ∧ o < MEA_CTL 24 ∧ o = MEA_MEM_DATA ((o - MEA_CTL 0) / 0x100) then
    s.wrapFld (MEA_MEM_ADDR ((o - MEA_CTL 0) / 0x100)) MEA_MEM_ADDR_ADDR 1
  else match regInfo o with
    | some r => if r.rcl = 0 then s else s.setReg o (maskWrite (s.reg o) 0 r.rcl)
    | none => s

/-! ### What a write of a register is -/

/-- A write of half an entry of the MSI-X table. An entry that is unmasked while its pending bit is set sends its message (PRESUMED, from the
PCI Express specification; R392). -/
def State.msixWrite (s : State) (k : Nat) (data : Data) : State :=
  let s := { s with host := { s.host with msix := s.host.msix.set msixReset k data } }
  let v := k / 2
  if s.host.pba.get (fun _ => false) v ∧ !natBit (s.host.msix.get msixReset (2 * v + 1)).toNat 32 then
    { s with host := { s.host with pba := s.host.pba.set (fun _ => false) v false } }.message v
  else s

/-- The blocks CLK, PWR, RST, QIF and EVT. -/
def State.busWriteM (s : State) (o : Nat) (data : Data) : Option State :=
  if o = CLK_GATE then some (s.gateWrite data)
  else if o = CLK_FMETER_CTL then some (s.fmeterWrite data)
  else if o = PWR_CTL then some (s.pwrCtlWrite data)
  else if o = PWR_DOM_SEL then some ((s.writeReg o data).domShow)
  else if o = PWR_DOM_CTL then some (s.domCtlWrite data)
  else if o = RST_CTL then some (s.rstCtlWrite data)
  else if o = RST_DOM then some (s.rstDomWrite data).recRun
  else if o = QIF_JOURNAL then some (s.journalRegWrite data)
  else if QIF_RING_CB 0 ≤ o ∧ o < QIF_RING_CB 256 ∧ o % 0x10 = 0 then
    let r := (o - QIF_RING_CB 0) / 0x10
    some (if QIF_RING_CB_EN.on data then s.ringEnable r data else s.ringDisable r data)
  else if 0xA0000 ≤ o ∧ o < 0xA2000 then
    some (s.msixWrite ((o - 0xA0000) / 8) data)
  else if o = EVT_BASE then some (s.evtBaseWrite data)
  else if o = EVT_HEAD then some (s.evtHeadWrite data)
  else if o = EVT_CFG then some (s.evtCfgWrite data)
  else none

/-- The blocks SCH, RING and PRB. -/
def State.busWriteSch (s : State) (o : Nat) (data : Data) : Option State :=
  if o = SCH_SPILL ∨ o = SCH_STORE then some (s.schMoveWrite o data)
  else if SCH_TP 0 ≤ o ∧ o < SCH_TP 128 then some (s.tpChWrite ((o - SCH_TP 0) / 8) data)
  else if SCH_PLY_CFG 0 ≤ o ∧ o < SCH_PLY_CFG 48 then
    let p := (o - SCH_PLY_CFG 0) / 0x100
    if o = SCH_PLY_CFG p then some (s.plyCfgWrite p data)
    else if o = SCH_PLY_FEED p then some (s.plyFeedWrite p data)
    else if o = SCH_PLY_FABRIC p then some (s.plyFabricWrite p data)
    else none
  else if SCH_SGL_CFG 0 ≤ o ∧ o < SCH_SGL_CFG 8 ∧ o % 0x40 = 0 then some (s.sglCfgWrite ((o - SCH_SGL_CFG 0) / 0x40) data)
  else if o = RING_TBL_CTL then some (s.tblCtlWrite data)
  else if o = RING_TBL_DATA then some (s.tblDataWrite data)
  else if o = PRB_CTL then some (s.prbCtlWrite data)
  else if o = PRB_TRACE_CTL then some (s.traceCtlWrite data)
  else none

/-- The blocks FAB and OAS. -/
def State.busWriteFab (s : State) (o : Nat) (data : Data) : Option State :=
  if FAB_ERG_CTX 0 ≤ o ∧ o < FAB_ERG_CTX 128 then
    let i := (o - FAB_ERG_CTX 0) / 0x40
    if o = FAB_ERG_CTX i then some (s.ctxWrite i data)
    else if o = FAB_ERG_ISO i then some (s.isoWrite i data)
    else if o = FAB_ERG_SNAP i then some (s.snapWrite i data)
    else if o = FAB_ERG_LOCK i ∧ 64 ≤ i then some s
    else none
  else if o = FAB_ILLOP then some (s.illopWrite data)
  else if o = FAB_BM_PERR then some (s.bmPerrWrite data)
  else if o = FAB_DIR_PERR then some (s.dirPerrWrite data)
  else if o = FAB_SNAP_CTL then some (s.snapCtlWrite data)
  else if OAS_G_CTL 0 ≤ o ∧ o < OAS_G_CTL 128 then
    let i := (o - OAS_G_CTL 0) / 0x40
    if o = OAS_G_CTL i then some (s.oasCtlWrite i data) else if o = OAS_G_FPORT i then some (s.fportWrite i data) else none
  else if o = OAS_TEST_CTL then some (s.testCtlWrite data)
  else if o = OAS_CONF_CTL then some (s.confClear data)
  else none

/-- The blocks DRMC, CRY, LANE, FEC and GIO. -/
def State.busWriteMem (s : State) (o : Nat) (data : Data) : Option State :=
  if DRMC_CTL 0 ≤ o ∧ o < DRMC_CTL 32 then
    let p := (o - DRMC_CTL 0) / 0x1000
    if o = DRMC_CTL p then some (s.ctlWrite p data) else if o = DRMC_CMD p then some (s.ctlCmdWrite p data) else none
  else if DRMC_WIN_CFG 0 ≤ o ∧ o < DRMC_WIN_CFG 16 then
    let w := (o - DRMC_WIN_CFG 0) / 0x10
    if o = DRMC_WIN_CFG w then some (s.winCfgWrite w data) else if o = DRMC_WIN_MASK w then some (s.winMaskWrite w data) else none
  else if o = CRY_DRIFT_CTL then some (s.driftCtlWrite data)
  else if LANE_CFG 0 ≤ o ∧ o < LANE_CFG 48 then
    let n := (o - LANE_CFG 0) / 0x800
    if o = LANE_CFG n then some (s.laneCfg n data)
    else if o = LANE_RATE n then some (s.laneRateWrite n data)
    else if o = LANE_PORT n then some (s.lanePortWrite n data)
    else if o = LANE_ALIGN_CTL n then some (s.laneAlignWrite n data)
    else if o = LANE_MARGIN n then some (s.marginWrite n data)
    else none
  else if FEC_CTL 0 ≤ o ∧ o < FEC_CTL 12 ∧ o % 0x100 = 0 then some (s.fecCtlWrite ((o - FEC_CTL 0) / 0x100) data)
  else if GIO_CFG 0 ≤ o ∧ o < GIO_CFG 64 then some (s.gioCfgWrite ((o - GIO_CFG 0) / 8) data)
  else none

/-- The blocks TSU, MEA and THM. -/
def State.busWriteTime (s : State) (o : Nat) (data : Data) : Option State :=
  if o = TSU_CTL then some (s.tsuCtlWrite data)
  else if o = TSU_SYNC_IN then some (s.syncInRegWrite o TSU_SYNC_IN_info data)
  else if o = TSU_SYNC_LOAD_NS then some (s.syncInRegWrite o TSU_SYNC_LOAD_NS_info data)
  else if o = TSU_SYNC_LOAD_SEC then some (s.syncInRegWrite o TSU_SYNC_LOAD_SEC_info data)
  else if o = TSU_SYNC_OUT then some (s.outCtlWrite o TSU_SYNC_OUT_info data)
  else if o = TSU_BRIDGE then some (s.bridgeWrite data)
  else if TSU_CMP_CTL 0 ≤ o ∧ o < TSU_CMP_CTL 4 ∧ o % 0x20 = 0 then some (s.outCtlWrite o TSU_CMP_CTL_info data)
  else if MEA_CTL 0 ≤ o ∧ o < MEA_CTL 24 then
    let e := (o - MEA_CTL 0) / 0x100
    if o = MEA_CTL e then some (s.engCtlWrite e data)
    else if o = MEA_MAP e 0 then some (s.engMapWrite e 0 data)
    else if o = MEA_MAP e 1 then some (s.engMapWrite e 1 data)
    else if o = MEA_PROG_DATA e then some (s.progWrite e data)
    else if o = MEA_MEM_DATA e then some (s.memWrite e data)
    else none
  else if o = THM_CTL then some (s.thmCtlWrite data)
  else if o = THM_BUDGET then some (s.budgetWrite data)
  else none

/-- The block CAP. -/
def State.busWriteCap (s : State) (o : Nat) (data : Data) : Option State :=
  if CAP_Q_CTL 0 ≤ o ∧ o < CAP_Q_CTL 256 then
    let q := (o - CAP_Q_CTL 0) / 0x80
    if o = CAP_Q_CTL q then some (s.queueCtlWrite q data)
    else if o = CAP_Q_RING q ∨ o = CAP_Q_PORT q ∨ o = CAP_Q_DRAIN q then some (s.queueRegWrite q o data)
    else if o = CAP_Q_RD q then some (s.queueRdWrite q data)
    else if o = CAP_Q_CMD q then some (s.queueCmd q (data.toNat % 32))
    else none
  else if CAP_REGION_CFG 0 ≤ o ∧ o < CAP_REGION_CFG 64 then
    let g := (o - CAP_REGION_CFG 0) / 0x40
    if o = CAP_REGION_CFG g then some (s.regionCfgWrite g data) else if o = CAP_REGION_RD g then some (s.regionRdWrite g data) else none
  else if o = CAP_SEQ_CTL then some (s.seqCtlWrite data)
  else none

/-- A write's operation by block, none where it is the plain write of the fields. -/
def State.busOp (s : State) (o : Nat) (data : Data) : Option State :=
  if o < 0xC0000 ∨ 0x480000 ≤ o then s.busWriteM o data
  else if o < 0x180000 then s.busWriteSch o data
  else if o < 0x280000 then s.busWriteFab o data
  else if 0x3E0000 ≤ o ∧ o < 0x400000 then s.busWriteCap o data
  else if (0x3A0000 ≤ o ∧ o < 0x3E0000) ∨ (0x400000 ≤ o ∧ o < 0x440000) then s.busWriteTime o data
  else s.busWriteMem o data

/-- The plain write of a register's fields; one of RWA fields is ignored with an event (R12, R521). -/
def State.busPlain (s : State) (o : Nat) (data : Data) : State :=
  match regInfo o with
  | some r => if r.rwa ≠ 0 then s.raise 0x000D o 2 data else s.writeReg o data
  | none => s

/-- The write of a register. -/
def State.busPut (s : State) (o : Nat) (data : Data) : State := (s.busOp o data).getD (s.busPlain o data)

end Sys2Proof.Machine
end

