-- ==== Sys2Proof/Machine/Debug.lean ====
section
/-!
DEFINITION. Debug access and halt mode (R522 to R531, R536, R537), the JTAG port, and writes and reads of BAR0 (R12, R390, R544).
-/
namespace Sys2Proof.Machine

/-! ### Under which unlock (R522) -/

/-- Whether a path may reach the cores' registers: scope bit 0 for JTAG, bit 1 for the host link. -/
def State.dbgOpen (s : State) (debug : Bool) : Bool := if debug then s.jtagOpen else s.hostOpen

/-- A write without the unlock. -/
def State.dbgRefuse (s : State) : State := s.setFld DBG_ATTACH DBG_ATTACH_REFUSED 1

/-! ### Halting, resuming, stepping (R525, R528, R529) -/

/-- A write of CORE[c].CTL: a running core halts; a halted one resumes or, without RESUME, steps. -/
def State.coreCtlWrite (s : State) (c : Nat) (data : Data) : State :=
  if !s.coreHalted c then (if DBG_CORE_CTL_HALT.on data then s.askHalt c 0 else s)
  else if DBG_CORE_CTL_RESUME.on data then s.resumeNow c
  else if DBG_CORE_CTL_STEP.on data then s.haltNow c 2
  else s

/-- A halt forced: the reservation is cleared, and the core halts (R529). -/
def State.halt256 (s : State) (c : Nat) : State :=
  if (s.core c).haltWait then
    let s := s.setCore c { s.core c with reservation := false }
    let s := s.setFld (DBG_CORE_STATUS c) DBG_CORE_STATUS_LOCK_BROKEN 1
    s.haltNow c (s.fld (DBG_CORE_STATUS c) DBG_CORE_STATUS_CAUSE)
  else s

/-- HALT_RESERVATION_TIMEOUT (R529). -/
def execHaltReservationTimeout (c : CoreNo) (s : State) : Host.Outcome State Fault Refusal := done (s.halt256 c)

/-- How many comparators a core has (R537). -/
def cmpCount (c : Nat) : Nat := if c = 2 then 2 else 8

/-- Whether a comparator's value matches an access (R528). -/
def cmpHit (v : Data) (kind : CmpKind) (addr : Nat) : Bool :=
  let low := 2 ^ DBG_CORE_CMP_IGNORE.get v
  let k := DBG_CORE_CMP_KIND.get v
  let kindOk := match kind with
    | .fetch => k == 0
    | .read => k == 1 || k == 3
    | .write => k == 2 || k == 3
  DBG_CORE_CMP_EN.on v && kindOk && addr / low == DBG_CORE_CMP_ADDR.get v / low

/-- A core that has halted at a fetch stands at the instruction fetched (R528). -/
def State.haltedAt (s : State) (c pc : Nat) : State :=
  if s.coreHalted c then
    (s.setCore c { s.core c with regs := (s.core c).regs.set (fun _ => 0) 32 (BitVec.ofNat 32 pc) }).setFld (DBG_CORE_STATUS c) DBG_CORE_STATUS_PC pc
  else s

/-- The action of one matching comparator: a halt under an unlock, otherwise an event with the PC: a fetch is of the instruction at the PC, and
for a data access the PC is a free value. -/
def State.cmpAct (s : State) (c k : Nat) (kind : CmpKind) (addr : Nat) : State :=
  if s.fld (DBG_CORE_CMP c k) DBG_CORE_CMP_ACTION = 1 ∧ s.unlockScope ≠ 0 then
    if kind = .fetch ∧ !s.coreHalted c then (s.askHalt c 1).haltedAt c addr else s.askHalt c 1
  else if kind = .fetch then s.raise 0x0009 (16 * c + k) 0 (BitVec.ofNat 64 addr)
  else (s.spend 1).raise 0x0009 (16 * c + k) 0 (BitVec.ofNat 64 (Config.freeValue 32 s.freeCtr).toNat)

/-- The comparators that an access matches, lowest first: STATUS.CMP names the lowest, and all act. -/
def State.cmpMatch (s : State) (c : Nat) (kind : CmpKind) (addr : Nat) : State :=
  let l := (List.range (cmpCount c)).filter (fun k => cmpHit (s.reg (DBG_CORE_CMP c k)) kind addr)
  match l with
  | [] => s
  | k :: _ => l.foldl (fun s k => s.cmpAct c k kind addr) (s.setFld (DBG_CORE_STATUS c) DBG_CORE_STATUS_CMP k)

/-- CORE_COMPARATOR_MATCH (R528). A core that is halted or in reset makes no access. -/
def execCoreComparatorMatch (c : CoreNo) (kind : CmpKind) (addr : BitVec 32) (s : State) : Host.Outcome State Fault Refusal :=
  if s.coreHalted c ∨ s.clk.mgmtReset then done s else done (s.cmpMatch c kind addr.toNat)

/-! ### What a halted core is made to do (R526, R527) -/

/-- A write of DIR: one instruction of the core's set is executed. The encodings are not in the spec, so what it leaves in the core's
registers, its status word, its own address space and DDATA is free; the PC stays. -/
def State.dirWrite (s : State) (c : Nat) (_data : Data) : State :=
  if !s.coreHalted c ∨ s.fldOn (DBG_CORE_STATUS c) DBG_CORE_STATUS_DIR_BUSY then s.setFld (DBG_CORE_STATUS c) DBG_CORE_STATUS_DIR_FAULT 1
  else
    let pc := (s.core c).regs.get (fun _ => 0) 32
    let s := s.coreFree c
    let s := s.setCore c { s.core c with regs := (s.core c).regs.set (fun _ => 0) 32 pc }
    (s.setReg (DBG_CORE_DDATA c) (BitVec.ofNat 64 (Config.freeValue 32 s.freeCtr).toNat)).spend 1

/-- A failed access of ACC_DATA. -/
def State.accErr (s : State) (c : Nat) : State := s.setFld (DBG_CORE_STATUS c) DBG_CORE_STATUS_ACC_ERR 1

/-- A byte of a halted core's address space: what has been read or written of it since it halted, otherwise a free value. -/
def State.coreByte (s : State) (c a : Nat) : State × Byte :=
  match (s.core c).space.get (fun _ => none) a with
  | some b => (s, b)
  | none =>
    let b := Config.freeValue 8 s.freeCtr
    ((s.setCore c { s.core c with space := (s.core c).space.set (fun _ => none) a (some b) }).spend 1, b)

/-- So many bytes of it. -/
def State.coreBytes (s : State) (c a n : Nat) : State × List Byte :=
  (List.range n).foldl (fun p k => let r := p.1.coreByte c ((a + k) % 2 ^ 32); (r.1, p.2 ++ [r.2])) (s, [])

/-- Whether an access of the security controller's space meets the wall (R527). -/
def walled (c a n : Nat) : Bool := c == 2 && (List.range n).any (fun k => Config.keyWall ((a + k) % 2 ^ 32))

/-- The result of an access of a ring address: its value, or that it failed; one that must wait is put as a request of requester 20. -/
def State.accDone (s : State) (c st : Nat) (v : Data) (wait : State) (off : Nat) : State :=
  if st = memWait then { wait with mem := { wait.mem with dbgCore := c, dbgOff := off } }
  else if st ≠ 0 then s.accErr c
  else s.setReg (DBG_CORE_ACC_DATA c) v

/-- A read of a ring address (R526, R533). -/
def State.accRingRead (s : State) (c a : Nat) : State :=
  let t := Config.ringTarget a
  match t.1 with
  | 0 =>
    let r := s.dramAcc 20 t.2 (.read 8)
    r.1.accDone c r.2.1 (BitVec.ofNat 64 (ofBytes r.2.2)) (s.dramRequest 20 t.2 (.read 8)) (t.2 % 64)
  | 1 =>
    let i := t.2 / 2 ^ 24 % 128
    let r := s.oasAcc i 20 (t.2 % 2 ^ 24) (.read 8)
    r.1.accDone c r.2.1 (BitVec.ofNat 64 (ofBytes r.2.2)) (s.oasRequest i 20 (t.2 % 2 ^ 24) (.read 8)) 0
  | 2 => if t.2 % 8 = 0 then s.setReg (DBG_CORE_ACC_DATA c) (s.busValue t.2) else s.accErr c
  | _ => s.accErr c

/-- A write of a ring address. -/
def State.ringWrite (s : State) (c a : Nat) (data : Data) : State :=
  let t := Config.ringTarget a
  let w := MemAcc.write (toBytes 8 data.toNat)
  match t.1 with
  | 0 =>
    let r := s.dramAcc 20 t.2 w
    r.1.accDone c r.2.1 data (s.dramRequest 20 t.2 w) 0
  | 1 =>
    let i := t.2 / 2 ^ 24 % 128
    let r := s.oasAcc i 20 (t.2 % 2 ^ 24) w
    r.1.accDone c r.2.1 data (s.oasRequest i 20 (t.2 % 2 ^ 24) w) 0
  | 2 => if t.2 % 8 = 0 then s.busPut t.2 data else s.accErr c
  | _ => s.accErr c

/-- A read of ACC_DATA: the value stands in it afterwards. -/
def State.accRead (s : State) (c : Nat) : State :=
  let sp := s.fld (DBG_CORE_ACC_ADDR c) DBG_CORE_ACC_ADDR_SPACE
  let a := s.fld (DBG_CORE_ACC_ADDR c) DBG_CORE_ACC_ADDR_ADDR
  if sp = 2 then s.accRingRead c a
  else if sp = 3 ∨ !s.coreHalted c then (s.setReg (DBG_CORE_ACC_DATA c) 0).accErr c
  else if sp = 0 then
    if a < 34 then s.setReg (DBG_CORE_ACC_DATA c) (BitVec.ofNat 64 ((s.core c).regs.get (fun _ => 0) a).toNat)
    else (s.setReg (DBG_CORE_ACC_DATA c) 0).accErr c
  else if walled c a 8 then (s.setReg (DBG_CORE_ACC_DATA c) 0).accErr c
  else
    let r := s.coreBytes c a 8
    r.1.setReg (DBG_CORE_ACC_DATA c) (BitVec.ofNat 64 (ofBytes r.2))

/-- Bytes written to a halted core's address space. -/
def State.coreSpaceWrite (s : State) (c a : Nat) (bytes : List Byte) : State :=
  let space := bytes.zipIdx.foldl (fun m e => SMap.set m (fun _ => none) ((a + e.2) % 2 ^ 32) (some e.1)) (s.core c).space
  s.setCore c { s.core c with space := space }

/-- A write of ACC_DATA. A write of the PC shows in STATUS.PC. -/
def State.accWrite (s : State) (c : Nat) (data : Data) : State :=
  let s := s.setReg (DBG_CORE_ACC_DATA c) data
  let sp := s.fld (DBG_CORE_ACC_ADDR c) DBG_CORE_ACC_ADDR_SPACE
  let a := s.fld (DBG_CORE_ACC_ADDR c) DBG_CORE_ACC_ADDR_ADDR
  if sp = 2 then s.ringWrite c a data
  else if sp = 3 ∨ !s.coreHalted c then s.accErr c
  else if sp = 0 then
    if a < 34 then
      let s := s.setCore c { s.core c with regs := (s.core c).regs.set (fun _ => 0) a (BitVec.ofNat 32 data.toNat) }
      if a = 32 then s.setFld (DBG_CORE_STATUS c) DBG_CORE_STATUS_PC (data.toNat % 2 ^ 32) else s
    else s.accErr c
  else if walled c a 8 then s.accErr c
  else s.coreSpaceWrite c a (toBytes 8 data.toNat)

/-! ### The virtual terminal (R531) -/

/-- A host write of VT_TO. -/
def State.vtToWrite (s : State) (c : Nat) (data : Data) : State :=
  if s.fldOn (DBG_CORE_VT_STATUS c) DBG_CORE_VT_STATUS_TO_FULL then s.setFld (DBG_CORE_VT_STATUS c) DBG_CORE_VT_STATUS_OVERRUN 1
  else (s.setCore c { s.core c with vtTo := BitVec.ofNat 32 data.toNat }).setFld (DBG_CORE_VT_STATUS c) DBG_CORE_VT_STATUS_TO_FULL 1

/-- VT_TO_READ (R531): the core takes the word; one that is halted executes nothing. -/
def execVtToRead (c : SvNo) (s : State) : Host.Outcome State Fault Refusal :=
  if s.coreHalted c ∨ s.clk.mgmtReset then done s else done (s.setFld (DBG_CORE_VT_STATUS c) DBG_CORE_VT_STATUS_TO_FULL 0)

/-- VT_FROM_WRITE (R531). -/
def execVtFromWrite (c : SvNo) (word : BitVec 32) (s : State) : Host.Outcome State Fault Refusal :=
  if s.coreHalted c ∨ s.clk.mgmtReset then done s
  else
    let s := (s.setCore c { s.core c with vtFrom := word }).setFld (DBG_CORE_VT_STATUS c) DBG_CORE_VT_STATUS_FROM_FULL 1
    done (s.raiseIf (s.fldOn (DBG_CORE_VT_STATUS c) DBG_CORE_VT_STATUS_EVT) 0x000E c 0 (DBG_CORE_VT_STATUS c))

/-- What a read of VT_FROM returns. -/
def State.vtFromData (s : State) (c : Nat) : Data :=
  if s.fldOn (DBG_CORE_VT_STATUS c) DBG_CORE_VT_STATUS_FROM_FULL then BitVec.ofNat 64 (s.core c).vtFrom.toNat else 0

/-! ### The cores' registers on the bus (R522, R537) -/

/-- The core of an offset in DBG.CORE, and the offset within it. -/
def coreOff (o : Nat) : Option (Nat × Nat) := if 0x60100 ≤ o ∧ o < 0x60700 then some ((o - 0x60100) / 0x200, (o - 0x60100) % 0x200) else none

/-- Whether a register of a core belongs to its virtual terminal. -/
def isVt (k : Nat) : Bool := k == 0x80 || k == 0x88 || k == 0x90

/-- A write of a core's register. -/
def State.coreRegWrite (s : State) (c k : Nat) (data : Data) (debug : Bool) : State :=
  if isVt k then
    if c = 2 then s else if k = 0x80 then s.vtToWrite c data else s.busPlain (0x60100 + 0x200 * c + k) data
  else if !s.dbgOpen debug then s.dbgRefuse
  else if k = 0 then s.coreCtlWrite c data
  else if k = 0x10 then s.dirWrite c data
  else if k = 0x28 then s.accWrite c data
  else if 0x40 + 8 * cmpCount c ≤ k ∧ k < 0x80 then s
  else s.busPlain (0x60100 + 0x200 * c + k) data

/-- A read of a core's register: the state after it and the value. -/
def State.coreRegRead (s : State) (c k : Nat) (debug peek : Bool) : State × Data :=
  if isVt k then
    if c = 2 then (s, 0)
    else if k = 0x88 then
      (if peek then s else s.setFld (DBG_CORE_VT_STATUS c) DBG_CORE_VT_STATUS_FROM_FULL 0, s.vtFromData c)
    else (s, s.busValue (0x60100 + 0x200 * c + k))
  else if !s.dbgOpen debug then (s, 0)
  else if k = 0x28 then (s.accRead c, (s.accRead c).reg (DBG_CORE_ACC_DATA c))
  else if 0x40 + 8 * cmpCount c ≤ k ∧ k < 0x80 then (s, 0)
  else (s, s.busValue (0x60100 + 0x200 * c + k))

/-- CORE_HALT (R525). -/
def execCoreHalt (c : CoreNo) (data : Data) (s : State) : Host.Outcome State Fault Refusal :=
  done (s.regWrite (DBG_CORE_CTL c) data (fun s => s.coreRegWrite c 0 data false))
/-- CORE_RESUME (R519, R525). -/
def execCoreResume (c : CoreNo) (data : Data) (s : State) : Host.Outcome State Fault Refusal :=
  done (s.regWrite (DBG_CORE_CTL c) data (fun s => s.coreRegWrite c 0 data false))
/-- CORE_STEP (R525). -/
def execCoreStep (c : CoreNo) (data : Data) (s : State) : Host.Outcome State Fault Refusal :=
  done (s.regWrite (DBG_CORE_CTL c) data (fun s => s.coreRegWrite c 0 data false))
/-- DIR_WRITE (R526). -/
def execDirWrite (c : CoreNo) (data : Data) (s : State) : Host.Outcome State Fault Refusal :=
  done (s.regWrite (DBG_CORE_DIR c) data (fun s => s.coreRegWrite c 0x10 data false))
/-- ACC_DATA_WRITE (R526). -/
def execAccDataWrite (c : CoreNo) (data : Data) (s : State) : Host.Outcome State Fault Refusal :=
  done (s.regWrite (DBG_CORE_ACC_DATA c) data (fun s => s.coreRegWrite c 0x28 data false))
/-- VT_TO_WRITE (R531). -/
def execVtToWrite (c : SvNo) (data : Data) (s : State) : Host.Outcome State Fault Refusal :=
  done (s.regWrite (DBG_CORE_VT_TO c) data (fun s => s.coreRegWrite c 0x80 data false))

/-! ### Writes and reads of BAR0 (R12, R390, R533, R544) -/

/-- A write that reaches its register: ATTACH.HOST needs scope bit 1 (R536). -/
def State.busWrite (s : State) (o : Nat) (data : Data) (debug : Bool) : State :=
  match coreOff o with
  | some (c, k) => s.coreRegWrite c k data debug
  | none =>
    if o = DBG_ATTACH ∧ !s.hostOpen then s.busPlain o (DBG_ATTACH_HOST.put data 0) else s.busPut o data

/-- A read that reaches its register; a peek leaves no side effect. -/
def State.busRead (s : State) (o : Nat) (debug peek : Bool) : State × Data :=
  match coreOff o with
  | some (c, k) => s.coreRegRead c k debug peek
  | none =>
    let spent := (s.busValue o, if o = PWR_AON_COUNT ∨ o = SEC_DEBUG ∨ (SUP_WDOG 0 ≤ o ∧ o < SUP_WDOG 3) then s.spend 1 else s)
    (if peek then spent.2 else spent.2.busReadFx o, spent.1)

/-- A write of BAR0: held, lost or performed (R544). -/
def State.barWrite (s : State) (o : Nat) (data : Data) (debug : Bool) : State :=
  let r := s.regMeet o (some data) debug
  if r.2 = .go then r.1.busWrite o data debug else r.1

/-- A read of BAR0, answered by `f`; one held is answered when it is performed. -/
def State.barRead (s : State) (o : Nat) (debug peek : Bool) (f : State → Data → State) : State :=
  let r := s.regMeet o none debug
  match r.2 with
  | .go => let q := r.1.busRead o debug peek; f q.1 q.2
  | .lost => f r.1 0
  | .held => r.1

/-- BAR0_WRITE (R12, R390, R521): aligned 64-bit writes alone. A write of 32 bits of the MSI-X table is made as PCI Express lays down (R392). -/
def execBar0Write (off : Nat) (size : Nat) (data : Data) (s : State) : Host.Outcome State Fault Refusal :=
  if !s.hostReaches ∨ 2 ^ 26 ≤ off then done s
  else if size = 8 ∧ off % 8 = 0 then done (s.barWrite off data false)
  else if size = 4 ∧ off % 4 = 0 ∧ 0xA0000 ≤ off ∧ off < 0xA2000 then
    let o := off / 8 * 8
    done (s.barWrite o (maskWrite (s.busValue o) (data <<< (off % 8 * 8)) ((2 ^ 32 - 1) * 2 ^ (off % 8 * 8))) false)
  else done (s.raise 0x000D off 1 data)

/-- The bytes that a read of so many bytes at an offset returns of the register's value. -/
def readBytes (off size : Nat) (v : Data) : List Byte :=
  if size = 8 ∧ off % 8 = 0 then toBytes 8 v.toNat
  else if size = 4 ∧ off % 4 = 0 then toBytes 4 (v.toNat / 2 ^ (off % 8 * 8))
  else List.replicate size 0

/-- Whether a read has the size and alignment of R390. -/
def readFits (off size : Nat) : Bool := (size == 8 && off % 8 == 0) || (size == 4 && off % 4 == 0)

/-- RCL_READ (R12, R390, R533): a read of a register; one of another size or alignment completes with zeros and without side effect. -/
def execRclRead (off : Nat) (size : Nat) (path : ReadPath) (s : State) : Host.Outcome State Fault Refusal :=
  let debug := path == .debug
  if (!debug && !s.hostReaches) ∨ 2 ^ 26 ≤ off then done s
  else if readFits off size then
    let peek := debug || s.fldOn DBG_PEEK DBG_PEEK_PEEK
    done (s.barRead (off / 8 * 8) debug peek (fun s v => s.answerHost (some (readBytes off size v))))
  else done (s.answerHost (some (List.replicate size 0)))

/-- ACC_DATA_READ (R526). -/
def execAccDataRead (c : CoreNo) (s : State) : Host.Outcome State Fault Refusal :=
  done (s.regRead (DBG_CORE_ACC_DATA c) false (fun s =>
    let r := s.coreRegRead c 0x28 false false
    r.1.answerReg r.2))

/-- VT_FROM_READ (R531). -/
def execVtFromRead (c : SvNo) (path : ReadPath) (s : State) : Host.Outcome State Fault Refusal :=
  done (s.regRead (DBG_CORE_VT_FROM c) (path == .debug) (fun s =>
    let r := s.coreRegRead c 0x88 (path == .debug) (path == .debug || s.fldOn DBG_PEEK DBG_PEEK_PEEK)
    r.1.answerReg r.2))

/-! ### Accesses held for a domain (R380, R544) -/

/-- The answer of a DBGREG access. -/
def State.jtagAnswer (s : State) (v : Data) : State := { s with jtag := { s.jtag with dr := v, done := true, err := false } }

/-- One held access performed; a read under DBG.PEEK leaves no side effect, as one of the debug port (R12, R533). -/
def State.heldGo (s : State) (h : HeldReg) : State :=
  match h.write with
  | some data => s.barWrite h.off data h.debug
  | none => s.barRead h.off h.debug (h.debug || s.fldOn DBG_PEEK DBG_PEEK_PEEK) (fun s v => if h.debug then (s.answerReg v).jtagAnswer v else s.answerReg v)

/-- The accesses held for a domain taken out of the list. -/
def State.takeHeld (s : State) (d : Nat) : State × List HeldReg :=
  ({ s with pwr := { s.pwr with heldRegs := s.pwr.heldRegs.filter (fun h => h.dom != d) } }, s.pwr.heldRegs.filter (fun h => h.dom == d))

/-- Held accesses performed in order as their domain takes access. -/
def State.heldAllGo (s : State) (d : Nat) : State :=
  let r := s.takeHeld d
  r.2.foldl (fun s h => s.heldGo h) r.1

/-- Held accesses that the wake came too late for: reads answer zero, writes are lost. -/
def State.heldAllLost (s : State) (d : Nat) : State :=
  let r := s.takeHeld d
  r.2.foldl (fun s h => if h.write.isNone then s.answerReg 0 else s) r.1

/-- DOMAIN_WAKE_END (R380, R506). -/
def execDomainWakeEnd (dom : DomNo) (s : State) : Host.Outcome State Fault Refusal := done ((s.domWakeEnd dom.toNat).heldAllGo dom.toNat)

/-- DOMAIN_RESET_RELEASE (R493). -/
def execDomainResetRelease (dom : DomNo) (s : State) : Host.Outcome State Fault Refusal :=
  done (((s.domResetEnd dom.toNat).recRun).heldAllGo dom.toNat)

/-- WAKE_ON_ACCESS_TIMEOUT (R380). -/
def execWakeOnAccessTimeout (dom : DomNo) (s : State) : Host.Outcome State Fault Refusal :=
  done ((s.wakeTimeout dom.toNat).heldAllLost dom.toNat)

/-! ### The JTAG port (R523, R524, R536) -/

/-- An instruction selected: the boundary register drives under EXTEST alone, and selecting UNLOCK empties its buffer. -/
def State.jtagSelect (s : State) (ir : BitVec 8) : State :=
  let j := s.jtag
  let j := if ir = 0x11 ∧ j.ir ≠ 0x11 then { j with unlockBuf := [], unlockDone := false, unlockStatus := 0 } else j
  { s with jtag := { j with ir := ir, driving := ir == 0x00 } }

/-- EXTEST (R523): the cells drive the pins, in the order of the contact list file, which is not in the spec. Refused, it acts as
BYPASS. -/
def execExtest (cells : List Bool) (s : State) : Host.Outcome State Fault Refusal :=
  if s.pins.cfgDone ∧ !s.jtagOpen then done ((s.jtagSelect 0xFF).raise 0x000D 0 3 0)
  else
    let s := s.jtagSelect 0x00
    done { s with jtag := { s.jtag with boundary := cells } }

/-- SAMPLE_PRELOAD (R523): the levels of the pins are captured, in the order of the contact list file: a free value. -/
def execSamplePreload (cells : List Bool) (s : State) : Host.Outcome State Fault Refusal :=
  let s := s.jtagSelect 0x01
  let tdo := Config.freeValue 64 s.freeCtr
  done (({ s with jtag := { s.jtag with boundary := cells, tdo := tdo } }).spend 1)

/-- DEVINFO (R523). -/
def execDevinfo (s : State) : Host.Outcome State Fault Refusal :=
  let s := s.jtagSelect 0x02
  done { s with jtag := { s.jtag with tdo := s.glbId } }

/-- BYPASS (R523): any code that is no other instruction's. -/
def execBypass (code : BitVec 8) (s : State) : Host.Outcome State Fault Refusal :=
  if code = 0x00 ∨ code = 0x01 ∨ code = 0x02 ∨ code = 0x10 ∨ code = 0x11 then done s else done (s.jtagSelect code)

/-- TEST_LOGIC_RESET (R536). -/
def execTestLogicReset (s : State) : Host.Outcome State Fault Refusal := done ((s.jtagSelect 0xFF).setFld DBG_ATTACH DBG_ATTACH_JTAG 0)

/-- Blocks that DBGREG reaches without an unlock (R523): GLB and SEC. -/
def jtagReach (o : Nat) : Bool := decide (o < 0x10000) || (decide (0x40000 ≤ o) && decide (o < 0x50000))


/-- DBGREG (R523): `dr` as Update-DR finds it. A read that waits for its domain is not DONE until then. -/
def execDbgreg (dr : BitVec 88) (s : State) : Host.Outcome State Fault Refusal :=
  let s := (s.jtagSelect 0x10).setFld DBG_ATTACH DBG_ATTACH_JTAG 1
  let s := { s with jtag := { s.jtag with done := false, err := false } }
  let o := natBits dr.toNat 64 23 * 8
  if !s.jtagOpen ∧ !jtagReach o then done { s with jtag := { s.jtag with done := true, err := true } }
  else if natBit dr.toNat 87 then
    let s := s.barWrite o (BitVec.ofNat 64 (natBits dr.toNat 0 64)) true
    done { s with jtag := { s.jtag with done := true, err := false } }
  else done (s.barRead o true true (fun s v => s.jtagAnswer v))

/-- The item that the unlock buffer holds: it is on no ring (R524). -/
def unlockItem (b : List Byte) : Item :=
  { ring := 256, wsn := 0, desc := BitVec.ofNat 512 (ofBytes (b.take 64)), ext := some (BitVec.ofNat 512 (ofBytes ((b.drop 64).take 64))) }

/-- An unlock by JTAG ended with a status. -/
def State.unlockEnd (s : State) (st : Nat) : State := { s with jtag := { s.jtag with unlockDone := true, unlockStatus := st } }

/-- The counter accepted, with the ceiling's write where it is reached (R474). -/
def State.unlockAccept (s : State) (it : Item) : State :=
  let k := s.slotKey it.slot
  let s := if k.ceiling ≤ it.counter ∧ k.ceiling < 0xFFFFFFFF then s.setSlotKey it.slot { k with ceiling := ceilingAbove it.counter } else s
  s.authAccept it

/-- The full buffer verified and performed as DEBUG_UNLOCK (R471, R472, R479, R524). -/
def State.unlockRun (s : State) (b : List Byte) : State :=
  let it := unlockItem b
  let scope := it.num 28 1
  match s.descFault it with
  | some st => s.unlockEnd st
  | none =>
    if it.opc ≠ opDebugUnlock then s.unlockEnd stRefused
    else match s.authFault it with
    | some st => s.unlockEnd st
    | none =>
      let s := s.unlockAccept it
      if scope = 0 then s.endUnlock.unlockEnd stSuccess
      else match s.unlockBy scope (it.num 32 4) ((b.drop 128).take (it.num 24 4)) with
        | some s => s.unlockEnd stSuccess
        | none => s.unlockEnd stRefused

/-- UNLOCK (R524): a word appended; when the certificate's last byte has arrived, the security controller performs the item. A buffer that
is full takes no more. -/
def execUnlock (word : BitVec 32) (s : State) : Host.Outcome State Fault Refusal :=
  let s := s.jtagSelect 0x11
  let b := (s.jtag.unlockBuf ++ toBytes 4 word.toNat).take 4224
  let s := { s with jtag := { s.jtag with unlockBuf := b } }
  let need := 128 + (unlockItem b).num 24 4
  if 128 ≤ b.length ∧ need ≤ b.length ∧ !s.jtag.unlockDone ∧ !s.coreHalted 2 ∧ !s.clk.mgmtReset then done (s.unlockRun b) else done s

end Sys2Proof.Machine
end

