-- ==== Sys2Proof/Machine/Edge.lean ====
section
/-!
DEFINITION. One FCK edge of the whole fabric (R30, R46, R52, R65). Effects that belong to an edge have rows of their own, given
between two FABRIC_CYCLEs; what was not given is performed as the next cycle begins (DESIGN CHOICE, log entry 39).
-/
namespace Sys2Proof.Machine

/-- Every player that holds an item or feeds a lane. -/
def State.playerList (s : State) : List Nat := s.ply.keys.filter (fun p => decide (p < 48))

/-- What belongs to the edge that has passed and was not given as a command of its own; the two counts are moved by a load alone. -/
def State.edgeRest (s : State) : State :=
  let s := s.syncApply
  let counts := s.time
  let s := s.ergList.foldl (fun s i => (s.doSwitch i).settleEnd i) s
  let s := match s.fab.snap with
    | some (0, _) => s.snapshot
    | _ => s
  let s := (List.range 5).foldl (fun s k => s.outDue k) s
  let s := s.fportList.foldl (fun s i => (s.fportCommand i).fportResponse i) s.stampWrapped
  let s := s.portList.foldl (fun s q => s.recordBeat q) ((s.queueActions 0).queueActions 1)
  let s := (s.cap.qs.keys.filter (fun q => decide (q < 256))).foldl (fun s q => s.postExpired q) s
  let s := s.playerList.foldl (fun s p => (s.frameEnd p).startReached p) s
  let s := s.seqExpireAll.domEdge
  let s := (List.range 128).foldl (fun s i => if (s.taskAt i).isSome then (s.taskDeliver i).taskTake i else s) s
  { s with time := { counts with lineAt := s.time.lineAt, wrapDue := s.time.wrapDue, outs := s.time.outs, outHigh := s.time.outHigh, outTick := s.time.outTick } }

/-- An upset of a stored block-memory word (R41). -/
def State.upset (s : State) (u : BmUpset) : State :=
  { s with fab := { s.fab with bm := s.fab.bm.upd (fun _ => 0) (bmKey u.dune u.mem u.addr) (fun w => w ^^^ u.flip) } }

/-- An upset of a stored word of an oasis, where the word stands (R251, R262). -/
def State.upsetOas (s : State) (u : OasUpset) : State :=
  let i := u.group.val
  let w := u.word.val
  let g := s.oasGrp i
  match g.entryOf w with
  | some e =>
    match g.spare (oasBank w) e with
    | some x => s.setOasGrp i (g.setSpare (oasBank w) e { x with word := x.word ^^^ u.flip })
    | none => s
  | none => { s with oas := { s.oas with words := s.oas.words.upd (fun _ => 0) (oasKey i w) (fun v => v ^^^ u.flip) } }

/-- An upset of a line of DRAM, where the line stands (R281, R288). -/
def State.upsetDram (s : State) (u : DramUpset) : State :=
  let p := u.ctl.val
  let line := u.line.val
  let c := s.ctlAt p
  let hit : DramLine → DramLine := fun l => { data := l.data ^^^ u.flip, ent := l.ent ^^^ u.ent }
  match c.entryOf line with
  | some e =>
    match c.spare e with
    | some x => s.setCtl p (c.setSpare e (some { x with val := hit x.val }))
    | none => s
  | none => s.setCtl p { c with lines := c.lines.upd (fun _ => {}) line hit }

/-- What a controller's next read of a line will meet on the link (R272, R287). -/
def State.linkErr (s : State) (u : LinkErr) : State :=
  let c := s.ctlAt u.ctl
  s.setCtl u.ctl { c with linkErrs := c.linkErrs ++ [u.errs] }

/-- A lane over an edge with what the matrix learns from its decoder (R119, R163). While the gate tree stops the clock of its quad it stands
still (R489). -/
def State.laneAtEdge (s : State) (inp : FabricIn) (n : Nat) : State :=
  if !s.nodeRuns (0x200 + n / 4) 2 then s else
  let syms := ((inp.rx.find? (fun l => l.lane.val == n)).map (·.syms)).getD []
  let t := (s.setLane n { s.lane n with badCw := false }).laneEdge n syms
  if (t.lane n).badCw then t.pulseNext (t.laneLines n 2) else t

/-- A pin over an edge. -/
def State.gioAtEdge (s : State) (inp : FabricIn) (k : Nat) : State :=
  s.gioEdge k (((inp.gio.find? (fun g => g.pin.val == k)).map (·.levels)).getD []) (s.gioOe k)

/-- What every hard block drives on the wells, and every lane and pin, at this edge (R52). -/
def State.driveBlocks (s : State) (inp : FabricIn) : State :=
  let s := s.portList.foldl (fun s q => s.driveCredit q) s
  let s := s.laneList.foldl (fun s n => s.laneAtEdge inp n) s
  let s := (List.range 64).foldl (fun s k => s.gioAtEdge inp k) s
  let s := s.playerList.foldl (fun s p => (s.plyDrive p).plyLift p) s
  (List.range 128).foldl (fun s i => s.driveTask i) s

/-- A pending snapshot one edge nearer, and one that its trigger line asks for at this edge (R83). -/
def State.snapEdge (s : State) : State :=
  let s := match s.fab.snap with
    | some (n, ex) => { s with fab := { s.fab with snap := some (n - 1, ex) } }
    | none => s
  let t := s.fld FAB_SNAP_CTL FAB_SNAP_CTL_TRIG
  if s.fldOn FAB_SNAP_CTL FAB_SNAP_CTL_ARM ∧ s.line t ∧ !s.lineBefore t then s.askSnap 6 true else s

/-- One FCK edge. Words received with errors are taken in increasing well number (R342). Nothing but the time unit moves the counts. -/
def State.cycle (s : State) (inp : FabricIn) : State :=
  let s := s.edgeRest.timeEdge
  let counts := s.time
  let s := (sortOn (fun f => 2 * crossKey f.x.well f.x.bundle f.x.bond + bit01 f.beat) inp.wellFlips).foldl (fun s f => s.wellWordErr f) s
  let s := s.dirEdge inp.dirFaults
  let s := inp.bmUpsets.foldl (fun s u => s.upset u) s
  let s := inp.dramUpsets.foldl (fun s u => s.upsetDram u) (inp.oasUpsets.foldl (fun s u => s.upsetOas u) s)
  let s := inp.linkErrs.foldl (fun s u => s.linkErr u) s
  let old := s
  let s := s.ergsEdge.shiftChans.driveWells
  let s := (s.driveBlocks inp).takeInputs old
  let s := (List.range 64).foldl (fun s n => s.lockCompare n) s
  let s := s.matrixEdge.seqEdge.driveAction.snapEdge.traceEdge
  let s := s.playerList.foldl (fun s p => s.plyFetch p) s
  { s with time := counts }

/-- FABRIC_CYCLE (R30): while the root runs. -/
def execFabricCycle (inp : FabricIn) (s : State) : Host.Outcome State Fault Refusal :=
  if s.clk.rootRun then done (s.cycle inp) else done s

end Sys2Proof.Machine
end

