-- ==== Sys2Proof/Machine/Dispatch.lean ====
section
/-!
DEFINITION. One arm per command.
-/
namespace Sys2Proof.Machine

def exec (i : Instr) (s : State) : Host.Outcome State Fault Refusal :=
  match i with
  | .sqTail r tail hw failAt => Sys2Proof.Machine.execSqTail r tail hw failAt s
  | .cqHead r head => Sys2Proof.Machine.execCqHead r head s
  | .acceptResume r hw failAt => Sys2Proof.Machine.execAcceptResume r hw failAt s
  | .spillReturn r copyBad failAt => Sys2Proof.Machine.execSpillReturn r copyBad failAt s
  | .tagAssign src => Sys2Proof.Machine.execTagAssign src s
  | .counterCeilingWrite slot ok => Sys2Proof.Machine.execCounterCeilingWrite slot ok s
  | .sandglassRelease l => Sys2Proof.Machine.execSandglassRelease l s
  | .itemDispatch ex => Sys2Proof.Machine.execItemDispatch ex s
  | .journalReadComplete ex res => Sys2Proof.Machine.execJournalReadComplete ex res s
  | .itemFinish ex => Sys2Proof.Machine.execItemFinish ex s
  | .completionRelease r => Sys2Proof.Machine.execCompletionRelease r s
  | .completionConfirm r => Sys2Proof.Machine.execCompletionConfirm r s
  | .moderationExpiry r => Sys2Proof.Machine.execModerationExpiry r s
  | .ringEnable r data hw => Sys2Proof.Machine.execRingEnable r data hw s
  | .controlBlockCheck r res => Sys2Proof.Machine.execControlBlockCheck r res s
  | .ringDisable r data => Sys2Proof.Machine.execRingDisable r data s
  | .journalRegisterWrite data => Sys2Proof.Machine.execJournalRegisterWrite data s
  | .bar4Access off acc => Sys2Proof.Machine.execBar4Access off acc s
  | .bar0Write off size data => Sys2Proof.Machine.execBar0Write off size data s
  | .rclRead off size path => Sys2Proof.Machine.execRclRead off size path s
  | .evtBaseWrite data => Sys2Proof.Machine.execEvtBaseWrite data s
  | .evtHeadWrite data => Sys2Proof.Machine.execEvtHeadWrite data s
  | .ejectFall => Sys2Proof.Machine.execEjectFall s
  | .departureReadComplete res => Sys2Proof.Machine.execDepartureReadComplete res s
  | .ejectRise => Sys2Proof.Machine.execEjectRise s
  | .surpriseRemoval => Sys2Proof.Machine.execSurpriseRemoval s
  | .linkReturn => Sys2Proof.Machine.execLinkReturn s
  | .nop => Sys2Proof.Machine.execNop s
  | .dma e hostFail => Sys2Proof.Machine.execDma e hostFail s
  | .play p => Sys2Proof.Machine.execPlay p s
  | .ergSwitch ix => Sys2Proof.Machine.execErgSwitch ix s
  | .task ix => Sys2Proof.Machine.execTask ix s
  | .taskDelivery ix => Sys2Proof.Machine.execTaskDelivery ix s
  | .taskDoneWord ix => Sys2Proof.Machine.execTaskDoneWord ix s
  | .engineLoad e => Sys2Proof.Machine.execEngineLoad e s
  | .engineRun e => Sys2Proof.Machine.execEngineRun e s
  | .captureCmd => Sys2Proof.Machine.execCaptureCmd s
  | .cancel => Sys2Proof.Machine.execCancel s
  | .readback hostFail => Sys2Proof.Machine.execReadback hostFail s
  | .attest hostFail => Sys2Proof.Machine.execAttest hostFail s
  | .imageLoad hostFail => Sys2Proof.Machine.execImageLoad hostFail s
  | .imageFrame res storeOk => Sys2Proof.Machine.execImageFrame res storeOk s
  | .ergReserve => Sys2Proof.Machine.execErgReserve s
  | .keyDomain hostFail => Sys2Proof.Machine.execKeyDomain hostFail s
  | .keyStrictWindow => Sys2Proof.Machine.execKeyStrictWindow s
  | .keyOasisRights => Sys2Proof.Machine.execKeyOasisRights s
  | .keySlotKey hostFail => Sys2Proof.Machine.execKeySlotKey hostFail s
  | .keySlotErase => Sys2Proof.Machine.execKeySlotErase s
  | .driftStart hostFail => Sys2Proof.Machine.execDriftStart hostFail s
  | .firmwareUpdate hostFail storeOk => Sys2Proof.Machine.execFirmwareUpdate hostFail storeOk s
  | .stackRepairLane => Sys2Proof.Machine.execStackRepairLane s
  | .stackRepairOasis => Sys2Proof.Machine.execStackRepairOasis s
  | .stackRepairDram => Sys2Proof.Machine.execStackRepairDram s
  | .eraseImageSlots => Sys2Proof.Machine.execEraseImageSlots s
  | .eraseKeyDomains => Sys2Proof.Machine.execEraseKeyDomains s
  | .eraseOases => Sys2Proof.Machine.execEraseOases s
  | .eraseSlots => Sys2Proof.Machine.execEraseSlots s
  | .debugUnlock hostFail => Sys2Proof.Machine.execDebugUnlock hostFail s
  | .debugUnlockExpiry => Sys2Proof.Machine.execDebugUnlockExpiry s
  | .ownerTransfer hostFail => Sys2Proof.Machine.execOwnerTransfer hostFail s
  | .reconciliation pageRead badRings => Sys2Proof.Machine.execReconciliation pageRead badRings s
  | .fabricCycle inp => Sys2Proof.Machine.execFabricCycle inp s
  | .ctxGo ix data => Sys2Proof.Machine.execCtxGo ix data s
  | .switchEdge ix => Sys2Proof.Machine.execSwitchEdge ix s
  | .settleEnd ix => Sys2Proof.Machine.execSettleEnd ix s
  | .isoForceSet ix data => Sys2Proof.Machine.execIsoForceSet ix data s
  | .isoForceClear ix data => Sys2Proof.Machine.execIsoForceClear ix data s
  | .isoRelease ix data => Sys2Proof.Machine.execIsoRelease ix data s
  | .illopClear data => Sys2Proof.Machine.execIllopClear data s
  | .bmPerrClear data => Sys2Proof.Machine.execBmPerrClear data s
  | .dirPerrClear data => Sys2Proof.Machine.execDirPerrClear data s
  | .snapPlaneReserve ix data => Sys2Proof.Machine.execSnapPlaneReserve ix data s
  | .snapPlaneRelease ix data => Sys2Proof.Machine.execSnapPlaneRelease ix data s
  | .snapFree ix data => Sys2Proof.Machine.execSnapFree ix data s
  | .snapGo data => Sys2Proof.Machine.execSnapGo data s
  | .snapshotEdge => Sys2Proof.Machine.execSnapshotEdge s
  | .ergActivation => Sys2Proof.Machine.execErgActivation s
  | .planeScrubWord ix plane dune part word flips => Sys2Proof.Machine.execPlaneScrubWord ix plane dune part word flips s
  | .powerUpLoad dies => Sys2Proof.Machine.execPowerUpLoad dies s
  | .laneCfgWrite n data => Sys2Proof.Machine.execLaneCfgWrite n data s
  | .rxEnable n data => Sys2Proof.Machine.execRxEnable n data s
  | .txEnable n data => Sys2Proof.Machine.execTxEnable n data s
  | .rxDisable n data => Sys2Proof.Machine.execRxDisable n data s
  | .txDisable n data => Sys2Proof.Machine.execTxDisable n data s
  | .lanePortWrite n data => Sys2Proof.Machine.execLanePortWrite n data s
  | .signalDetect n => Sys2Proof.Machine.execSignalDetect n s
  | .rxLock n => Sys2Proof.Machine.execRxLock n s
  | .txPllLock n => Sys2Proof.Machine.execTxPllLock n s
  | .alignmentGained n => Sys2Proof.Machine.execAlignmentGained n s
  | .alignmentLost n => Sys2Proof.Machine.execAlignmentLost n s
  | .signalLost n present => Sys2Proof.Machine.execSignalLost n present s
  | .marginGo n data => Sys2Proof.Machine.execMarginGo n data s
  | .marginPointEnd n errors => Sys2Proof.Machine.execMarginPointEnd n errors s
  | .fecLatch q data => Sys2Proof.Machine.execFecLatch q data s
  | .fecClear q data => Sys2Proof.Machine.execFecClear q data s
  | .dawnMatch n peak mv => Sys2Proof.Machine.execDawnMatch n peak mv s
  | .gioCfgWrite k data => Sys2Proof.Machine.execGioCfgWrite k data s
  | .recordBeat q => Sys2Proof.Machine.execRecordBeat q s
  | .postCountExpiry q => Sys2Proof.Machine.execPostCountExpiry q s
  | .queueEnable q data => Sys2Proof.Machine.execQueueEnable q data s
  | .queueDisable q data => Sys2Proof.Machine.execQueueDisable q data s
  | .queueConfigWrite q reg data => Sys2Proof.Machine.execQueueConfigWrite q reg data s
  | .queueRdWrite q data => Sys2Proof.Machine.execQueueRdWrite q data s
  | .cmdDropRem q => Sys2Proof.Machine.execCmdDropRem q s
  | .cmdStart q => Sys2Proof.Machine.execCmdStart q s
  | .cmdStop q => Sys2Proof.Machine.execCmdStop q s
  | .cmdFreeze q => Sys2Proof.Machine.execCmdFreeze q s
  | .cmdRearm q => Sys2Proof.Machine.execCmdRearm q s
  | .drainBurst q => Sys2Proof.Machine.execDrainBurst q s
  | .drainWriteAck q => Sys2Proof.Machine.execDrainWriteAck q s
  | .drainWriteError q => Sys2Proof.Machine.execDrainWriteError q s
  | .tailTimerExpiry q => Sys2Proof.Machine.execTailTimerExpiry q s
  | .regionCfgWrite g data => Sys2Proof.Machine.execRegionCfgWrite g data s
  | .regionRdWrite g data => Sys2Proof.Machine.execRegionRdWrite g data s
  | .sequencerRun data => Sys2Proof.Machine.execSequencerRun data s
  | .swtrig data => Sys2Proof.Machine.execSwtrig data s
  | .seqCounterExpiry c => Sys2Proof.Machine.execSeqCounterExpiry c s
  | .seqTimerExpiry c => Sys2Proof.Machine.execSeqTimerExpiry c s
  | .queueAction layer => Sys2Proof.Machine.execQueueAction layer s
  | .playerCfgWrite p reg data => Sys2Proof.Machine.execPlayerCfgWrite p reg data s
  | .primeReached p => Sys2Proof.Machine.execPrimeReached p s
  | .startTimeReached p => Sys2Proof.Machine.execStartTimeReached p s
  | .playerFrameEnd p => Sys2Proof.Machine.execPlayerFrameEnd p s
  | .journalLimitRead p res => Sys2Proof.Machine.execJournalLimitRead p res s
  | .playerReadError p status => Sys2Proof.Machine.execPlayerReadError p status s
  | .laneRunLost p => Sys2Proof.Machine.execLaneRunLost p s
  | .timeSet data => Sys2Proof.Machine.execTimeSet data s
  | .reEpoch data => Sys2Proof.Machine.execReEpoch data s
  | .syncInPulse tick => Sys2Proof.Machine.execSyncInPulse tick s
  | .syncLoadApply => Sys2Proof.Machine.execSyncLoadApply s
  | .syncOutPulse => Sys2Proof.Machine.execSyncOutPulse s
  | .compareFire k => Sys2Proof.Machine.execCompareFire k s
  | .stampWrap => Sys2Proof.Machine.execStampWrap s
  | .nowRead path => Sys2Proof.Machine.execNowRead path s
  | .bridgeEnd data => Sys2Proof.Machine.execBridgeEnd data s
  | .bridgeHoldExpiry => Sys2Proof.Machine.execBridgeHoldExpiry s
  | .engineNop e => Sys2Proof.Machine.execEngineNop e s
  | .mac e => Sys2Proof.Machine.execMac e s
  | .adda e => Sys2Proof.Machine.execAdda e s
  | .accop e => Sys2Proof.Machine.execAccop e s
  | .nar e => Sys2Proof.Machine.execNar e s
  | .engineCmp e => Sys2Proof.Machine.execEngineCmp e s
  | .hist e => Sys2Proof.Machine.execHist e s
  | .divs e => Sys2Proof.Machine.execDivs e s
  | .marg e => Sys2Proof.Machine.execMarg e s
  | .engineMarginEnd e lane errors => Sys2Proof.Machine.execEngineMarginEnd e lane errors s
  | .cntr e => Sys2Proof.Machine.execCntr e s
  | .setx e => Sys2Proof.Machine.execSetx e s
  | .addx e => Sys2Proof.Machine.execAddx e s
  | .loop e => Sys2Proof.Machine.execLoop e s
  | .jmp e => Sys2Proof.Machine.execJmp e s
  | .ldm e => Sys2Proof.Machine.execLdm e s
  | .stm e => Sys2Proof.Machine.execStm e s
  | .engineTransferLine e status => Sys2Proof.Machine.execEngineTransferLine e status s
  | .setb e => Sys2Proof.Machine.execSetb e s
  | .wait e => Sys2Proof.Machine.execWait e s
  | .trig e => Sys2Proof.Machine.execTrig e s
  | .evt e => Sys2Proof.Machine.execEvt e s
  | .halt e => Sys2Proof.Machine.execHalt e s
  | .engineEnable e data => Sys2Proof.Machine.execEngineEnable e data s
  | .engineStep e data => Sys2Proof.Machine.execEngineStep e data s
  | .engineResume e data => Sys2Proof.Machine.execEngineResume e data s
  | .engineAbort e data => Sys2Proof.Machine.execEngineAbort e data s
  | .engineClear e data => Sys2Proof.Machine.execEngineClear e data s
  | .engineMapWrite e m data => Sys2Proof.Machine.execEngineMapWrite e m data s
  | .progDataAccess e acc => Sys2Proof.Machine.execProgDataAccess e acc s
  | .memDataAccess e acc => Sys2Proof.Machine.execMemDataAccess e acc s
  | .oasisPortCommand ix => Sys2Proof.Machine.execOasisPortCommand ix s
  | .oasisPortResponse ix => Sys2Proof.Machine.execOasisPortResponse ix s
  | .oasisRingAccess ix req off acc => Sys2Proof.Machine.execOasisRingAccess ix req off acc s
  | .oasisWriteback ix clean => Sys2Proof.Machine.execOasisWriteback ix clean s
  | .oasisSelfTest layer bad => Sys2Proof.Machine.execOasisSelfTest layer bad s
  | .oasisSelfTestEnd layer => Sys2Proof.Machine.execOasisSelfTestEnd layer s
  | .oasisTestStateWrite ix data => Sys2Proof.Machine.execOasisTestStateWrite ix data s
  | .oasisTestWrite data => Sys2Proof.Machine.execOasisTestWrite data s
  | .oasisTestRead data => Sys2Proof.Machine.execOasisTestRead data s
  | .oasisFportWrite ix data => Sys2Proof.Machine.execOasisFportWrite ix data s
  | .confClear data => Sys2Proof.Machine.execConfClear data s
  | .dramRequest p failReads => Sys2Proof.Machine.execDramRequest p failReads s
  | .throttleHoldExpiry p req bank => Sys2Proof.Machine.execThrottleHoldExpiry p req bank s
  | .activationCounterClear p => Sys2Proof.Machine.execActivationCounterClear p s
  | .dramWriteback p clean => Sys2Proof.Machine.execDramWriteback p clean s
  | .patrolScrubLine p failReads => Sys2Proof.Machine.execPatrolScrubLine p failReads s
  | .refresh p bank own => Sys2Proof.Machine.execRefresh p bank own s
  | .refreshReportPoll p ch rate => Sys2Proof.Machine.execRefreshReportPoll p ch rate s
  | .retrainPeriodic p ch => Sys2Proof.Machine.execRetrainPeriodic p ch s
  | .cmdRetrain p data => Sys2Proof.Machine.execCmdRetrain p data s
  | .retrainEnd p ch ok => Sys2Proof.Machine.execRetrainEnd p ch ok s
  | .trainingEnd p failed => Sys2Proof.Machine.execTrainingEnd p failed s
  | .clearingEnd p => Sys2Proof.Machine.execClearingEnd p s
  | .clrCnt p data => Sys2Proof.Machine.execClrCnt p data s
  | .windowCfgWrite w data => Sys2Proof.Machine.execWindowCfgWrite w data s
  | .windowMaskWrite w data => Sys2Proof.Machine.execWindowMaskWrite w data s
  | .presetWrite p data => Sys2Proof.Machine.execPresetWrite p data s
  | .requestTranslate req addr acc => Sys2Proof.Machine.execRequestTranslate req addr acc s
  | .driftLine failReads => Sys2Proof.Machine.execDriftLine failReads s
  | .driftCheckpointConfirm => Sys2Proof.Machine.execDriftCheckpointConfirm s
  | .driftCheckpointRetry => Sys2Proof.Machine.execDriftCheckpointRetry s
  | .driftPause data => Sys2Proof.Machine.execDriftPause data s
  | .laneDeclaredFailing x lane => Sys2Proof.Machine.execLaneDeclaredFailing x lane s
  | .spareSwapEnd x agree => Sys2Proof.Machine.execSpareSwapEnd x agree s
  | .repairRecordWrite => Sys2Proof.Machine.execRepairRecordWrite s
  | .riserTransfer x dest seq body crc => Sys2Proof.Machine.execRiserTransfer x dest seq body crc s
  | .riserAck x seq => Sys2Proof.Machine.execRiserAck x seq s
  | .riserReplayTimeout x => Sys2Proof.Machine.execRiserReplayTimeout x s
  | .sensorRead readings => Sys2Proof.Machine.execSensorRead readings s
  | .thermalDormant k page => Sys2Proof.Machine.execThermalDormant k page s
  | .shadeWindow => Sys2Proof.Machine.execShadeWindow s
  | .interventionEscalate ix => Sys2Proof.Machine.execInterventionEscalate ix s
  | .interventionEnd ix => Sys2Proof.Machine.execInterventionEnd ix s
  | .thmCtlWrite data => Sys2Proof.Machine.execThmCtlWrite data s
  | .wearSample => Sys2Proof.Machine.execWearSample s
  | .wearLogWrite => Sys2Proof.Machine.execWearLogWrite s
  | .dailyNarrow => Sys2Proof.Machine.execDailyNarrow s
  | .flitInject ring stop hdr body class0Slot => Sys2Proof.Machine.execFlitInject ring stop hdr body class0Slot s
  | .packetEject ring stop => Sys2Proof.Machine.execPacketEject ring stop s
  | .reservePacket hdr => Sys2Proof.Machine.execReservePacket hdr s
  | .grantPacket hdr => Sys2Proof.Machine.execGrantPacket hdr s
  | .ringResponse hdr => Sys2Proof.Machine.execRingResponse hdr s
  | .tableSwitch data => Sys2Proof.Machine.execTableSwitch data s
  | .drainMarkerReturn ring => Sys2Proof.Machine.execDrainMarkerReturn ring s
  | .tblDataWrite data => Sys2Proof.Machine.execTblDataWrite data s
  | .wakeOnAccessTimeout dom => Sys2Proof.Machine.execWakeOnAccessTimeout dom s
  | .traceEnable data => Sys2Proof.Machine.execTraceEnable data s
  | .probeClear data => Sys2Proof.Machine.execProbeClear data s
  | .refinLost => Sys2Proof.Machine.execRefinLost s
  | .refinPresent => Sys2Proof.Machine.execRefinPresent s
  | .rootLock aon => Sys2Proof.Machine.execRootLock aon s
  | .rootWaitEvent => Sys2Proof.Machine.execRootWaitEvent s
  | .crystalLost => Sys2Proof.Machine.execCrystalLost s
  | .crystalQualified => Sys2Proof.Machine.execCrystalQualified s
  | .ioscReady => Sys2Proof.Machine.execIoscReady s
  | .ioscLost => Sys2Proof.Machine.execIoscLost s
  | .gateWrite data => Sys2Proof.Machine.execGateWrite data s
  | .fmeterGo data => Sys2Proof.Machine.execFmeterGo data s
  | .fmeterDone count => Sys2Proof.Machine.execFmeterDone count s
  | .powerOnReset => Sys2Proof.Machine.execPowerOnReset s
  | .warmReset data => Sys2Proof.Machine.execWarmReset data s
  | .functionLevelReset => Sys2Proof.Machine.execFunctionLevelReset s
  | .perst => Sys2Proof.Machine.execPerst s
  | .domainReset data => Sys2Proof.Machine.execDomainReset data s
  | .domainResetRelease dom => Sys2Proof.Machine.execDomainResetRelease dom s
  | .reqActive data => Sys2Proof.Machine.execReqActive data s
  | .reqQuiet data => Sys2Proof.Machine.execReqQuiet data s
  | .reqRest data => Sys2Proof.Machine.execReqRest data s
  | .reqDormant data => Sys2Proof.Machine.execReqDormant data s
  | .rootStop aon level => Sys2Proof.Machine.execRootStop aon level s
  | .wakeSourceLevel src => Sys2Proof.Machine.execWakeSourceLevel src s
  | .wakeSourceEdge src inWindow => Sys2Proof.Machine.execWakeSourceEdge src inWindow s
  | .wakeTimerMatch => Sys2Proof.Machine.execWakeTimerMatch s
  | .wakeFromRest aon => Sys2Proof.Machine.execWakeFromRest aon s
  | .wakeFromDormant aon padKept => Sys2Proof.Machine.execWakeFromDormant aon padKept s
  | .domainPowerDown data => Sys2Proof.Machine.execDomainPowerDown data s
  | .domainPowerUp data => Sys2Proof.Machine.execDomainPowerUp data s
  | .powerLoss aux => Sys2Proof.Machine.execPowerLoss aux s
  | .mainUndervoltage => Sys2Proof.Machine.execMainUndervoltage s
  | .overcurrent => Sys2Proof.Machine.execOvercurrent s
  | .passSwitchClose => Sys2Proof.Machine.execPassSwitchClose s
  | .softStartEnd => Sys2Proof.Machine.execSoftStartEnd s
  | .heartbeat dst => Sys2Proof.Machine.execHeartbeat dst s
  | .heartbeatTimeout who => Sys2Proof.Machine.execHeartbeatTimeout who s
  | .supervisorSelfCheckEnd c pass => Sys2Proof.Machine.execSupervisorSelfCheckEnd c pass s
  | .watchdogExpiry c => Sys2Proof.Machine.execWatchdogExpiry c s
  | .recoveryNeed kind target => Sys2Proof.Machine.execRecoveryNeed kind target s
  | .coreHalt c data => Sys2Proof.Machine.execCoreHalt c data s
  | .coreResume c data => Sys2Proof.Machine.execCoreResume c data s
  | .coreStep c data => Sys2Proof.Machine.execCoreStep c data s
  | .haltReservationTimeout c => Sys2Proof.Machine.execHaltReservationTimeout c s
  | .coreComparatorMatch c kind addr => Sys2Proof.Machine.execCoreComparatorMatch c kind addr s
  | .dirWrite c data => Sys2Proof.Machine.execDirWrite c data s
  | .accDataWrite c data => Sys2Proof.Machine.execAccDataWrite c data s
  | .accDataRead c => Sys2Proof.Machine.execAccDataRead c s
  | .vtToWrite c data => Sys2Proof.Machine.execVtToWrite c data s
  | .vtFromWrite c word => Sys2Proof.Machine.execVtFromWrite c word s
  | .vtFromRead c path => Sys2Proof.Machine.execVtFromRead c path s
  | .extest cells => Sys2Proof.Machine.execExtest cells s
  | .samplePreload cells => Sys2Proof.Machine.execSamplePreload cells s
  | .devinfo => Sys2Proof.Machine.execDevinfo s
  | .dbgreg dr => Sys2Proof.Machine.execDbgreg dr s
  | .unlock word => Sys2Proof.Machine.execUnlock word s
  | .bypass code => Sys2Proof.Machine.execBypass code s
  | .hostLinkDown => Sys2Proof.Machine.execHostLinkDown s
  | .domainWakeEnd dom => Sys2Proof.Machine.execDomainWakeEnd dom s
  | .ioscReadyTimeout => Sys2Proof.Machine.execIoscReadyTimeout s
  | .watchdogRestart c period => Sys2Proof.Machine.execWatchdogRestart c period s
  | .vtToRead c => Sys2Proof.Machine.execVtToRead c s
  | .mainLostInDormant => Sys2Proof.Machine.execMainLostInDormant s
  | .laneTakesGrain p => Sys2Proof.Machine.execLaneTakesGrain p s
  | .laneRateWrite n data => Sys2Proof.Machine.execLaneRateWrite n data s
  | .laneAlignCtlWrite n data => Sys2Proof.Machine.execLaneAlignCtlWrite n data s
  | .sandglassCfgWrite l data => Sys2Proof.Machine.execSandglassCfgWrite l data s
  | .syncInWrite reg data => Sys2Proof.Machine.execSyncInWrite reg data s
  | .syncOutWrite data => Sys2Proof.Machine.execSyncOutWrite data s
  | .cmpCtlWrite k data => Sys2Proof.Machine.execCmpCtlWrite k data s
  | .schSpillStoreWrite reg data => Sys2Proof.Machine.execSchSpillStoreWrite reg data s
  | .tpChWrite ix data => Sys2Proof.Machine.execTpChWrite ix data s
  | .evtCfgWrite data => Sys2Proof.Machine.execEvtCfgWrite data s
  | .testLogicReset => Sys2Proof.Machine.execTestLogicReset s

end Sys2Proof.Machine
end

