-- ==== Sys2Proof/Safety.lean ====
section
/-!
DEFINITION. The terms in which claims speak of a run: what a command gives, what it leaves alone, and the states in which the registers
that show what stands elsewhere are in step with it.
-/
namespace Sys2Proof.Machine

/-- A command answers a next state, and that state has a property. -/
def Gives (i : Instr) (s : State) (P : State → Prop) : Prop := ∃ t, exec i s = .next t ∧ P t

/-- The registers that every completed command brings in step with what they show (R464, R508, R541). -/
def shownRegs : List Nat := [PWR_STATUS, CFG_STATUS, GLB_STATUS]

/-- The registers that an event changes beside its record (R415). -/
def eventRegs : List Nat := [EVT_TAIL, EVT_LOST]

/-- Every register but those listed, and those that only show what stands elsewhere, reads as before. -/
def KeepsRegs (l : List Nat) (s t : State) : Prop := ∀ o, o ∉ l → o ∉ shownRegs → t.reg o = s.reg o

/-- Everything but the register file is as before. -/
def OnlyRegs (s t : State) : Prop := { t with regs := s.regs } = s

/-- Everything but the register file, the events and the host's side of them is as before. -/
def OnlyRegsEvents (s t : State) : Prop := { t with regs := s.regs, evt := s.evt, host := s.host } = s

/-- Nothing but the listed registers, and those that only show what stands elsewhere, is other than in `s`. -/
def RegsOnly (l : List Nat) (s t : State) : Prop := OnlyRegs s t ∧ KeepsRegs l s t

/-- Nothing but the listed registers, and what an event changes, is other than in `s`. -/
def EventOnly (l : List Nat) (s t : State) : Prop := OnlyRegsEvents s t ∧ KeepsRegs (l ++ eventRegs) s t

/-- Exactly one event more is in the log than in `s`, and it has this code. -/
def Logs (code : Nat) (s t : State) : Prop := ∃ e : EventRec, t.evt.log = e :: s.evt.log ∧ e.code = code

/-- The youngest event in the log has this code. -/
def LastEvent (code : Nat) (t : State) : Prop := t.evt.log.head?.map (fun e => e.code) = some code

/-- The result that an executor's item has been given. -/
def State.resultOf (s : State) (k : Nat) : Option Result := (s.cur k).bind (fun c => c.result)

/-- The youngest answer to a memory request (R250, R301). -/
def LastAnswer (id status : Nat) (bytes : List Byte) (t : State) : Prop := t.mem.answers.head? = some { id := id, status := status, bytes := bytes }

/-- A measurement engine is about to execute instruction `i`, and no comparator acts before it (R246). -/
structure EngAt (s : State) (e i : Nat) : Prop where
  runs : s.engState e = enRunning ∨ s.engState e = enWaiting
  clock : s.engsRun = true
  word : s.engWord e = i
  clear : (s.engSt e).passed = true ∨ ∀ k : Fin 2, MEA_DBGC_EN.on (s.reg (MEA_DBGC e k)) = false

/-- Where an engine goes on after its instruction, and the loop levels then open (R237). -/
def State.engAfter (s : State) (e : Nat) : List LoopLvl × Nat := loopEnds (s.engSt e).loops (s.engPc e + 1)

/-- An engine's instruction is done: it goes on at `pc` and holds `v`; nothing of another engine has changed, and no register but its own
status and flags. -/
structure EngWent (s : State) (e pc : Nat) (v : EngSt) (t : State) : Prop where
  pc : t.engPc e = pc
  state : t.engState e = if (s.engSt e).stepping then enHalted else enRunning
  holds : t.engSt e = { v with passed := false, stepping := false }
  others : ∀ f, f ≠ e → t.engSt f = s.engSt f

/-- A lane's P and DZ flags (R228). -/
def State.laneP (s : State) (e l : Nat) : Bool := natBit (s.reg (MEA_LFLAG e)).toNat l
def State.laneDz (s : State) (e l : Nat) : Bool := natBit (s.reg (MEA_LFLAG e)).toNat (16 + l)

/-- Whether an instruction acts in a lane (R232). -/
def State.laneOn (s : State) (e i l : Nat) : Bool :=
  match eiPred i with
  | 1 => s.laneP e l
  | 2 => !s.laneP e l
  | _ => true

/-- A lane instruction is done: the post-increments have acted once each, the engine goes on at the next instruction, and nothing has changed
but its accumulators, operand memory, flags and status (R232, R237). -/
structure EngLane (s : State) (e i : Nat) (t : State) : Prop where
  went : EngWent s e (s.engAfter e).2 { t.engSt e with loops := (s.engAfter e).1, prog := (s.engSt e).prog, b := (s.engSt e).b,
                                                       xfers := (s.engSt e).xfers } t
  incs : ∀ k, k < 8 → (t.engSt e).xAt k =
    if (eiIA i && eiXA i == k) || (eiIB i && eiXB i == k) then ((s.engSt e).xAt k + 1) % 1024 else (s.engSt e).xAt k
  kept : { t with regs := s.regs, eng := s.eng, lanes := s.lanes } = s

/-- The registers that show what stands elsewhere are in step: PWR.STATUS.STATE with the power state, CFG.STATUS with the pins, and
GLB.STATUS with its sources (R464, R498, R508, R541). -/
structure Shown (s : State) : Prop where
  power : s.fld PWR_STATUS PWR_STATUS_STATE = s.powerCode
  cfgDone : s.fld CFG_STATUS CFG_STATUS_DONE = bit01 s.pins.cfgDone
  cfgErr : s.fld CFG_STATUS CFG_STATUS_ERR = bit01 s.pins.cfgErr
  summed : s.reg GLB_STATUS = s.summary

/-- The state after so many steps, where none of them stops. -/
def runs : Nat → State → Option State
  | 0, s => some s
  | n + 1, s => match step s with
    | .next t => runs n t
    | _ => none

/-- A run is safe when it never stops and, from its first step on, its registers are in step. -/
def SafeRun (s : State) : Prop := ∀ n, ∃ t, runs n s = some t ∧ (0 < n → s.pending ≠ [] → Shown t)

end Sys2Proof.Machine
end

