-- ==== Sys2Proof/WellFormed.lean ====
section
/-!
DEFINITION. Which commands the outside can send (`Instr.wf`), and the register that a command writes, where it is a write of one
register (`Instr.regOff`). Every command has its meaning whether well-formed or not; a command that is not well-formed names an access
that the bus, the pads or the sensors of the device cannot make.
-/
namespace Sys2Proof
open Sys2Proof.Machine

/-- Writes of the host's own memory lie in its 64-bit address space. -/
def hostOk (hw : HostWrites) : Bool := hw.all (fun p => decide (p.1 < 2 ^ 64))

/-- A memory access carries 1 to 4,096 bytes. -/
def accOk : MemAcc → Bool
  | .read len => decide (1 ≤ len) && decide (len ≤ 4096)
  | .write bytes => decide (1 ≤ bytes.length) && decide (bytes.length ≤ 4096)

/-- An access of BAR0 lies within its 64 MiB and carries 1 to 8 bytes (R389). -/
def barOk (off size : Nat) : Bool := decide (1 ≤ size) && decide (size ≤ 8) && decide (off + size ≤ 2 ^ 26)

/-- The level sources of R502; SYNC_IN and signal detect are edge sources. -/
def srcIsLevel : WakeSrc → Bool
  | .sync => false
  | .sigdet _ => false
  | _ => true

/-- The source sampled at the end of an entry window is a level source (R501). -/
def levelOk : Option WakeSrc → Bool
  | none => true
  | some src => srcIsLevel src

/-- The bonds of a well are numbered 1 to 6 (R343). -/
def bondOk (bond : Fin 7) : Bool := bond != 0

/-- A cycle brings each lane and each pin at most once, and errors on bonds that there are. -/
def cycleOk (inp : FabricIn) : Bool :=
  decide (inp.rx.map (fun x => x.lane)).Nodup && decide (inp.gio.map (fun x => x.pin)).Nodup && inp.wellFlips.all (fun f => bondOk f.x.bond)
    && inp.dirFaults.all (fun d => match d with
      | .wellLane x _ _ => bondOk x.bond
      | .gio _ _ => true)

/-- A line is read at most three times (R287). -/
def readsOk (e : ReadErrs) : Bool := decide (e.fail ≤ 3) && decide (e.link ≤ 3)

/-- The SYNC_IN registers (R227). -/
def syncRegOff : SyncReg → Nat
  | .syncIn => TSU_SYNC_IN
  | .loadNs => TSU_SYNC_LOAD_NS
  | .loadSec => TSU_SYNC_LOAD_SEC

/-- SCH.SPILL and SCH.STORE (R419). -/
def schRegOff : SchReg → Nat
  | .spill => SCH_SPILL
  | .store => SCH_STORE

/-- The set-up registers of a capture queue (R174). -/
def queueRegOff (q : Nat) : QueueReg → Nat
  | .ctl => CAP_Q_CTL q
  | .ring => CAP_Q_RING q
  | .port => CAP_Q_PORT q
  | .drain => CAP_Q_DRAIN q

/-- The set-up registers of a player (R206). -/
def playerRegOff (p : Nat) : PlayerReg → Nat
  | .cfg => SCH_PLY_CFG p
  | .feed => SCH_PLY_FEED p
  | .fabric => SCH_PLY_FABRIC p

/-- The register of an access that reads or writes. -/
def accRegOff (off : Nat) : RegAcc → Option Nat
  | .read _ => none
  | .write _ => some off

/-- The offset in BAR0 of the register that a command writes (R538 to R541); none for a command that is no write of one register. -/
def Instr.regOff : Instr → Option Nat
  | .sqTail _ _ _ _ => none
  | .cqHead _ _ => none
  | .acceptResume _ _ _ => none
  | .spillReturn _ _ _ => none
  | .tagAssign _ => none
  | .counterCeilingWrite _ _ => none
  | .sandglassRelease _ => none
  | .itemDispatch _ => none
  | .journalReadComplete _ _ => none
  | .itemFinish _ => none
  | .completionRelease _ => none
  | .completionConfirm _ => none
  | .moderationExpiry _ => none
  | .ringEnable r _ _ => some (QIF_RING_CB r)
  | .controlBlockCheck _ _ => none
  | .ringDisable r _ => some (QIF_RING_CB r)
  | .journalRegisterWrite _ => some QIF_JOURNAL
  | .bar4Access _ _ => none
  | .bar0Write _ _ _ => none
  | .rclRead _ _ _ => none
  | .evtBaseWrite _ => some EVT_BASE
  | .evtHeadWrite _ => some EVT_HEAD
  | .ejectFall => none
  | .departureReadComplete _ => none
  | .ejectRise => none
  | .surpriseRemoval => none
  | .linkReturn => none
  | .nop => none
  | .dma _ _ => none
  | .play _ => none
  | .ergSwitch _ => none
  | .task _ => none
  | .taskDelivery _ => none
  | .taskDoneWord _ => none
  | .engineLoad _ => none
  | .engineRun _ => none
  | .captureCmd => none
  | .cancel => none
  | .readback _ => none
  | .attest _ => none
  | .imageLoad _ => none
  | .imageFrame _ _ => none
  | .ergReserve => none
  | .keyDomain _ => none
  | .keyStrictWindow => none
  | .keyOasisRights => none
  | .keySlotKey _ => none
  | .keySlotErase => none
  | .driftStart _ => none
  | .firmwareUpdate _ _ => none
  | .stackRepairLane => none
  | .stackRepairOasis => none
  | .stackRepairDram => none
  | .eraseImageSlots => none
  | .eraseKeyDomains => none
  | .eraseOases => none
  | .eraseSlots => none
  | .debugUnlock _ => none
  | .debugUnlockExpiry => none
  | .ownerTransfer _ => none
  | .reconciliation _ _ => none
  | .fabricCycle _ => none
  | .ctxGo i _ => some (FAB_ERG_CTX i)
  | .switchEdge _ => none
  | .settleEnd _ => none
  | .isoForceSet i _ => some (FAB_ERG_ISO i)
  | .isoForceClear i _ => some (FAB_ERG_ISO i)
  | .isoRelease i _ => some (FAB_ERG_ISO i)
  | .illopClear _ => some FAB_ILLOP
  | .bmPerrClear _ => some FAB_BM_PERR
  | .dirPerrClear _ => some FAB_DIR_PERR
  | .snapPlaneReserve i _ => some (FAB_ERG_SNAP i)
  | .snapPlaneRelease i _ => some (FAB_ERG_SNAP i)
  | .snapFree i _ => some (FAB_ERG_SNAP i)
  | .snapGo _ => some FAB_SNAP_CTL
  | .snapshotEdge => none
  | .ergActivation => none
  | .planeScrubWord _ _ _ _ _ _ => none
  | .powerUpLoad _ => none
  | .laneCfgWrite n _ => some (LANE_CFG n)
  | .rxEnable n _ => some (LANE_CFG n)
  | .txEnable n _ => some (LANE_CFG n)
  | .rxDisable n _ => some (LANE_CFG n)
  | .txDisable n _ => some (LANE_CFG n)
  | .lanePortWrite n _ => some (LANE_PORT n)
  | .signalDetect _ => none
  | .rxLock _ => none
  | .txPllLock _ => none
  | .alignmentGained _ => none
  | .alignmentLost _ => none
  | .signalLost _ _ => none
  | .marginGo n _ => some (LANE_MARGIN n)
  | .marginPointEnd _ _ => none
  | .fecLatch q _ => some (FEC_CTL q)
  | .fecClear q _ => some (FEC_CTL q)
  | .dawnMatch _ _ _ => none
  | .gioCfgWrite k _ => some (GIO_CFG k)
  | .recordBeat _ => none
  | .postCountExpiry _ => none
  | .queueEnable q _ => some (CAP_Q_CTL q)
  | .queueDisable q _ => some (CAP_Q_CTL q)
  | .queueConfigWrite q reg _ => some (queueRegOff q reg)
  | .queueRdWrite q _ => some (CAP_Q_RD q)
  | .cmdDropRem q => some (CAP_Q_CMD q)
  | .cmdStart q => some (CAP_Q_CMD q)
  | .cmdStop q => some (CAP_Q_CMD q)
  | .cmdFreeze q => some (CAP_Q_CMD q)
  | .cmdRearm q => some (CAP_Q_CMD q)
  | .drainBurst _ => none
  | .drainWriteAck _ => none
  | .drainWriteError _ => none
  | .tailTimerExpiry _ => none
  | .regionCfgWrite g _ => some (CAP_REGION_CFG g)
  | .regionRdWrite g _ => some (CAP_REGION_RD g)
  | .sequencerRun _ => some CAP_SEQ_CTL
  | .swtrig _ => some CAP_SEQ_CTL
  | .seqCounterExpiry _ => none
  | .seqTimerExpiry _ => none
  | .queueAction _ => none
  | .playerCfgWrite p reg _ => some (playerRegOff p reg)
  | .primeReached _ => none
  | .startTimeReached _ => none
  | .playerFrameEnd _ => none
  | .journalLimitRead _ _ => none
  | .playerReadError _ _ => none
  | .laneRunLost _ => none
  | .timeSet _ => some TSU_CTL
  | .reEpoch _ => some TSU_CTL
  | .syncInPulse _ => none
  | .syncLoadApply => none
  | .syncOutPulse => none
  | .compareFire _ => none
  | .stampWrap => none
  | .nowRead _ => none
  | .bridgeEnd _ => some TSU_BRIDGE
  | .bridgeHoldExpiry => none
  | .engineNop _ => none
  | .mac _ => none
  | .adda _ => none
  | .accop _ => none
  | .nar _ => none
  | .engineCmp _ => none
  | .hist _ => none
  | .divs _ => none
  | .marg _ => none
  | .engineMarginEnd _ _ _ => none
  | .cntr _ => none
  | .setx _ => none
  | .addx _ => none
  | .loop _ => none
  | .jmp _ => none
  | .ldm _ => none
  | .stm _ => none
  | .engineTransferLine _ _ => none
  | .setb _ => none
  | .wait _ => none
  | .trig _ => none
  | .evt _ => none
  | .halt _ => none
  | .engineEnable e _ => some (MEA_CTL e)
  | .engineStep e _ => some (MEA_CTL e)
  | .engineResume e _ => some (MEA_CTL e)
  | .engineAbort e _ => some (MEA_CTL e)
  | .engineClear e _ => some (MEA_CTL e)
  | .engineMapWrite e m _ => some (MEA_MAP e m)
  | .progDataAccess e acc => accRegOff (MEA_PROG_DATA e) acc
  | .memDataAccess e acc => accRegOff (MEA_MEM_DATA e) acc
  | .oasisPortCommand _ => none
  | .oasisPortResponse _ => none
  | .oasisRingAccess _ _ _ _ => none
  | .oasisWriteback _ _ => none
  | .oasisSelfTest _ _ => none
  | .oasisSelfTestEnd _ => none
  | .oasisTestStateWrite i _ => some (OAS_G_CTL i)
  | .oasisTestWrite _ => some OAS_TEST_CTL
  | .oasisTestRead _ => some OAS_TEST_CTL
  | .oasisFportWrite i _ => some (OAS_G_FPORT i)
  | .confClear _ => some OAS_CONF_CTL
  | .dramRequest _ _ => none
  | .throttleHoldExpiry _ _ _ => none
  | .activationCounterClear _ => none
  | .dramWriteback _ _ => none
  | .patrolScrubLine _ _ => none
  | .refresh _ _ _ => none
  | .refreshReportPoll _ _ _ => none
  | .retrainPeriodic _ _ => none
  | .cmdRetrain p _ => some (DRMC_CMD p)
  | .retrainEnd _ _ _ => none
  | .trainingEnd _ _ => none
  | .clearingEnd _ => none
  | .clrCnt p _ => some (DRMC_CMD p)
  | .windowCfgWrite w _ => some (DRMC_WIN_CFG w)
  | .windowMaskWrite w _ => some (DRMC_WIN_MASK w)
  | .presetWrite p _ => some (DRMC_CTL p)
  | .requestTranslate _ _ _ => none
  | .driftLine _ => none
  | .driftCheckpointConfirm => none
  | .driftCheckpointRetry => none
  | .driftPause _ => some CRY_DRIFT_CTL
  | .laneDeclaredFailing _ _ => none
  | .spareSwapEnd _ _ => none
  | .repairRecordWrite => none
  | .riserTransfer _ _ _ _ _ => none
  | .riserAck _ _ => none
  | .riserReplayTimeout _ => none
  | .sensorRead _ => none
  | .thermalDormant _ _ => none
  | .shadeWindow => none
  | .interventionEscalate _ => none
  | .interventionEnd _ => none
  | .thmCtlWrite _ => some THM_CTL
  | .wearSample => none
  | .wearLogWrite => none
  | .dailyNarrow => none
  | .flitInject _ _ _ _ _ => none
  | .packetEject _ _ => none
  | .reservePacket _ => none
  | .grantPacket _ => none
  | .ringResponse _ => none
  | .tableSwitch _ => some RING_TBL_CTL
  | .drainMarkerReturn _ => none
  | .tblDataWrite _ => some RING_TBL_DATA
  | .wakeOnAccessTimeout _ => none
  | .traceEnable _ => some PRB_TRACE_CTL
  | .probeClear _ => some PRB_CTL
  | .refinLost => none
  | .refinPresent => none
  | .rootLock _ => none
  | .rootWaitEvent => none
  | .crystalLost => none
  | .crystalQualified => none
  | .ioscReady => none
  | .ioscLost => none
  | .gateWrite _ => some CLK_GATE
  | .fmeterGo _ => some CLK_FMETER_CTL
  | .fmeterDone _ => none
  | .powerOnReset => none
  | .warmReset _ => some RST_CTL
  | .functionLevelReset => none
  | .perst => none
  | .domainReset _ => some RST_DOM
  | .domainResetRelease _ => none
  | .reqActive _ => some PWR_CTL
  | .reqQuiet _ => some PWR_CTL
  | .reqRest _ => some PWR_CTL
  | .reqDormant _ => some PWR_CTL
  | .rootStop _ _ => none
  | .wakeSourceLevel _ => none
  | .wakeSourceEdge _ _ => none
  | .wakeTimerMatch => none
  | .wakeFromRest _ => none
  | .wakeFromDormant _ _ => none
  | .domainPowerDown _ => some PWR_DOM_CTL
  | .domainPowerUp _ => some PWR_DOM_CTL
  | .powerLoss _ => none
  | .mainUndervoltage => none
  | .overcurrent => none
  | .passSwitchClose => none
  | .softStartEnd => none
  | .heartbeat _ => none
  | .heartbeatTimeout _ => none
  | .supervisorSelfCheckEnd _ _ => none
  | .watchdogExpiry _ => none
  | .recoveryNeed _ _ => none
  | .coreHalt c _ => some (DBG_CORE_CTL c)
  | .coreResume c _ => some (DBG_CORE_CTL c)
  | .coreStep c _ => some (DBG_CORE_CTL c)
  | .haltReservationTimeout _ => none
  | .coreComparatorMatch _ _ _ => none
  | .dirWrite c _ => some (DBG_CORE_DIR c)
  | .accDataWrite c _ => some (DBG_CORE_ACC_DATA c)
  | .accDataRead _ => none
  | .vtToWrite c _ => some (DBG_CORE_VT_TO c)
  | .vtFromWrite _ _ => none
  | .vtFromRead _ _ => none
  | .extest _ => none
  | .samplePreload _ => none
  | .devinfo => none
  | .dbgreg _ => none
  | .unlock _ => none
  | .bypass _ => none
  | .hostLinkDown => none
  | .domainWakeEnd _ => none
  | .ioscReadyTimeout => none
  | .watchdogRestart _ _ => none
  | .vtToRead _ => none
  | .mainLostInDormant => none
  | .laneTakesGrain _ => none
  | .laneRateWrite n _ => some (LANE_RATE n)
  | .laneAlignCtlWrite n _ => some (LANE_ALIGN_CTL n)
  | .sandglassCfgWrite l _ => some (SCH_SGL_CFG l)
  | .syncInWrite reg _ => some (syncRegOff reg)
  | .syncOutWrite _ => some TSU_SYNC_OUT
  | .cmpCtlWrite k _ => some (TSU_CMP_CTL k)
  | .schSpillStoreWrite reg _ => some (schRegOff reg)
  | .tpChWrite i _ => some (SCH_TP i)
  | .evtCfgWrite _ => some EVT_CFG
  | .testLogicReset => none

/-- Whether the outside can send a command. -/
def Instr.wf : Instr → Bool
  | .sqTail _ _ hw _ => hostOk hw
  | .cqHead _ _ => true
  | .acceptResume _ hw _ => hostOk hw
  | .spillReturn _ _ _ => true
  | .tagAssign _ => true
  | .counterCeilingWrite _ _ => true
  | .sandglassRelease _ => true
  | .itemDispatch _ => true
  | .journalReadComplete _ _ => true
  | .itemFinish _ => true
  | .completionRelease _ => true
  | .completionConfirm _ => true
  | .moderationExpiry _ => true
  | .ringEnable _ _ hw => hostOk hw
  | .controlBlockCheck _ _ => true
  | .ringDisable _ _ => true
  | .journalRegisterWrite _ => true
  | .bar4Access off acc => decide (off < 2 ^ 36) && accOk acc
  | .bar0Write off size _ => barOk off size
  | .rclRead off size _ => barOk off size
  | .evtBaseWrite _ => true
  | .evtHeadWrite _ => true
  | .ejectFall => true
  | .departureReadComplete _ => true
  | .ejectRise => true
  | .surpriseRemoval => true
  | .linkReturn => true
  | .nop => true
  | .dma _ _ => true
  | .play _ => true
  | .ergSwitch _ => true
  | .task _ => true
  | .taskDelivery _ => true
  | .taskDoneWord _ => true
  | .engineLoad _ => true
  | .engineRun _ => true
  | .captureCmd => true
  | .cancel => true
  | .readback _ => true
  | .attest _ => true
  | .imageLoad _ => true
  | .imageFrame _ _ => true
  | .ergReserve => true
  | .keyDomain _ => true
  | .keyStrictWindow => true
  | .keyOasisRights => true
  | .keySlotKey _ => true
  | .keySlotErase => true
  | .driftStart _ => true
  | .firmwareUpdate _ _ => true
  | .stackRepairLane => true
  | .stackRepairOasis => true
  | .stackRepairDram => true
  | .eraseImageSlots => true
  | .eraseKeyDomains => true
  | .eraseOases => true
  | .eraseSlots => true
  | .debugUnlock _ => true
  | .debugUnlockExpiry => true
  | .ownerTransfer _ => true
  | .reconciliation _ badRings => decide badRings.Nodup
  | .fabricCycle inp => cycleOk inp
  | .ctxGo _ _ => true
  | .switchEdge _ => true
  | .settleEnd _ => true
  | .isoForceSet _ _ => true
  | .isoForceClear _ _ => true
  | .isoRelease _ _ => true
  | .illopClear _ => true
  | .bmPerrClear _ => true
  | .dirPerrClear _ => true
  | .snapPlaneReserve _ _ => true
  | .snapPlaneRelease _ _ => true
  | .snapFree _ _ => true
  | .snapGo _ => true
  | .snapshotEdge => true
  | .ergActivation => true
  | .planeScrubWord _ _ _ _ _ flips => decide flips.Nodup
  | .powerUpLoad _ => true
  | .laneCfgWrite _ _ => true
  | .rxEnable _ _ => true
  | .txEnable _ _ => true
  | .rxDisable _ _ => true
  | .txDisable _ _ => true
  | .lanePortWrite _ _ => true
  | .signalDetect _ => true
  | .rxLock _ => true
  | .txPllLock _ => true
  | .alignmentGained _ => true
  | .alignmentLost _ => true
  | .signalLost _ _ => true
  | .marginGo _ _ => true
  | .marginPointEnd _ _ => true
  | .fecLatch _ _ => true
  | .fecClear _ _ => true
  | .dawnMatch _ _ mv => decide (mv.length = 64)
  | .gioCfgWrite _ _ => true
  | .recordBeat _ => true
  | .postCountExpiry _ => true
  | .queueEnable _ _ => true
  | .queueDisable _ _ => true
  | .queueConfigWrite _ _ _ => true
  | .queueRdWrite _ _ => true
  | .cmdDropRem _ => true
  | .cmdStart _ => true
  | .cmdStop _ => true
  | .cmdFreeze _ => true
  | .cmdRearm _ => true
  | .drainBurst _ => true
  | .drainWriteAck _ => true
  | .drainWriteError _ => true
  | .tailTimerExpiry _ => true
  | .regionCfgWrite _ _ => true
  | .regionRdWrite _ _ => true
  | .sequencerRun _ => true
  | .swtrig _ => true
  | .seqCounterExpiry _ => true
  | .seqTimerExpiry _ => true
  | .queueAction _ => true
  | .playerCfgWrite _ _ _ => true
  | .primeReached _ => true
  | .startTimeReached _ => true
  | .playerFrameEnd _ => true
  | .journalLimitRead _ _ => true
  | .playerReadError _ _ => true
  | .laneRunLost _ => true
  | .timeSet _ => true
  | .reEpoch _ => true
  | .syncInPulse _ => true
  | .syncLoadApply => true
  | .syncOutPulse => true
  | .compareFire _ => true
  | .stampWrap => true
  | .nowRead _ => true
  | .bridgeEnd _ => true
  | .bridgeHoldExpiry => true
  | .engineNop _ => true
  | .mac _ => true
  | .adda _ => true
  | .accop _ => true
  | .nar _ => true
  | .engineCmp _ => true
  | .hist _ => true
  | .divs _ => true
  | .marg _ => true
  | .engineMarginEnd _ _ _ => true
  | .cntr _ => true
  | .setx _ => true
  | .addx _ => true
  | .loop _ => true
  | .jmp _ => true
  | .ldm _ => true
  | .stm _ => true
  | .engineTransferLine _ _ => true
  | .setb _ => true
  | .wait _ => true
  | .trig _ => true
  | .evt _ => true
  | .halt _ => true
  | .engineEnable _ _ => true
  | .engineStep _ _ => true
  | .engineResume _ _ => true
  | .engineAbort _ _ => true
  | .engineClear _ _ => true
  | .engineMapWrite _ _ _ => true
  | .progDataAccess _ _ => true
  | .memDataAccess _ _ => true
  | .oasisPortCommand _ => true
  | .oasisPortResponse _ => true
  | .oasisRingAccess _ _ off acc => decide (off < 2 ^ 24) && accOk acc
  | .oasisWriteback _ _ => true
  | .oasisSelfTest _ bad => decide bad.Nodup && bad.all (fun k => decide (k < 2 ^ 27))
  | .oasisSelfTestEnd _ => true
  | .oasisTestStateWrite _ _ => true
  | .oasisTestWrite _ => true
  | .oasisTestRead _ => true
  | .oasisFportWrite _ _ => true
  | .confClear _ => true
  | .dramRequest _ failReads => readsOk failReads
  | .throttleHoldExpiry _ _ bank => decide (bank < 128)
  | .activationCounterClear _ => true
  | .dramWriteback _ _ => true
  | .patrolScrubLine _ failReads => readsOk failReads
  | .refresh _ bank _ => decide (bank < 128)
  | .refreshReportPoll _ _ _ => true
  | .retrainPeriodic _ _ => true
  | .cmdRetrain _ _ => true
  | .retrainEnd _ _ _ => true
  | .trainingEnd _ _ => true
  | .clearingEnd _ => true
  | .clrCnt _ _ => true
  | .windowCfgWrite _ _ => true
  | .windowMaskWrite _ _ => true
  | .presetWrite _ _ => true
  | .requestTranslate _ addr acc => decide (addr < 2 ^ 48) && accOk acc
  | .driftLine failReads => readsOk failReads
  | .driftCheckpointConfirm => true
  | .driftCheckpointRetry => true
  | .driftPause _ => true
  | .laneDeclaredFailing x _ => bondOk x.bond
  | .spareSwapEnd x _ => bondOk x.bond
  | .repairRecordWrite => true
  | .riserTransfer x _ _ body _ => bondOk x.bond && decide (body.length ≤ 256)
  | .riserAck x _ => bondOk x.bond
  | .riserReplayTimeout x => bondOk x.bond
  | .sensorRead readings => decide (readings.map (fun x => x.k)).Nodup
  | .thermalDormant _ _ => true
  | .shadeWindow => true
  | .interventionEscalate _ => true
  | .interventionEnd _ => true
  | .thmCtlWrite _ => true
  | .wearSample => true
  | .wearLogWrite => true
  | .dailyNarrow => true
  | .flitInject _ _ _ body _ => decide (body.length ≤ 112)
  | .packetEject _ _ => true
  | .reservePacket _ => true
  | .grantPacket _ => true
  | .ringResponse _ => true
  | .tableSwitch _ => true
  | .drainMarkerReturn _ => true
  | .tblDataWrite _ => true
  | .wakeOnAccessTimeout _ => true
  | .traceEnable _ => true
  | .probeClear _ => true
  | .refinLost => true
  | .refinPresent => true
  | .rootLock _ => true
  | .rootWaitEvent => true
  | .crystalLost => true
  | .crystalQualified => true
  | .ioscReady => true
  | .ioscLost => true
  | .gateWrite _ => true
  | .fmeterGo _ => true
  | .fmeterDone _ => true
  | .powerOnReset => true
  | .warmReset _ => true
  | .functionLevelReset => true
  | .perst => true
  | .domainReset _ => true
  | .domainResetRelease _ => true
  | .reqActive _ => true
  | .reqQuiet _ => true
  | .reqRest _ => true
  | .reqDormant _ => true
  | .rootStop _ level => levelOk level
  | .wakeSourceLevel src => srcIsLevel src
  | .wakeSourceEdge src _ => !srcIsLevel src
  | .wakeTimerMatch => true
  | .wakeFromRest _ => true
  | .wakeFromDormant _ _ => true
  | .domainPowerDown _ => true
  | .domainPowerUp _ => true
  | .powerLoss _ => true
  | .mainUndervoltage => true
  | .overcurrent => true
  | .passSwitchClose => true
  | .softStartEnd => true
  | .heartbeat _ => true
  | .heartbeatTimeout _ => true
  | .supervisorSelfCheckEnd _ _ => true
  | .watchdogExpiry _ => true
  | .recoveryNeed _ _ => true
  | .coreHalt _ _ => true
  | .coreResume _ _ => true
  | .coreStep _ _ => true
  | .haltReservationTimeout _ => true
  | .coreComparatorMatch _ _ _ => true
  | .dirWrite _ _ => true
  | .accDataWrite _ _ => true
  | .accDataRead _ => true
  | .vtToWrite _ _ => true
  | .vtFromWrite _ _ => true
  | .vtFromRead _ _ => true
  | .extest _ => true
  | .samplePreload _ => true
  | .devinfo => true
  | .dbgreg _ => true
  | .unlock _ => true
  | .bypass _ => true
  | .hostLinkDown => true
  | .domainWakeEnd _ => true
  | .ioscReadyTimeout => true
  | .watchdogRestart _ _ => true
  | .vtToRead _ => true
  | .mainLostInDormant => true
  | .laneTakesGrain _ => true
  | .laneRateWrite _ _ => true
  | .laneAlignCtlWrite _ _ => true
  | .sandglassCfgWrite _ _ => true
  | .syncInWrite _ _ => true
  | .syncOutWrite _ => true
  | .cmpCtlWrite _ _ => true
  | .schSpillStoreWrite _ _ => true
  | .tpChWrite _ _ => true
  | .evtCfgWrite _ => true
  | .testLogicReset => true

end Sys2Proof
end

