-- ==== Sys2Proof/Certificates/Slice0/Obligations.lean ====
section
/-!
DEFINITION. The statements about the model: what a step does, what every command gives, and what it leaves alone.
-/
open Sys2Proof Sys2Proof.Machine

/-! ### The block as a whole -/

/-- With command c at the front of its queue, a step is exec of c on the state with the queue's rest; with an empty queue the step
answers the state unchanged (the model's choice, log entry 1). -/
def Obligations.StepRunsFront : Prop :=
  (∀ (c : Instr) (s : State), step { s with pending := c :: s.pending } = exec c s) ∧ (∀ s : State, s.pending = [] → step s = .next s)

/-- After reset nothing waits in the queue, every register of the map reads its reset value, and PWR.STATUS.STATE, CFG.STATUS and
GLB.STATUS agree with the power state, the pins and their sources. -/
def Obligations.ResetShown : Prop :=
  Shown State.reset ∧ State.reset.pending = [] ∧ ∀ o, State.reset.reg o = regReset o

/-- In the state after any step that takes a command, whatever the state before, PWR.STATUS.STATE shows the power state, CFG.STATUS
shows the two configuration pins and GLB.STATUS shows the sources that it sums up; and an idle step keeps them so. -/
def Obligations.StepKeepsShown : Prop :=
  ∀ s t : State, (s.pending = [] → Shown s) → step s = .next t → Shown t

/-- Every command of the table, in every state, answers a next state. -/
def Obligations.CommandsComplete : Prop :=
  ∀ (c : Instr) (s : State), ∃ t, exec c s = .next t

/-- A command that writes one register whose block is without power, asleep, or in the fabric's clock class before the root has ever
locked changes nothing: no register but those that show what stands elsewhere, and nothing else but bytes that the host wrote to its own
memory beforehand. -/
def Obligations.LostWrites : Prop :=
  ∀ (c : Instr) (s : State) (o : Nat), c.regOff = some o → s.blockUp o = false →
    Gives c s fun t => KeepsRegs [] s t ∧ { t with regs := s.regs, host := { t.host with mem := s.host.mem } } = s

/-! ### The time unit (chapter 07) -/

/-- TIME_SET with a nanosecond field below 1,000,000,000 leaves the SET value due at the next edge and changes nothing else; with a greater
one it is refused with reason 1, in TSU.STATUS and in event 0x0601. RE_EPOCH with every capture queue OFF leaves the re-epoch due; otherwise
it is refused with reason 3. -/
def Obligations.TimeSets : Prop :=
  ∀ (s : State) (data : Data), s.ready TSU_CTL = true →
    (TSU_CTL_SET.on data = true → TSU_CTL_EPOCH.on data = false →
      (s.fld TSU_SET_NS TSU_SET_NS_NS < 1000000000 → Gives (.timeSet data) s
        (RegsOnly [] { s with time := { s.time with setDue := some (s.timeRegs TSU_SET_NS TSU_SET_SEC) } })) ∧
      (1000000000 ≤ s.fld TSU_SET_NS TSU_SET_NS_NS → Gives (.timeSet data) s fun t => EventOnly [TSU_STATUS] s t ∧ Logs 0x0601 s t ∧
        t.fld TSU_STATUS TSU_STATUS_REFUSED = 1 ∧ t.fld TSU_STATUS TSU_STATUS_REASON = 1)) ∧
    (TSU_CTL_EPOCH.on data = true → TSU_CTL_SET.on data = false →
      (s.queuesOff = true → Gives (.reEpoch data) s (RegsOnly [] { s with time := { s.time with epochDue := true } })) ∧
      (s.queuesOff = false → Gives (.reEpoch data) s fun t => EventOnly [TSU_STATUS] s t ∧ Logs 0x0601 s t ∧
        t.fld TSU_STATUS TSU_STATUS_REFUSED = 1 ∧ t.fld TSU_STATUS TSU_STATUS_REASON = 3))

/-- While the root runs and the counts have started, SYNC_IN_PULSE at a tick sets TSU.SYNC_STAMP to the stamp of that tick and SYNC_SEEN,
and drives line 48 two edges after; with ARM 0 it does nothing else; with ARM 1, and every capture queue OFF where EPOCH is 1, it clears ARM and
leaves due in 64 edges, behind what earlier pulses left, with LOAD 1 a load of the SYNC_LOAD time and with EPOCH 1 a re-epoch, each moved by COMP and
by the time that passes. SYNC_LOAD_APPLY of a load that is due makes it the device time, leaves the stamp and ends BRIDGED.
SYNC_IN_WRITE writes its register by the access types of its fields while ARM is 0. -/
def Obligations.SyncInPulses : Prop :=
  (∀ (s : State) (tick : Fin 40), s.clk.rootRun = true → s.time.run = true →
    Gives (.syncInPulse tick) s fun t =>
      t.reg TSU_SYNC_STAMP = s.time.stamp + BitVec.ofNat 64 tick ∧ t.fld TSU_STATUS TSU_STATUS_SYNC_SEEN = 1 ∧
      (48, (if tick.val = 0 then s.time.fck else s.time.fck + 1) + 2) ∈ t.time.lineAt ∧
      (s.fldOn TSU_SYNC_IN TSU_SYNC_IN_ARM = false →
        KeepsRegs [TSU_SYNC_STAMP, TSU_STATUS] s t ∧ { t with regs := s.regs, time := { t.time with lineAt := s.time.lineAt } } = s) ∧
      (s.fldOn TSU_SYNC_IN TSU_SYNC_IN_ARM = true → (s.fldOn TSU_SYNC_IN TSU_SYNC_IN_EPOCH = true → s.queuesOff = true) →
        t.fld TSU_SYNC_IN TSU_SYNC_IN_ARM = 0 ∧ KeepsRegs [TSU_SYNC_STAMP, TSU_STATUS, TSU_SYNC_IN] s t ∧
        { t with regs := s.regs, time := { t.time with lineAt := s.time.lineAt, sync := s.time.sync } } = s ∧
        t.time.sync = s.time.sync ++ [{ left := 64
                                        load := if s.fldOn TSU_SYNC_IN TSU_SYNC_IN_LOAD then
                                            some (s.timeRegs TSU_SYNC_LOAD_NS TSU_SYNC_LOAD_SEC + s.fld TSU_SYNC_IN TSU_SYNC_IN_COMP * 24576
                                              + (64 * 40 - tick.val) * unitsPerTick)
                                          else none
                                        stamp := if s.fldOn TSU_SYNC_IN TSU_SYNC_IN_EPOCH then
                                            some (BitVec.ofNat 64 ((s.fld TSU_SYNC_IN TSU_SYNC_IN_COMP * 384 + 5000) / 10000 + (64 * 40 - tick.val)))
                                          else none }])) ∧
  (∀ (s : State) (v : Nat) (rest : List SyncPend), s.time.sync = { left := 0, load := some v, stamp := none } :: rest → (∀ p ∈ rest, p.left ≠ 0) →
    Gives .syncLoadApply s fun t => t.time.dev = v % devWrap ∧ t.time.stamp = s.time.stamp ∧ t.time.sync = rest ∧
      t.fld TSU_STATUS TSU_STATUS_BRIDGED = 0) ∧
  (∀ (s : State) (data : Data), s.fldOn TSU_SYNC_IN TSU_SYNC_IN_ARM = false →
    (s.ready TSU_SYNC_IN = true → Gives (.syncInWrite .syncIn data) s fun t => RegsOnly [TSU_SYNC_IN] s t ∧
      t.reg TSU_SYNC_IN = plainWrite TSU_SYNC_IN_info (s.reg TSU_SYNC_IN) data) ∧
    (s.ready TSU_SYNC_LOAD_NS = true → Gives (.syncInWrite .loadNs data) s fun t => RegsOnly [TSU_SYNC_LOAD_NS] s t ∧
      t.reg TSU_SYNC_LOAD_NS = plainWrite TSU_SYNC_LOAD_NS_info (s.reg TSU_SYNC_LOAD_NS) data) ∧
    (s.ready TSU_SYNC_LOAD_SEC = true → Gives (.syncInWrite .loadSec data) s fun t => RegsOnly [TSU_SYNC_LOAD_SEC] s t ∧
      t.reg TSU_SYNC_LOAD_SEC = plainWrite TSU_SYNC_LOAD_SEC_info (s.reg TSU_SYNC_LOAD_SEC) data))

/-- An enabled output whose time has come at this edge fires: compare output k drives line 44 + k at this edge, SYNC_OUT raises its contact for
WIDTH fabric cycles, at least 4. With PERIOD 0 its EN clears and no other register changes; otherwise its two time registers advance by PERIOD
nanoseconds and it stays enabled. A write of CMP.CTL or SYNC_OUT with a PERIOD from 1 to 999 is refused with reason 5 and leaves the
register; any other is written by the access types of its fields. -/
def Obligations.TimedOutputs : Prop :=
  (∀ (s : State) (k x : Nat), k < 5 → natBit s.time.outs k = true → s.outTime k = some x →
    let period := natBits (s.reg (outCtl k)).toNat 32 30
    let next := (s.timeRegs (outNs k) (outSec k) + period * unitsPerNs) % devWrap
    let fired (t : State) : Prop :=
      (period = 0 → KeepsRegs [outCtl k] s t ∧ (t.reg (outCtl k)).toNat = (s.reg (outCtl k)).toNat % 2 ^ 63) ∧
      (period ≠ 0 → KeepsRegs [outNs k, outSec k] s t ∧ (t.reg (outNs k)).toNat = devNsWord next ∧ (t.reg (outSec k)).toNat = devSec next)
    (∀ c : Fin 4, c.val = k → Gives (.compareFire c) s fun t => fired t ∧ (44 + k, s.time.fck) ∈ t.time.lineAt ∧
      { t with regs := s.regs, time := { t.time with lineAt := s.time.lineAt, outs := s.time.outs } } = s) ∧
    (k = 4 → Gives .syncOutPulse s fun t => fired t ∧ t.pins.syncOut = true ∧ t.time.outHigh = max 4 (s.fld TSU_SYNC_OUT TSU_SYNC_OUT_WIDTH) ∧
      { t with regs := s.regs, pins := { t.pins with syncOut := s.pins.syncOut }
               time := { t.time with outHigh := s.time.outHigh, outTick := s.time.outTick, outs := s.time.outs } } = s)) ∧
  (∀ (s : State) (data : Data), s.ready TSU_SYNC_OUT = true →
    let new := plainWrite TSU_SYNC_OUT_info (s.reg TSU_SYNC_OUT) data
    (1 ≤ natBits new.toNat 32 30 ∧ natBits new.toNat 32 30 ≤ 999 → Gives (.syncOutWrite data) s fun t => EventOnly [TSU_STATUS] s t ∧
      Logs 0x0601 s t ∧ t.fld TSU_STATUS TSU_STATUS_REASON = 5) ∧
    (natBits new.toNat 32 30 = 0 ∨ 1000 ≤ natBits new.toNat 32 30 → Gives (.syncOutWrite data) s fun t =>
      RegsOnly [TSU_SYNC_OUT] s t ∧ t.reg TSU_SYNC_OUT = new)) ∧
  (∀ (s : State) (k : Fin 4) (data : Data), s.ready (TSU_CMP_CTL k) = true →
    let new := plainWrite TSU_CMP_CTL_info (s.reg (TSU_CMP_CTL k)) data
    (1 ≤ natBits new.toNat 32 30 ∧ natBits new.toNat 32 30 ≤ 999 → Gives (.cmpCtlWrite k data) s fun t => EventOnly [TSU_STATUS] s t ∧
      Logs 0x0601 s t ∧ t.fld TSU_STATUS TSU_STATUS_REASON = 5) ∧
    (natBits new.toNat 32 30 = 0 ∨ 1000 ≤ natBits new.toNat 32 30 → Gives (.cmpCtlWrite k data) s fun t =>
      RegsOnly [TSU_CMP_CTL k] s t ∧ t.reg (TSU_CMP_CTL k) = new))

/-- With the root running, counts started and no set, load or re-epoch due, FABRIC_CYCLE advances the FCK count by 1, the stamp by 40 ticks and device time by
1/4.8 ns times 5; at the first edge after the root's first lock both stand as they were. STAMP_WRAP with a wrap due sets WRAPPED and raises one
event. NOW_READ answers device time; from the host without peek it also latches NOW_SEC and NOW_STAMP; from the debug port it changes nothing
but the answer. BRIDGE_END with END 1, and BRIDGE_HOLD_EXPIRY with a HOLD other than 0, clear BRIDGED and leave the rest of TSU.STATUS. -/
def Obligations.CountsAdvance : Prop :=
  (∀ (s : State) (inp : FabricIn), s.clk.rootRun = true → (∀ p ∈ s.time.sync, p.left ≠ 0) → s.time.setDue = none → s.time.epochDue = false →
    (s.time.run = true → Gives (.fabricCycle inp) s fun t => t.time.fck = s.time.fck + 1 ∧ t.time.stamp = s.time.stamp + 40 ∧
      t.time.dev = (s.time.dev + unitsPerEdge) % devWrap) ∧
    (s.time.run = false → Gives (.fabricCycle inp) s fun t => t.time.run = true ∧ t.time.fck = s.time.fck ∧ t.time.stamp = s.time.stamp ∧
      t.time.dev = s.time.dev)) ∧
  (∀ s : State, s.time.wrapDue = true → Gives .stampWrap s fun t => t.fld TSU_STATUS TSU_STATUS_WRAPPED = 1 ∧
    EventOnly [TSU_STATUS] { s with time := { s.time with wrapDue := false } } t ∧ Logs 0x0602 s t) ∧
  (∀ s : State, s.ready TSU_NOW_NS = true →
    (s.fldOn DBG_PEEK DBG_PEEK_PEEK = false → Gives (.nowRead .host) s fun t =>
      t.host.answer = some (toBytes 8 (devNsWord s.time.dev % 2 ^ 64)) ∧ t.reg TSU_NOW_SEC = BitVec.ofNat 64 (devSec s.time.dev) ∧
      t.reg TSU_NOW_STAMP = s.time.stamp ∧ KeepsRegs [TSU_NOW_SEC, TSU_NOW_STAMP] s t ∧
      { t with regs := s.regs, host := { t.host with answer := s.host.answer } } = s) ∧
    Gives (.nowRead .debug) s fun t => t.host.answer = some (toBytes 8 (devNsWord s.time.dev % 2 ^ 64)) ∧ KeepsRegs [] s t ∧
      { t with regs := s.regs, host := { t.host with answer := s.host.answer } } = s) ∧
  (∀ (s : State) (data : Data), s.ready TSU_BRIDGE = true → TSU_BRIDGE_END.on data = true →
    Gives (.bridgeEnd data) s fun t => t.fld TSU_STATUS TSU_STATUS_BRIDGED = 0 ∧ RegsOnly [TSU_STATUS, TSU_BRIDGE] s t ∧
      t.reg TSU_STATUS = TSU_STATUS_BRIDGED.put (s.reg TSU_STATUS) 0) ∧
  (∀ s : State, s.fld TSU_BRIDGE TSU_BRIDGE_HOLD ≠ 0 →
    Gives .bridgeHoldExpiry s fun t => t.fld TSU_STATUS TSU_STATUS_BRIDGED = 0 ∧ RegsOnly [TSU_STATUS] s t ∧
      t.reg TSU_STATUS = TSU_STATUS_BRIDGED.put (s.reg TSU_STATUS) 0)

/-! ### Clocks (chapter 19) -/

/-- On an awake device whose root does not run and owes no bridging, ROOT_LOCK makes it run and locked, and every controller that is OFF with its
domain up begins to train; in holdover with REFIN back it ends the holdover. ROOT_WAIT_EVENT before the first lock raises event 0x0106 and nothing
else. REFIN_LOST while the root runs sets REFIN_LOST, puts the root and the counts in holdover, voids the measured ratio and raises event 0x0101.
REFIN_PRESENT while the root runs in holdover ends it with the time it took in TSU.HOLD, and raises event 0x0102. -/
def Obligations.RootAndReference : Prop :=
  (∀ (s : State) (aon : Data), s.awake = true → s.clk.rootRun = false → s.time.bridgeDue = false →
    Gives (.rootLock aon) s fun t =>
      RegsOnly ([CLK_STATUS, TSU_STATUS] ++ (List.range 32).map DRMC_STATUS)
        { s with clk := { s.clk with refin := true, rootEver := true, rootRun := true } } t ∧
      t.fld CLK_STATUS CLK_STATUS_ROOT = 1 ∧ t.fld TSU_STATUS TSU_STATUS_LOCKED = 1 ∧
      ∀ p : CtlNo, t.ctlState p = if s.ctlState p = ctlOff ∧ (s.dom (0x200 + p.val)).st = domUp then ctlTraining else s.ctlState p) ∧
  (∀ s : State, s.awake = true → s.clk.rootEver = false → Gives .rootWaitEvent s fun t => EventOnly [] s t ∧ Logs 0x0106 s t) ∧
  (∀ s : State, s.clk.refin = true → s.clk.rootRun = true →
    Gives .refinLost s fun t =>
      EventOnly [CLK_STATUS, TSU_STATUS, CLK_FMETER_RES, TSU_BRIDGE_RATIO]
        { s with clk := { s.clk with refin := false }, time := { s.time with hold := some (s.time.hold.getD 0) } } t ∧
      t.fld CLK_STATUS CLK_STATUS_REFIN_LOST = 1 ∧ t.fld CLK_STATUS CLK_STATUS_ROOT = 2 ∧ t.fld TSU_STATUS TSU_STATUS_HOLDOVER = 1 ∧
      t.fld TSU_STATUS TSU_STATUS_LOCKED = 0 ∧ t.fld TSU_BRIDGE_RATIO TSU_BRIDGE_RATIO_VALID = 0 ∧ Logs 0x0101 s t) ∧
  (∀ s u : State, s.time.hold.isSome = true → s.clk.rootRun = true →
    u = { s with clk := { s.clk with refin := true }, time := { s.time with hold := none } } →
    let ended (t : State) : Prop := t.fld CLK_STATUS CLK_STATUS_ROOT = 1 ∧ t.fld TSU_STATUS TSU_STATUS_HOLDOVER = 0 ∧
      t.fld TSU_STATUS TSU_STATUS_LOCKED = 1 ∧ t.reg TSU_HOLD = BitVec.ofNat 64 s.holdNow ∧ Logs 0x0102 s t ∧
      EventOnly [CLK_STATUS, TSU_STATUS, TSU_HOLD] u t
    (s.clk.refin = false → Gives .refinPresent s ended) ∧
    (∀ aon, s.awake = true → s.clk.refin = true → Gives (.rootLock aon) s ended))

/-- With the oscillator ready, CRYSTAL_LOST runs the management class from it, voids the measured ratio and records XTAL_LOST with event 0x0103.
The crystal's first qualification makes it the source. IOSC_READY shows the oscillator ready and, at its first start with no crystal trip behind
it, releases the management domain. IOSC_LOST while the crystal is the source records IOSC_FAIL with event 0x0105. IOSC_READY_TIMEOUT in the wait after a crystal trip asserts
FAULT#. -/
def Obligations.ManagementClock : Prop :=
  (∀ s : State, s.clk.xtal = true → s.clk.iosc = .ready →
    Gives .crystalLost s fun t => t.fld CLK_STATUS CLK_STATUS_XTAL_OK = 0 ∧
      t.fld CLK_STATUS CLK_STATUS_MGMT_SRC = 0 ∧ t.fld CLK_STATUS CLK_STATUS_XTAL_LOST = 1 ∧ Logs 0x0103 s t ∧
      t.fld TSU_BRIDGE_RATIO TSU_BRIDGE_RATIO_VALID = 0 ∧
      EventOnly [CLK_STATUS, CLK_FMETER_RES, TSU_BRIDGE_RATIO] { s with clk := { s.clk with xtal := false, xtalGap := !s.clk.rootRun } } t) ∧
  (∀ s : State, s.clk.xtal = false → s.clk.xtalWas = false → s.pwr.powered = true →
    Gives .crystalQualified s fun t => RegsOnly [CLK_STATUS] { s with clk := { s.clk with xtal := true, xtalWas := true } } t ∧
      t.fld CLK_STATUS CLK_STATUS_XTAL_OK = 1 ∧ t.fld CLK_STATUS CLK_STATUS_MGMT_SRC = 1) ∧
  (∀ s : State, s.clk.iosc ≠ .ready → s.awake = true →
    s.clk.mgmtReset = false ∨ (s.clk.ioscWait = false ∧ s.clk.iosc = .starting) →
    Gives .ioscReady s fun t => RegsOnly [CLK_STATUS] { s with clk := { s.clk with iosc := .ready, mgmtReset := false } } t ∧
      t.fld CLK_STATUS CLK_STATUS_IOSC_READY = 1) ∧
  (∀ s : State, s.clk.iosc = .ready → s.fldOn CLK_STATUS CLK_STATUS_MGMT_SRC = true →
    Gives .ioscLost s fun t => EventOnly [CLK_STATUS, CLK_FMETER_RES] { s with clk := { s.clk with iosc := .lost } } t ∧
      t.fld CLK_STATUS CLK_STATUS_IOSC_READY = 0 ∧ t.fld CLK_STATUS CLK_STATUS_IOSC_FAIL = 1 ∧ Logs 0x0105 s t) ∧
  (∀ s : State, s.clk.ioscWait = true → s.clk.iosc = .starting →
    Gives .ioscReadyTimeout s (RegsOnly [] { s with pins := { s.pins with fault := true } }))

/-- GATE_WRITE sets the selected node's gate where no reason refuses it, and otherwise records the reason (0 stands for 4) with event 0x0107 and leaves every gate.
FMETER_GO on an idle meter with both sources present starts a measurement: VALID 0, BUSY 1. FMETER_DONE of one whose
sources are present ends it: VALID 1, BUSY 0, the count in COUNT; a measurement of REFIN against the crystal gives TSU.BRIDGE_RATIO its ratio, valid
where the gate had 2^20 cycles or more. -/
def Obligations.GatesAndMeter : Prop :=
  (∀ (s : State) (data : Data), s.ready CLK_GATE = true →
    let n := s.fld CLK_GATE_SEL CLK_GATE_SEL_NODE
    (s.gateRefusal n (CLK_GATE_EN.on data) = none → Gives (.gateWrite data) s fun t =>
      (n ∈ t.clk.gatedNodes ↔ CLK_GATE_EN.on data = false) ∧ (∀ m, m ≠ n → (m ∈ t.clk.gatedNodes ↔ m ∈ s.clk.gatedNodes)) ∧
      t.fld CLK_GATE CLK_GATE_EN = bit01 (CLK_GATE_EN.on data) ∧ KeepsRegs [CLK_GATE] s t ∧
      { t with regs := s.regs, clk := { t.clk with gatedNodes := s.clk.gatedNodes } } = s) ∧
    (∀ r, s.gateRefusal n (CLK_GATE_EN.on data) = some r → Gives (.gateWrite data) s fun t => EventOnly [CLK_GATE] s t ∧ Logs 0x0107 s t ∧
      t.fld CLK_GATE CLK_GATE_REFUSED = 1 ∧ t.fld CLK_GATE CLK_GATE_REASON = r % 4)) ∧
  (∀ (s : State) (data : Data), s.ready CLK_FMETER_CTL = true → s.meterBusy = false → CLK_FMETER_CTL_GO.on data = true →
    let u := s.writeReg CLK_FMETER_CTL data
    u.fld CLK_FMETER_CTL CLK_FMETER_CTL_REF < 10 → u.fld CLK_FMETER_CTL CLK_FMETER_CTL_MEAS < 10 →
    u.sourceLost (u.fld CLK_FMETER_CTL CLK_FMETER_CTL_REF) = false → u.sourceLost (u.fld CLK_FMETER_CTL CLK_FMETER_CTL_MEAS) = false →
    Gives (.fmeterGo data) s fun t => RegsOnly [CLK_FMETER_CTL, CLK_FMETER_RES] s t ∧ t.meterBusy = true ∧
      t.fld CLK_FMETER_RES CLK_FMETER_RES_VALID = 0) ∧
  (∀ (s : State) (count : BitVec 48), s.meterBusy = true → s.sourceLost (s.fld CLK_FMETER_CTL CLK_FMETER_CTL_REF) = false →
    s.sourceLost (s.fld CLK_FMETER_CTL CLK_FMETER_CTL_MEAS) = false →
    let log2 := min (max (s.fld CLK_FMETER_CTL CLK_FMETER_CTL_LOG2) 10) 30
    let ofXtal := s.fld CLK_FMETER_CTL CLK_FMETER_CTL_REF = 1 ∧ s.fld CLK_FMETER_CTL CLK_FMETER_CTL_MEAS = 0
    Gives (.fmeterDone count) s fun t => RegsOnly [CLK_FMETER_RES, TSU_BRIDGE_RATIO] s t ∧ t.meterBusy = false ∧
      t.fld CLK_FMETER_RES CLK_FMETER_RES_VALID = 1 ∧ t.fld CLK_FMETER_RES CLK_FMETER_RES_COUNT = count.toNat ∧
      (ofXtal → t.fld TSU_BRIDGE_RATIO TSU_BRIDGE_RATIO_VALID = bit01 (decide (20 ≤ log2)) ∧
        t.fld TSU_BRIDGE_RATIO TSU_BRIDGE_RATIO_RATIO = count.toNat * 2 ^ 44 / 2 ^ log2 % 2 ^ TSU_BRIDGE_RATIO_RATIO.w) ∧
      (¬ofXtal → t.reg TSU_BRIDGE_RATIO = s.reg TSU_BRIDGE_RATIO))

/-! ### The host link (chapter 15) -/

/-- EVT_BASE_WRITE with EN 1 in the register and in the data changes nothing; any other writes BASE, and a write that sets EN also zeroes HEAD
and TAIL. EVT_HEAD_WRITE above TAIL or below the present HEAD changes nothing, any other becomes HEAD.
EVT_CFG_WRITE writes the register while EN is 0, and while EN is 1 only VECTOR. Nothing else changes. -/
def Obligations.EventRingRegisters : Prop :=
  (∀ (s : State) (data : Data), s.ready EVT_BASE = true →
    (s.fldOn EVT_BASE EVT_BASE_EN = true → EVT_BASE_EN.on data = true → Gives (.evtBaseWrite data) s (RegsOnly [] s)) ∧
    (EVT_BASE_EN.on data = false → Gives (.evtBaseWrite data) s fun t => RegsOnly [EVT_BASE] s t ∧
      t.reg EVT_BASE = plainWrite EVT_BASE_info (s.reg EVT_BASE) data) ∧
    (s.fldOn EVT_BASE EVT_BASE_EN = false → EVT_BASE_EN.on data = true →
      Gives (.evtBaseWrite data) s fun t => RegsOnly [EVT_BASE, EVT_HEAD, EVT_TAIL] s t ∧
        t.reg EVT_BASE = plainWrite EVT_BASE_info (s.reg EVT_BASE) data ∧ t.reg EVT_HEAD = 0 ∧ t.reg EVT_TAIL = 0)) ∧
  (∀ (s : State) (data : Data), s.ready EVT_HEAD = true →
    ((s.reg EVT_TAIL).toNat < data.toNat ∨ data.toNat < (s.reg EVT_HEAD).toNat → Gives (.evtHeadWrite data) s (RegsOnly [] s)) ∧
    ((s.reg EVT_HEAD).toNat ≤ data.toNat → data.toNat ≤ (s.reg EVT_TAIL).toNat →
      Gives (.evtHeadWrite data) s fun t => RegsOnly [EVT_HEAD] s t ∧ t.reg EVT_HEAD = data)) ∧
  (∀ (s : State) (data : Data), s.ready EVT_CFG = true →
    (s.fldOn EVT_BASE EVT_BASE_EN = false → Gives (.evtCfgWrite data) s fun t => RegsOnly [EVT_CFG] s t ∧
      t.reg EVT_CFG = plainWrite EVT_CFG_info (s.reg EVT_CFG) data) ∧
    (s.fldOn EVT_BASE EVT_BASE_EN = true → Gives (.evtCfgWrite data) s fun t => RegsOnly [EVT_CFG] s t ∧
      t.reg EVT_CFG = EVT_CFG_VECTOR.put (s.reg EVT_CFG) (EVT_CFG_VECTOR.get data)))

/-- A BAR4 access within the BAR that its memory, DRAM from the window's base or an oasis, carries out without error answers a read's bytes and
changes nothing but what that access changes; at the departed device a write changes nothing and a read is answered with an abort. HOST_LINK_DOWN takes
the link down and nothing else. LINK_RETURN brings the link up, ends PERST# and WAKE#, and issues the held transfers in order. EJECT_FALL of a device that
works starts the departure: QIF.STATUS STATE 3 and the read of the page due, and nothing else beside the journal where no player holds an item; while it
sleeps or a recovery step runs, the departure waits. EJECT_RISE ends the low level alone. When the departure's read ends with the link up, the last event
has code 0x000C and QIF.STATUS STATE is 4. -/
def Obligations.LinkAndSlot : Prop :=
  (∀ (s : State) (off : Nat) (acc : MemAcc), s.hostReaches = true → off < 2 ^ s.host.bar4 →
    let answered (r : State × Nat × List Byte) : State :=
      if accWrites acc then r.1 else { r.1 with host := { r.1.host with answer := some r.2.2 } }
    (s.qif = 4 → Gives (.bar4Access off acc) s (RegsOnly [] (if accWrites acc then s else { s with host := { s.host with answer := none } }))) ∧
    (s.qif ≠ 4 → s.fldOn QIF_BAR4_WIN QIF_BAR4_WIN_SPACE = false →
      let r := s.dramAcc 0 (s.bar4Base + off) acc
      r.2.1 = 0 → Gives (.bar4Access off acc) s (RegsOnly [] (answered r))) ∧
    (s.qif ≠ 4 → s.fldOn QIF_BAR4_WIN QIF_BAR4_WIN_SPACE = true → off < 2 ^ 31 →
      let r := s.oasAcc (off / 2 ^ 30 * 64 + off / 2 ^ 24 % 64) 0 (off % 2 ^ 24) acc
      r.2.1 = 0 → Gives (.bar4Access off acc) s (RegsOnly [] (answered r)))) ∧
  (∀ s : State, Gives .hostLinkDown s (RegsOnly [] { s with host := { s.host with linkUp := false } })) ∧
  (∀ s : State, s.host.linkUp = false → s.host.present = true →
    let u := { s with host := { s.host with linkUp := true, held := [] }, pins := { s.pins with perst := false, wake := false } }
    (s.qif ≠ 4 → Gives .linkReturn s (RegsOnly [] (s.host.held.foldl (fun v h => v.issueHeld h) u))) ∧
    (s.qif = 4 → Gives .linkReturn s (RegsOnly [] u))) ∧
  (∀ s : State, s.pins.eject = false → s.pwr.powered = true → s.qif ≠ 3 → s.qif ≠ 4 →
    (s.qif = 1 ∨ s.sup.kind ≠ 0 ∨ s.pwr.st = .rest ∨ s.pwr.st = .dormant →
      Gives .ejectFall s (RegsOnly [] { s with jr := { s.jr with departDue := true }, pins := { s.pins with eject := true } })) ∧
    (s.qif ≠ 1 → s.sup.kind = 0 → s.pwr.st ≠ .rest → s.pwr.st ≠ .dormant →
      Gives .ejectFall s fun t => t.pins.eject = true ∧ t.fld QIF_STATUS QIF_STATUS_STATE = 3 ∧ t.jr.departing.isSome = true ∧
        ((∀ p, p < 48 → (s.player p).cur = none) → t.jr.departing = some s.startedEntries.length ∧ KeepsRegs [QIF_STATUS] s t ∧
          { t with regs := s.regs, jr := s.jr, pins := { t.pins with eject := false }
                   host := { t.host with mem := s.host.mem, held := s.host.held } } = s))) ∧
  (∀ s : State, Gives .ejectRise s (RegsOnly [] { s with pins := { s.pins with eject := false } })) ∧
  (∀ (s : State) (res : HostRead) (n : Nat), s.jr.departing = some n → s.host.linkUp = true → s.host.present = true →
    Gives (.departureReadComplete res) s fun t => t.fld QIF_STATUS QIF_STATUS_STATE = 4 ∧ t.jr.departing = none ∧ LastEvent 0x000C t)

/-! ### Port lanes, FEC and GIO (chapter 04) -/

/-- With both directions DISABLED and no item at the lane's player, a write of LANE.CFG that changes no enable is written by its access types; so is one
of RATE and of ALIGN_CTL, and one of PORT with TX_LEAD at least 4 that leaves both directions unbound, or changes one direction and is not refused by
R338, whose claims then stand. RX_ENABLE and TX_ENABLE that pass every check of R559 go to ACQUIRE and to STARTING with a valid equalisation entry.
RX_DISABLE and TX_DISABLE end DISABLED, with no entry; other lanes keep their state, and a write that changes nothing else leaves everything else. -/
def Obligations.LaneConfiguration : Prop :=
  (∀ (s : State) (n : LaneNo) (data : Data), s.rxState n = rxDisabled → s.txState n = txDisabled →
    (s.ready (LANE_CFG n) = true →
      let new := plainWrite LANE_CFG_info (s.reg (LANE_CFG n)) data
      let u := s.setReg (LANE_CFG n) new
      let was := s.reg (LANE_CFG n)
      (s.player n).cur = none →
      (LANE_CFG_RX_EN.on new = LANE_CFG_RX_EN.on was → LANE_CFG_TX_EN.on new = LANE_CFG_TX_EN.on was →
        Gives (.laneCfgWrite n data) s fun t => RegsOnly [LANE_CFG n] s t ∧ t.reg (LANE_CFG n) = new) ∧
      (LANE_CFG_RX_EN.on was = false → LANE_CFG_RX_EN.on new = true → LANE_CFG_TX_EN.on new = LANE_CFG_TX_EN.on was →
        s.padsOn n = true → u.rxFault n = none →
        Gives (.rxEnable n data) s fun t => t.rxState n = rxAcquire ∧ t.fldOn (LANE_EQ_SET n) LANE_EQ_SET_RX_VALID = true ∧
          KeepsRegs [LANE_CFG n, LANE_EQ_SET n, LANE_STATUS n] s t ∧ { t with regs := s.regs, lanes := s.lanes } = s ∧
          ∀ m : LaneNo, m ≠ n → t.lane m = s.lane m) ∧
      (LANE_CFG_TX_EN.on was = false → LANE_CFG_TX_EN.on new = true → LANE_CFG_RX_EN.on new = LANE_CFG_RX_EN.on was →
        s.padsOn n = true → u.txFault n = none →
        Gives (.txEnable n data) s fun t => t.txState n = txStarting ∧ t.fldOn (LANE_EQ_SET n) LANE_EQ_SET_TX_VALID = true ∧
          KeepsRegs [LANE_CFG n, LANE_EQ_SET n, LANE_STATUS n] s t ∧ { t with regs := s.regs, lanes := s.lanes } = s ∧
          ∀ m : LaneNo, m ≠ n → t.lane m = s.lane m)) ∧
    (s.ready (LANE_RATE n) = true → Gives (.laneRateWrite n data) s fun t => RegsOnly [LANE_RATE n] s t ∧
      t.reg (LANE_RATE n) = plainWrite LANE_RATE_info (s.reg (LANE_RATE n)) data) ∧
    (s.ready (LANE_ALIGN_CTL n) = true → Gives (.laneAlignCtlWrite n data) s fun t => RegsOnly [LANE_ALIGN_CTL n] s t ∧
      t.reg (LANE_ALIGN_CTL n) = plainWrite LANE_ALIGN_CTL_info (s.reg (LANE_ALIGN_CTL n)) data) ∧
    (s.ready (LANE_PORT n) = true →
      let new := plainWrite LANE_PORT_info (s.reg (LANE_PORT n)) data
      let was := s.reg (LANE_PORT n)
      let rm := BitVec.ofNat 64 lanePortMasks.1
      let tm := BitVec.ofNat 64 lanePortMasks.2
      4 ≤ LANE_PORT_TX_LEAD.get new →
      (LANE_PORT_RX_BOUND.on was = false → LANE_PORT_TX_BOUND.on was = false → LANE_PORT_RX_BOUND.on new = false → LANE_PORT_TX_BOUND.on new = false →
        Gives (.lanePortWrite n data) s fun t => t.reg (LANE_PORT n) = new ∧ KeepsRegs [LANE_PORT n] s t ∧
          { t with regs := s.regs, fab := { t.fab with claims := s.fab.claims } } = s) ∧
      ((was ^^^ new) &&& tm = 0 → (was ^^^ new) &&& rm ≠ 0 →
        (LANE_PORT_RX_BOUND.on new = true → s.bindRefused (.laneRx n) (LANE_PORT_RX_WELL.get new) (LANE_PORT_RX_CH.get new) 9 (rxClaims n new) 1
          (if LANE_PORT_RX_TOP.on new then 6 else 3) = false) →
        Gives (.lanePortWrite n data) s fun t => t.reg (LANE_PORT n) = new ∧ RegsOnly [LANE_PORT n] (s.setClaims (.laneRx n) (rxClaims n new)) t) ∧
      ((was ^^^ new) &&& rm = 0 → (was ^^^ new) &&& tm ≠ 0 →
        (LANE_PORT_TX_BOUND.on new = true → s.bindRefused (.laneTx n) (LANE_PORT_TX_WELL.get new) (LANE_PORT_TX_CH.get new) 10 (txClaims n new) 1
          (if LANE_PORT_TX_TOP.on new then 6 else 3) = false) →
        Gives (.lanePortWrite n data) s fun t => t.reg (LANE_PORT n) = new ∧ RegsOnly [LANE_PORT n] (s.setClaims (.laneTx n) (txClaims n new)) t))) ∧
  (∀ (s : State) (n : LaneNo) (data : Data), s.ready (LANE_CFG n) = true →
    let new := plainWrite LANE_CFG_info (s.reg (LANE_CFG n)) data
    let was := s.reg (LANE_CFG n)
    (s.player n).cur = none →
    (LANE_CFG_RX_EN.on was = true → LANE_CFG_RX_EN.on new = false → LANE_CFG_TX_EN.on new = LANE_CFG_TX_EN.on was → (s.lane n).margin = none →
      Gives (.rxDisable n data) s fun t => t.rxState n = rxDisabled ∧ t.fld (LANE_EQ_SET n) LANE_EQ_SET_RX_VALID = 0 ∧
        (t.lane n).rxEq = none ∧ (∀ m : LaneNo, m ≠ n → t.lane m = s.lane m) ∧
        (new = LANE_CFG_RX_EN.put was 0 → t.reg (LANE_CFG n) = new ∧ KeepsRegs [LANE_CFG n, LANE_EQ_SET n, LANE_STATUS n] s t ∧
          { t with regs := s.regs, lanes := s.lanes } = s)) ∧
    (LANE_CFG_TX_EN.on was = true → LANE_CFG_TX_EN.on new = false → LANE_CFG_RX_EN.on new = LANE_CFG_RX_EN.on was →
      Gives (.txDisable n data) s fun t => t.txState n = txDisabled ∧ t.fld (LANE_EQ_SET n) LANE_EQ_SET_TX_VALID = 0 ∧
        (t.lane n).txEq = none ∧ (t.lane n).pins = .idle ∧ (∀ m : LaneNo, m ≠ n → t.lane m = s.lane m) ∧
        (new = LANE_CFG_TX_EN.put was 0 → t.reg (LANE_CFG n) = new ∧ KeepsRegs [LANE_CFG n, LANE_EQ_SET n, LANE_STATUS n] s t ∧
          { t with regs := s.regs, lanes := s.lanes } = s)))

/-- SIGNAL_DETECT sets SIGDET alone where the detector runs, and nothing where it does not. RX_LOCK with a signal takes ACQUIRE to LOCKED; ALIGNMENT_GAINED of a framing in step takes LOCKED to
ALIGNED; ALIGNMENT_LOST under the loss rule takes it back to LOCKED and SIGNAL_LOST, with no margin point in progress, to ACQUIRE, each with LOCK_LOST
and event 0x0302. TX_PLL_LOCK of a lane whose player holds nothing takes STARTING to IDLE where TX_IDLE is 1, and to RUN where nothing idles the
lane. DAWN_MATCH with EN 1 and samples that are the wake pattern sets SEEN with event 0x0303. -/
def Obligations.LaneStates : Prop :=
  (∀ (s : State) (n : LaneNo),
    (s.detects n = true → Gives (.signalDetect n) s fun t => RegsOnly [LANE_STATUS n] s t ∧
      t.reg (LANE_STATUS n) = LANE_STATUS_SIGDET.put (s.reg (LANE_STATUS n)) 1) ∧
    (s.detects n = false → Gives (.signalDetect n) s (RegsOnly [] s))) ∧
  (∀ (s : State) (n : LaneNo), s.rxState n = rxAcquire → s.fldOn (LANE_STATUS n) LANE_STATUS_SIGDET = true →
    Gives (.rxLock n) s fun t => t.rxState n = rxLocked ∧ KeepsRegs [LANE_STATUS n] s t ∧
      { t with regs := s.regs, lanes := s.lanes } = s ∧ ∀ m : LaneNo, m ≠ n → t.lane m = s.lane m) ∧
  (∀ (s : State) (n : LaneNo), s.txState n = txStarting → (s.player n).cur = none →
    (s.fldOn (LANE_CFG n) LANE_CFG_TX_IDLE = true →
      Gives (.txPllLock n) s fun t => t.txState n = txIdle ∧ RegsOnly [LANE_STATUS n] s t) ∧
    (s.fldOn (LANE_CFG n) LANE_CFG_TX_IDLE = false → s.ctlIdle n = false → s.playerIdles n = false → s.pwr.st ≠ .quiet →
      Gives (.txPllLock n) s fun t => t.txState n = txRun ∧ KeepsRegs [LANE_STATUS n] s t ∧
        { t with regs := s.regs, lanes := s.lanes, freeCtr := s.freeCtr } = s ∧ ∀ m : LaneNo, m ≠ n → t.lane m = s.lane m)) ∧
  (∀ (s : State) (n : LaneNo), s.rxState n = rxLocked → s.framed n = true → (s.lane n).fr.sync = true →
    Gives (.alignmentGained n) s fun t => t.rxState n = rxAligned ∧ RegsOnly [LANE_STATUS n] s t) ∧
  (∀ (s : State) (n : LaneNo), s.rxState n = rxAligned → (s.lane n).fr.lost = true →
    Gives (.alignmentLost n) s fun t => t.rxState n = rxLocked ∧ t.fld (LANE_STATUS n) LANE_STATUS_LOCK_LOST = 1 ∧ Logs 0x0302 s t ∧
      (t.lane n).rxQ = [] ∧ KeepsRegs ([LANE_STATUS n, LANE_ERRCNT n] ++ eventRegs) s t ∧ ∀ m : LaneNo, m ≠ n → t.lane m = s.lane m) ∧
  (∀ (s : State) (n : LaneNo) (present : Bool), rxLocked ≤ s.rxState n → s.detects n = true → (s.lane n).margin = none →
    Gives (.signalLost n present) s fun t => t.rxState n = rxAcquire ∧ t.fld (LANE_STATUS n) LANE_STATUS_SIGDET = bit01 present ∧
      t.fld (LANE_STATUS n) LANE_STATUS_LOCK_LOST = 1 ∧ Logs 0x0302 s t ∧
      (t.lane n).rxQ = [] ∧ KeepsRegs ([LANE_STATUS n] ++ eventRegs) s t ∧ ∀ m : LaneNo, m ≠ n → t.lane m = s.lane m) ∧
  (∀ (s : State) (n : LaneNo) (peak : Nat) (mv : List Int), s.fldOn (LANE_WAKE n) LANE_WAKE_EN = true → s.isDawn n peak mv = true →
    Gives (.dawnMatch n peak mv) s fun t => t.fld (LANE_WAKE n) LANE_WAKE_SEEN = 1 ∧ EventOnly [LANE_WAKE n] s t ∧ Logs 0x0303 s t)

/-- MARGIN_GO on an idle sampler of a LOCKED lane zeroes MARGIN_RES and starts the point, BUSY 1; below LOCKED it shows VALID and ABORTED and runs none.
MARGIN_POINT_END of a point that GO started shows VALID, the count, at most 2^DWELL, and BUSY 0. FEC_LATCH copies the running counters of the
block's four lanes into its registers and leaves the counters; FEC_CLEAR zeroes both. GIO_CFG_WRITE that meets no other claim and no pair is written. -/
def Obligations.MarginFecGio : Prop :=
  (∀ (s : State) (n : LaneNo) (data : Data), s.ready (LANE_MARGIN n) = true → LANE_MARGIN_GO.on data = true →
    s.fldOn (LANE_MARGIN n) LANE_MARGIN_OWNED = false → s.fldOn (LANE_MARGIN n) LANE_MARGIN_BUSY = false →
    let new := plainWrite LANE_MARGIN_info (s.reg (LANE_MARGIN n)) data
    (rxLocked ≤ s.rxState n →
      Gives (.marginGo n data) s fun t => t.reg (LANE_MARGIN_RES n) = 0 ∧ t.fld (LANE_MARGIN n) LANE_MARGIN_BUSY = 1 ∧
        (t.lane n).margin = some (s.marginRun n none new.toNat) ∧ KeepsRegs [LANE_MARGIN_RES n, LANE_MARGIN n] s t ∧
        { t with regs := s.regs, lanes := s.lanes } = s ∧ ∀ m : LaneNo, m ≠ n → t.lane m = s.lane m) ∧
    (s.rxState n < rxLocked →
      Gives (.marginGo n data) s fun t => t.fld (LANE_MARGIN_RES n) LANE_MARGIN_RES_VALID = 1 ∧ t.fld (LANE_MARGIN_RES n) LANE_MARGIN_RES_ABORTED = 1 ∧
        t.fld (LANE_MARGIN n) LANE_MARGIN_BUSY = 0 ∧ (t.lane n).margin = none ∧ KeepsRegs [LANE_MARGIN_RES n, LANE_MARGIN n] s t ∧
        { t with regs := s.regs, lanes := s.lanes } = s)) ∧
  (∀ (s : State) (n : LaneNo) (errors : BitVec 41) (m : MargRun), (s.lane n).margin = some m → m.owner = none →
    Gives (.marginPointEnd n errors) s fun t => t.fld (LANE_MARGIN_RES n) LANE_MARGIN_RES_VALID = 1 ∧
      t.fld (LANE_MARGIN_RES n) LANE_MARGIN_RES_ERRORS = min errors.toNat (2 ^ m.dwell) ∧ t.fld (LANE_MARGIN_RES n) LANE_MARGIN_RES_ABORTED = 0 ∧
      t.fld (LANE_MARGIN n) LANE_MARGIN_BUSY = 0 ∧ (t.lane n).margin = none ∧ KeepsRegs [LANE_MARGIN_RES n, LANE_MARGIN n] s t ∧
      { t with regs := s.regs, lanes := s.lanes } = s) ∧
  (∀ (s : State) (q : QuadNo) (data : Data), s.ready (FEC_CTL q) = true → FEC_CTL_LATCH.on data = true → FEC_CTL_CLEAR.on data = false →
    Gives (.fecLatch q data) s fun t =>
      RegsOnly (FEC_CTL q :: (List.range 4).flatMap (fun k => [FEC_CW q k, FEC_CORR q k, FEC_UNCORR q k])) s t ∧ ∀ k : Fin 4,
      t.reg (FEC_CW q k) = BitVec.ofNat 64 (s.lane (4 * q + k)).runCw ∧
      t.reg (FEC_CORR q k) = BitVec.ofNat 64 (s.lane (4 * q + k)).runCorr ∧
      t.fld (FEC_UNCORR q k) FEC_UNCORR_UNCORR = (s.lane (4 * q + k)).runUncorr % 2 ^ FEC_UNCORR_UNCORR.w ∧
      t.fld (FEC_UNCORR q k) FEC_UNCORR_THR_CNT = (s.lane (4 * q + k)).runThr % 2 ^ FEC_UNCORR_THR_CNT.w) ∧
  (∀ (s : State) (q : QuadNo) (data : Data), s.ready (FEC_CTL q) = true → FEC_CTL_CLEAR.on data = true →
    Gives (.fecClear q data) s fun t => { t with regs := s.regs, lanes := s.lanes } = s ∧
      KeepsRegs (FEC_CTL q :: (List.range 4).flatMap (fun k => [FEC_CW q k, FEC_CORR q k, FEC_UNCORR q k])) s t ∧
      (∀ m : Nat, m / 4 ≠ q.val → t.lane m = s.lane m) ∧ ∀ k : Fin 4,
      t.reg (FEC_CW q k) = 0 ∧ t.reg (FEC_CORR q k) = 0 ∧ t.reg (FEC_UNCORR q k) = 0 ∧
      t.lane (4 * q + k) = { s.lane (4 * q + k) with runCw := 0, runCorr := 0, runUncorr := 0, runThr := 0 }) ∧
  (∀ (s : State) (k : PinNo) (data : Data), s.ready (GIO_CFG k) = true →
    let new := plainWrite GIO_CFG_info (s.reg (GIO_CFG k)) data
    let mate := s.reg (GIO_CFG (if k.val % 2 = 0 then k + 1 else k - 1 : Nat))
    gioDiff new = false → gioDiff mate = false →
    (gioClaims k new).any (fun a => s.fab.claims.any (fun b => b.who != .gio k && claimsMeet a b)) = false →
    Gives (.gioCfgWrite k data) s fun t => t.reg (GIO_CFG k) = new ∧ KeepsRegs [GIO_CFG k] s t ∧
      { t with regs := s.regs, gio := s.gio, fab := { t.fab with claims := s.fab.claims } } = s)

/-! ### Pattern players (chapter 06) -/

/-- PLAY on an enabled player with no current item and not in FAULT takes the item: PRIMING, its TAG, FRAMES as sent so far; nothing but the player changes
where no limit is asked for yet; on a disabled one the item ends as lane not ready. PRIME_REACHED of a primed item whose lane stands ready asks for the
first limit and, where the item is fetched, changes nothing but the item and its journal entry. JOURNAL_LIMIT_READ puts the limit in force.
START_TIME_REACHED of an armed item whose time has come, whose limit covers its first frame and whose lane stands ready plays. PLAYER_FRAME_END counts the
frame as sent and out of its frame. -/
def Obligations.PlayerItems : Prop :=
  (∀ (s : State) (p : PlayerNo) (c : Running), s.curOp (keyPlayer p) opPlay = some c → (s.player p).cur = none → s.plyState p ≠ pyFault →
    let x := s.playItem p c
    (s.fldOn (SCH_PLY_CFG p) SCH_PLY_CFG_EN = true → x.failed = false →
      Gives (.play p) s fun t => t.plyState p = pyPriming ∧ (t.player p).cur = some { x with primed := false } ∧
        t.fld (SCH_PLY_STATUS p) SCH_PLY_STATUS_TAG = c.item.tag % 2 ^ SCH_PLY_STATUS_TAG.w ∧
        t.reg (SCH_PLY_FRAMES p) = BitVec.ofNat 64 x.sent ∧ KeepsRegs [SCH_PLY_STATUS p, SCH_PLY_FRAMES p] s t ∧
        (∀ m : PlayerNo, m ≠ p → t.player m = s.player m) ∧
        { t with regs := s.regs, ply := s.ply, jr := { t.jr with entries := s.jr.entries }
                 host := { t.host with mem := s.host.mem, held := s.host.held } } = s ∧
        (x.limit = 0 → x.limitAsked = none → { t with regs := s.regs, ply := s.ply } = s)) ∧
    (s.fldOn (SCH_PLY_CFG p) SCH_PLY_CFG_EN = false →
      Gives (.play p) s (RegsOnly [] (s.setCur (keyPlayer p) (some { c with result := some { status := stLaneNotReady } }))))) ∧
  (∀ (s : State) (p : PlayerNo) (x : PlayItem) (g : BitVec 64) (tag : Nat) (first : Bool) (last : Option WalkPos) (rest : List BufGrain),
    (s.player p).cur = some x → s.plyState p = pyPriming → x.primed = false →
    let r := State.fetchTo p (s.primeLevel p) fetchFuel s x
    (r.2.fetched = true ∨ (r.1.setPlay p r.2).primeLevel p ≤ r.2.level) → r.2.buf = .data g tag first last :: rest → r.2.limit = 0 →
    r.2.limitAsked = none → r.2.waits = false → (r.1.setPlay p { r.2 with primed := true }).plyLaneOk p = true → r.1.mayIssue = true →
    Gives (.primeReached p) s fun t =>
      (t.player p).cur = some { r.2 with primed := true, limitAsked := some (r.2.sent + r.2.cut + r.1.plyJwin p) }) ∧
  (∀ (s : State) (p : PlayerNo) (x : PlayItem) (g : BitVec 64) (tag : Nat) (first : Bool) (last : Option WalkPos) (rest : List BufGrain),
    (s.player p).cur = some x → s.plyState p = pyPriming → x.primed = false → x.fetched = true → x.buf = .data g tag first last :: rest →
    x.limit = 0 → x.limitAsked = none → x.waits = false → s.plyLaneOk p = true → s.mayIssue = true →
    let limit := x.sent + x.cut + s.plyJwin p
    let u := s.setPlay p { x with primed := true }
    let y := { x with primed := true, limitAsked := some limit }
    Gives (.primeReached p) s (RegsOnly [] ((u.setPlay p y).journalPut (1 + p) (u.playEntry p y limit)))) ∧
  (∀ (s : State) (p : PlayerNo) (x : PlayItem) (n : Nat), (s.player p).cur = some x → x.limitAsked = some n → s.host.linkUp = true →
    s.plyState p = pyPlaying ∨ s.plyState p = pyStopping →
    Gives (.journalLimitRead p .ok) s (RegsOnly [] (s.setPlay p { x with limit := n, limitAsked := none }))) ∧
  (∀ (s : State) (p : PlayerNo) (x : PlayItem), (s.player p).cur = some x → s.plyState p = pyArmed → x.waits = true →
    s.plyLaneOk p = true → x.sent + x.cut < x.limit →
    (s.plyFabric p = true ∧ x.item.startAt ≤ s.time.dev) ∨ (s.plyFabric p = false ∧ txIdle ≤ s.txState p ∧ x.item.startAt < s.time.dev + edgeUnits) →
    Gives (.startTimeReached p) s fun t => t.plyState p = pyPlaying ∧ (∃ y, (t.player p).cur = some y ∧ y.item = x.item ∧ y.sent = x.sent) ∧
      KeepsRegs [SCH_PLY_STATUS p, SCH_PLY_START_ACT p, LANE_STATUS p] s t ∧
      { t with regs := s.regs, ply := s.ply, lanes := s.lanes, freeCtr := s.freeCtr } = s) ∧
  (∀ (s : State) (p : PlayerNo) (x : PlayItem) (g : BitVec 64) (tag : Nat) (first : Bool) (last : Option WalkPos) (rest : List BufGrain),
    (s.player p).cur = some x → (s.player p).endDue = true → (s.player p).ejected = false → (s.player p).ending = none →
    x.buf = .data g tag first last :: rest →
    Gives (.playerFrameEnd p) s fun t => t.reg (SCH_PLY_FRAMES p) = BitVec.ofNat 64 (x.sent + 1) ∧ KeepsRegs [SCH_PLY_FRAMES p] s t ∧
      (t.player p).cur = some { x with sent := x.sent + 1, inFrame := false } ∧ (t.player p).endDue = false ∧
      { t with regs := s.regs, ply := s.ply, jr := { t.jr with entries := s.jr.entries } } = s)

/-- LANE_TAKES_GRAIN inside a frame takes the next data grain from the buffer and sends it on the lane. LANE_RUN_LOST between frames, with no end of the
item due, returns the player to PRIMING. PLAYER_READ_ERROR between frames ends the item: the player in FAULT with REASON 5 and event 0x0503. While OFF,
CFG is written and EN takes the player to IDLE, FEED and FABRIC are written where they bind nothing or what R338 does not refuse; otherwise a write of
them is refused with REASON 1 and event 0x0501. With no item held, EN 0 takes the player to OFF. -/
def Obligations.PlayerCasesAndSetup : Prop :=
  (∀ (s : State) (p : PlayerNo) (x : PlayItem) (g g2 : BitVec 64) (tag tag2 : Nat) (first first2 : Bool) (last2 : Option WalkPos)
    (rest : List BufGrain),
    s.txState p = txRun → s.cfgOf p LANE_CFG_TX_SRC = 1 → s.plyFabric p = false → s.time.run = true → s.plyState p = pyPlaying →
    (s.player p).cur = some x → (s.player p).endDue = false → x.inFrame = true → x.begun = true →
    x.buf = .data g tag first none :: .data g2 tag2 first2 last2 :: rest →
    Gives (.laneTakesGrain p) s (RegsOnly [] ((s.setPlayer p { s.player p with cur := some { x with
      buf := .data g2 tag2 first2 last2 :: rest, stalled := false } }).txSend p [(g, tag)]))) ∧
  (∀ (s : State) (p : PlayerNo) (x : PlayItem), (s.player p).cur = some x → (s.player p).endDue = false → x.inFrame = false →
    (s.player p).ejected = false → (s.player p).ending = none →
    x.buf = [] ∨ (∃ n r, x.buf = .gap n :: r) ∨ (∃ g tag first last r, x.buf = .data g tag first last :: r) →
    s.plyFabric p = false → s.plyState p = pyPlaying ∨ s.plyState p = pyStopping →
    Gives (.laneRunLost p) s fun t => t.plyState p = pyPriming ∧ RegsOnly [SCH_PLY_STATUS p] (s.setPlay p { x with primed := false }) t) ∧
  (∀ (s : State) (p : PlayerNo) (x : PlayItem) (status : RingStatus), (s.player p).cur = some x → (s.player p).endDue = false →
    x.inFrame = false → status ≠ .success →
    Gives (.playerReadError p status) s fun t => t.plyState p = pyFault ∧ (t.player p).cur = none ∧
      t.fld (SCH_PLY_STATUS p) SCH_PLY_STATUS_REASON = 5 ∧ Logs 0x0503 s t ∧ KeepsRegs ([SCH_PLY_STATUS p, LANE_STATUS p] ++ eventRegs) s t ∧
      (∀ c, s.cur (keyPlayer p) = some c → (t.resultOf (keyPlayer p)).map (fun r => (r.status, r.count)) =
        some (stBusError (ringStatusCode status), x.sent))) ∧
  (∀ (s : State) (p : PlayerNo) (data : Data),
    (s.ready (SCH_PLY_CFG p) = true → s.plyState p = pyOff →
      SCH_PLY_CFG_EN.on (plainWrite SCH_PLY_CFG_info (s.reg (SCH_PLY_CFG p)) data) = true →
      Gives (.playerCfgWrite p .cfg data) s fun t => KeepsRegs [SCH_PLY_CFG p, SCH_PLY_STATUS p, LANE_STATUS p] s t ∧ t.plyState p = pyIdle ∧
        t.reg (SCH_PLY_CFG p) = plainWrite SCH_PLY_CFG_info (s.reg (SCH_PLY_CFG p)) data ∧
        { t with regs := s.regs, lanes := s.lanes, freeCtr := s.freeCtr } = s) ∧
    (s.ready (SCH_PLY_CFG p) = true → s.plyState p ≠ pyOff → s.plyHolds p = false →
      plainWrite SCH_PLY_CFG_info (s.reg (SCH_PLY_CFG p)) data = SCH_PLY_CFG_EN.put (s.reg (SCH_PLY_CFG p)) 0 →
      Gives (.playerCfgWrite p .cfg data) s fun t => RegsOnly [SCH_PLY_CFG p, SCH_PLY_STATUS p] s t ∧ t.plyState p = pyOff ∧
        t.reg (SCH_PLY_CFG p) = SCH_PLY_CFG_EN.put (s.reg (SCH_PLY_CFG p)) 0) ∧
    (s.ready (SCH_PLY_FEED p) = true → s.plyState p = pyOff →
      let new := plainWrite SCH_PLY_FEED_info (s.reg (SCH_PLY_FEED p)) data
      (SCH_PLY_FEED_BOUND.on new = true → 64 * SCH_PLY_FEED_LAYER.get new + SCH_PLY_FEED_GROUP.get new ≠ s.storeGroup ∧
        s.bindRefused (.playerFeed p) (SCH_PLY_FEED_GROUP.get new) (SCH_PLY_FEED_CH.get new) (2 ^ SCH_PLY_FEED_WIDTH.get new) (feedClaims p new) 1
          (if SCH_PLY_FEED_LAYER.on new then 4 else 1) = false) →
      Gives (.playerCfgWrite p .feed data) s fun t => RegsOnly [SCH_PLY_FEED p] (s.setClaims (.playerFeed p) (feedClaims p new)) t ∧
        t.reg (SCH_PLY_FEED p) = new) ∧
    (s.ready (SCH_PLY_FABRIC p) = true → s.plyState p = pyOff →
      let new := plainWrite SCH_PLY_FABRIC_info (s.reg (SCH_PLY_FABRIC p)) data
      let top := if SCH_PLY_FABRIC_TOP.on new then 6 else 3
      let claims := if SCH_PLY_FABRIC_BOUND.on new then
        chanClaims (.playerFabric p) (SCH_PLY_FABRIC_WELL.get new) (SCH_PLY_FABRIC_CH.get new) 9 1 top else []
      (SCH_PLY_FABRIC_BOUND.on new = true →
        s.bindRefused (.playerFabric p) (SCH_PLY_FABRIC_WELL.get new) (SCH_PLY_FABRIC_CH.get new) 11 claims 1 top = false) →
      Gives (.playerCfgWrite p .fabric data) s fun t => RegsOnly [SCH_PLY_FABRIC p] (s.setClaims (.playerFabric p) claims) t ∧
        t.reg (SCH_PLY_FABRIC p) = new) ∧
    (s.plyState p ≠ pyOff →
      let refused (t : State) : Prop := EventOnly [SCH_PLY_STATUS p] s t ∧ Logs 0x0501 s t ∧
        t.fld (SCH_PLY_STATUS p) SCH_PLY_STATUS_CFG_REFUSED = 1 ∧ t.fld (SCH_PLY_STATUS p) SCH_PLY_STATUS_REASON = 1
      (s.ready (SCH_PLY_FEED p) = true → Gives (.playerCfgWrite p .feed data) s refused) ∧
      (s.ready (SCH_PLY_FABRIC p) = true → Gives (.playerCfgWrite p .fabric data) s refused)))

/-! ### Capture queues, their drains, and the trigger sequencer (chapter 05) -/

/-- RING, PORT, DRAIN and the fields of CTL are written while the queue is OFF; otherwise a write of RING, PORT or DRAIN is refused with REASON 6 and
event 0x0401. An enable without a fault leaves a queue in RUN, or a drain queue without AUTOSTART in STOPPED, with an empty ring and its counters zero;
with one it leaves EN 0 and the REASON. A disable leaves it OFF and empty. RD moves by what the consumer has read; with no action of the sequencer at
the edge, DROP_REM drops the oldest record, START and STOP act on a drain queue, FREEZE begins the POST count of an overwriting queue or, with POST 0
and no open record, freezes it, and REARM empties a FROZEN ring. -/
def Obligations.QueueSetupAndCommands : Prop :=
  (∀ (s : State) (q : QueueNo) (data : Data), s.queueState q = qOff →
    (s.ready (CAP_Q_RING q) = true → Gives (.queueConfigWrite q .ring data) s fun t => RegsOnly [CAP_Q_RING q] s t ∧
      t.reg (CAP_Q_RING q) = (s.writeReg (CAP_Q_RING q) data).reg (CAP_Q_RING q)) ∧
    (s.ready (CAP_Q_PORT q) = true → Gives (.queueConfigWrite q .port data) s fun t => RegsOnly [CAP_Q_PORT q] s t ∧
      t.reg (CAP_Q_PORT q) = (s.writeReg (CAP_Q_PORT q) data).reg (CAP_Q_PORT q)) ∧
    (s.ready (CAP_Q_DRAIN q) = true → Gives (.queueConfigWrite q .drain data) s fun t => RegsOnly [CAP_Q_DRAIN q] s t ∧
      t.reg (CAP_Q_DRAIN q) = (s.writeReg (CAP_Q_DRAIN q) data).reg (CAP_Q_DRAIN q)) ∧
    (s.ready (CAP_Q_CTL q) = true →
      let old := s.reg (CAP_Q_CTL q)
      let new := plainWrite CAP_Q_CTL_info old data
      let put := CAP_Q_CTL_EN.put new (CAP_Q_CTL_EN.get old)
      let u := s.setReg (CAP_Q_CTL q) put
      CAP_Q_CTL_MODE.get new ≠ 3 →
      (CAP_Q_CTL_EN.on new = false → Gives (.queueConfigWrite q .ctl data) s fun t => RegsOnly [CAP_Q_CTL q] s t ∧ t.reg (CAP_Q_CTL q) = put) ∧
      (CAP_Q_CTL_EN.on new = true → u.queueFault q = none →
        Gives (.queueEnable q data) s fun t =>
          t.queueState q = (if u.queueMode q ≠ 2 ∨ u.fldOn (CAP_Q_CTL q) CAP_Q_CTL_AUTOSTART then qRun else qStopped) ∧
          t.fld (CAP_Q_CTL q) CAP_Q_CTL_EN = 1 ∧ (t.capQ q).recs = [] ∧ (t.capQ q).open_ = none ∧
          (∀ o, o ∈ [CAP_Q_CNT_REC q, CAP_Q_CNT_LOSS q, CAP_Q_CNT_ECC q, CAP_Q_CNT_DROP q, CAP_Q_CNT_FAB q] → t.reg o = 0) ∧
          (∀ k, k ≠ q.val → t.capQ k = s.capQ k) ∧
          { t with regs := s.regs, cap := s.cap, fab := { t.fab with claims := s.fab.claims } } = s ∧
          (u.queueMode q ≠ 2 → KeepsRegs [CAP_Q_CTL q, CAP_Q_STATUS q, CAP_Q_WR q, CAP_Q_RD q, CAP_Q_CNT_REC q, CAP_Q_CNT_LOSS q, CAP_Q_CNT_ECC q,
            CAP_Q_CNT_DROP q, CAP_Q_CNT_FAB q] s t)) ∧
      (∀ r, CAP_Q_CTL_EN.on new = true → u.queueFault q = some r →
        Gives (.queueEnable q data) s fun t => EventOnly [CAP_Q_CTL q, CAP_Q_STATUS q] s t ∧ Logs 0x0401 s t ∧
          t.fld (CAP_Q_CTL q) CAP_Q_CTL_EN = 0 ∧ t.fld (CAP_Q_STATUS q) CAP_Q_STATUS_REASON = r % 2 ^ CAP_Q_STATUS_REASON.w))) ∧
  (∀ (s : State) (q : QueueNo) (data : Data), s.queueState q ≠ qOff →
    let refused (t : State) : Prop := EventOnly [CAP_Q_STATUS q] s t ∧ Logs 0x0401 s t ∧ t.fld (CAP_Q_STATUS q) CAP_Q_STATUS_REASON = 6
    (s.ready (CAP_Q_RING q) = true → Gives (.queueConfigWrite q .ring data) s refused) ∧
    (s.ready (CAP_Q_PORT q) = true → Gives (.queueConfigWrite q .port data) s refused) ∧
    (s.ready (CAP_Q_DRAIN q) = true → Gives (.queueConfigWrite q .drain data) s refused) ∧
    (s.ready (CAP_Q_CTL q) = true → CAP_Q_CTL_EN.on (plainWrite CAP_Q_CTL_info (s.reg (CAP_Q_CTL q)) data) = false →
      Gives (.queueDisable q data) s fun t => t.queueState q = qOff ∧ (t.capQ q).recs = [] ∧ (t.capQ q).open_ = none ∧
        t.reg (CAP_Q_CTL q) = CAP_Q_CTL_EN.put (s.reg (CAP_Q_CTL q)) 0)) ∧
  (∀ (s : State) (q : QueueNo) (data : Data), s.ready (CAP_Q_RD q) = true → s.queueState q ≠ qOff → s.queueMode q ≠ 2 →
    let c := s.capQ q
    let v := CAP_Q_RD_OFFSET.get data / 16 * 16
    let n := max 1 (s.ringSize q)
    let delta := (v + n - c.rd % n) % n
    v < n → delta ≤ c.wr - c.rd →
    Gives (.queueRdWrite q data) s fun t => (t.capQ q).rd = c.rd + delta ∧ (t.capQ q).wr = c.wr ∧
      (t.capQ q).recs = c.recs.filter (fun r => !decide (r.pos + r.len ≤ c.rd + delta)) ∧
      KeepsRegs [CAP_Q_STATUS q, CAP_Q_WR q, CAP_Q_RD q] s t ∧ { t with regs := s.regs, cap := s.cap } = s) ∧
  (∀ (s : State) (q : QueueNo), s.ready (CAP_Q_CMD q) = true → s.cap.seq.actions = [] → (s.capQ q).actAt ≠ s.time.fck + 1 →
    (∀ (r : RingRec) (rest : List RingRec), s.queueState q ≠ qOff → s.queueMode q ≠ 2 → (s.capQ q).recs = r :: rest →
      Gives (.cmdDropRem q) s fun t => (t.capQ q).rd = r.pos + r.len ∧ KeepsRegs [CAP_Q_STATUS q, CAP_Q_WR q, CAP_Q_RD q] s t) ∧
    (s.queueMode q = 2 → s.queueState q = qStopped → Gives (.cmdStart q) s fun t => t.queueState q = qRun ∧ RegsOnly [CAP_Q_STATUS q] s t) ∧
    (s.queueMode q = 2 → s.queueState q = qRun → Gives (.cmdStop q) s fun t => t.queueState q = qStopped ∧ RegsOnly [CAP_Q_STATUS q] s t) ∧
    (s.queueMode q = 1 → s.queueState q = qRun → s.fld (CAP_Q_CTL q) CAP_Q_CTL_POST ≠ 0 →
      Gives (.cmdFreeze q) s fun t => t.queueState q = qPost ∧ (t.capQ q).post = s.fld (CAP_Q_CTL q) CAP_Q_CTL_POST ∧
        KeepsRegs [CAP_Q_STATUS q] s t ∧ { t with regs := s.regs, cap := s.cap } = s) ∧
    (s.queueMode q = 1 → s.queueState q = qRun → s.fld (CAP_Q_CTL q) CAP_Q_CTL_POST = 0 → (s.capQ q).open_ = none →
      Gives (.cmdFreeze q) s fun t => t.queueState q = qFrozen ∧ RegsOnly [CAP_Q_STATUS q] s t) ∧
    (s.queueState q = qFrozen → Gives (.cmdRearm q) s fun t => t.queueState q = qRun ∧ (t.capQ q).recs = [] ∧
      (t.capQ q).seq = (s.capQ q).seq ∧ KeepsRegs [CAP_Q_STATUS q, CAP_Q_WR q, CAP_Q_RD q] s t))

/-- RECORD_BEAT of a middle beat with room appends its 32 bytes to the open record. POST_COUNT_EXPIRY with no open record freezes the queue.
QUEUE_ACTION of one due action that starts a stopped drain queue runs it. DRAIN_BURST and TAIL_TIMER_EXPIRY with room in the region leave one
burst out, of the ring's oldest bytes, a tail completed to a line by a pad record; DRAIN_WRITE_ACK of one written frees them and advances the region;
DRAIN_WRITE_ERROR leaves the queue in FAULT with REASON 8 and event 0x0406. A region's CFG is written while no queue owns it, and otherwise
refused with event 0x0407; its RD is a plain write outside CONSUME, and in it moves the reader forward over whole records. -/
def Obligations.RecordsAndDrains : Prop :=
  (∀ (s : State) (q : QueueNo) (o : OpenRec), s.cap.seq.actions = [] → s.time.run = true → s.nodeRuns 5 5 = true → s.fldOn (CAP_Q_PORT q) CAP_Q_PORT_BOUND = true →
    s.queueCh q + 10 ≤ 63 → (s.capQ q).beatAt ≠ s.time.fck + 1 → s.queueState q = qRun → s.queueMode q = 0 → (s.capQ q).open_ = some o →
    natBit (s.portWord q 8) 0 = true → natBit (s.portWord q 8) 10 = false → natBit (s.portWord q 8) 16 = false →
    natBit (s.portWord q 8) 17 = false → o.bytes.length + 32 ≤ s.sliceLimit q → s.queueFits q 32 = true →
    Gives (.recordBeat q) s fun t => (t.capQ q).open_ = some { o with
        bytes := o.bytes ++ (List.range 8).flatMap (fun k => toBytes 4 (s.portWord q k)), offered := min (o.offered + 32) 0xFFFFFFFF
        err := o.err || natBit (s.portWord q 8) 8 } ∧
      KeepsRegs [CAP_Q_STATUS q, CAP_Q_WR q, CAP_Q_RD q] s t ∧ { t with regs := s.regs, cap := s.cap } = s) ∧
  (∀ (s : State) (q : QueueNo), s.queueState q = qPost → (s.capQ q).post = 0 → (s.capQ q).open_ = none →
    Gives (.postCountExpiry q) s fun t => t.queueState q = qFrozen ∧ RegsOnly [CAP_Q_STATUS q] s t) ∧
  (∀ (s : State) (layer : LayerNo) (a : QAction) (q : Nat), s.cap.seq.actions = [a] → a.freeze = false → a.start = true → a.stop = false →
    a.trec = none → (List.range 256).filter (fun q => a.queues.getLsbD q && s.queueLayer q == layer.val) = [q] →
    (layer.val = 0 → a.doneA = false ∧ a.atA ≤ s.time.fck) → (layer.val ≠ 0 → a.doneB = false ∧ a.atB ≤ s.time.fck) →
    s.queueMode q = 2 → s.queueState q = qStopped →
    Gives (.queueAction layer) s fun t => t.queueState q = qRun ∧ KeepsRegs [CAP_Q_STATUS q] s t ∧ { t with regs := s.regs, cap := s.cap } = s) ∧
  (∀ (s : State) (q : QueueNo), s.drainReady q = true → s.burstOf q ≤ s.undrained q →
    s.burstOf q ≤ s.regionRoom (s.queueRegion q) (s.burstOf q) →
    Gives (.drainBurst q) s fun t => ∃ b, (t.capQ q).burst = some b ∧ b.bytes = (s.drainBytes q (s.burstOf q)).2 ∧ b.taken = s.burstOf q ∧
      b.padded = false) ∧
  (∀ (s : State) (q : QueueNo), s.drainReady q = true → 0 < s.undrained q → s.undrained q < s.burstOf q →
    let n := s.undrained q
    let pad := if n % 64 = 0 then []
      else recordBytes q s.time.stamp 0xFFFF (64 * 3) (s.capQ q).seq (List.replicate (48 - n % 64) 0) none noMark
    n + pad.length ≤ s.regionRoom (s.queueRegion q) (n + pad.length) →
    Gives (.tailTimerExpiry q) s fun t => ∃ b, (t.capQ q).burst = some b ∧ b.bytes = (s.drainBytes q n).2 ++ pad ∧ b.taken = n) ∧
  (∀ (s : State) (q : QueueNo) (b : Burst), (s.capQ q).burst = some b → b.status = 0 →
    Gives (.drainWriteAck q) s fun t => (t.capQ q).burst = none ∧ (t.capQ q).rd = (s.capQ q).rd + b.taken ∧
      (t.region (s.queueRegion q)).written = (s.region (s.queueRegion q)).written + b.bytes.length ∧
      { t with regs := s.regs, cap := s.cap, evt := s.evt, host := s.host } = s) ∧
  (∀ (s : State) (q : QueueNo), (s.capQ q).burst.isSome = true →
    Gives (.drainWriteError q) s fun t => t.queueState q = qFault ∧ t.fld (CAP_Q_STATUS q) CAP_Q_STATUS_REASON = 8 ∧ Logs 0x0406 s t ∧
      EventOnly [CAP_Q_STATUS q] (s.setCapQ q { s.capQ q with burst := none }) t) ∧
  (∀ (s : State) (g : RegionNo) (data : Data), s.ready (CAP_REGION_CFG g) = true →
    ((s.region g).queue = none → Gives (.regionCfgWrite g data) s fun t => RegsOnly [CAP_REGION_CFG g] s t ∧
      t.reg (CAP_REGION_CFG g) = (s.writeReg (CAP_REGION_CFG g) data).reg (CAP_REGION_CFG g)) ∧
    ((s.region g).queue.isSome = true → Gives (.regionCfgWrite g data) s fun t => EventOnly [] s t ∧ Logs 0x0407 s t)) ∧
  (∀ (s : State) (g : RegionNo) (data : Data), s.ready (CAP_REGION_RD g) = true →
    let v := CAP_REGION_RD_OFFSET.get data / 64 * 64
    let size := max 1 (regionBytes (s.reg (CAP_REGION_CFG g)))
    let rd := s.fld (CAP_REGION_RD g) CAP_REGION_RD_OFFSET
    let delta := (v + size - rd) % size
    (CAP_REGION_CFG_MODE.get (s.reg (CAP_REGION_CFG g)) ≠ 2 → Gives (.regionRdWrite g data) s fun t => RegsOnly [CAP_REGION_RD g] s t ∧
      t.reg (CAP_REGION_RD g) = BitVec.ofNat 64 v) ∧
    (CAP_REGION_CFG_MODE.get (s.reg (CAP_REGION_CFG g)) = 2 → (s.region g).rdPos % size = rd → (s.region g).rdPos + delta ≤ (s.region g).whole → v < size →
      Gives (.regionRdWrite g data) s fun t => t.reg (CAP_REGION_RD g) = BitVec.ofNat 64 v ∧
        (t.region g).rdPos = (s.region g).rdPos + delta ∧ KeepsRegs [CAP_REGION_RD g, CAP_REGION_STATUS g] s t))

/-- SEQUENCER_RUN, a write of CAP.SEQ.CTL with RUN 1 and the action word's binding accepted, zeroes the counters and timers, enters the START state
and zeroes TRANSITIONS. SWTRIG holds the software line for the next edge. SEQ_COUNTER_EXPIRY and SEQ_TIMER_EXPIRY mark the one
that has reached its LIMIT as expired, and change nothing else. -/
def Obligations.SequencerCommands : Prop :=
  (∀ (s : State) (data : Data), s.ready CAP_SEQ_CTL = true →
    let new := plainWrite CAP_SEQ_CTL_info (s.reg CAP_SEQ_CTL) data
    (s.actBind (s.reg CAP_SEQ_CTL) new).2 = new →
    (CAP_SEQ_CTL_RUN.on new = true →
      Gives (.sequencerRun data) s fun t => t.reg CAP_SEQ_CTL = new ∧
        (∀ c : Fin 4, t.reg (CAP_CNT_VALUE c) = 0 ∧ t.reg (CAP_TMR_VALUE c) = 0) ∧
        t.seqState = CAP_SEQ_CTL_START.get new % 2 ^ CAP_SEQ_STATE_CURRENT.w ∧ t.fld CAP_SEQ_STATE CAP_SEQ_STATE_TRANSITIONS = 0 ∧
        KeepsRegs ([CAP_SEQ_CTL, CAP_SEQ_STATE] ++ (List.range 4).map CAP_CNT_VALUE ++ (List.range 4).map CAP_TMR_VALUE) s t ∧
        { t with regs := s.regs, fab := { t.fab with claims := s.fab.claims }
                 cap := { t.cap with seq := { t.cap.seq with ran := s.cap.seq.ran, swtrig := s.cap.seq.swtrig } } } = s) ∧
    (CAP_SEQ_CTL_SWTRIG.on data = true → Gives (.swtrig data) s fun t => t.seq.swtrig = true ∧ t.reg CAP_SEQ_CTL = new ∧
      (CAP_SEQ_CTL_RUN.on new = false → KeepsRegs [CAP_SEQ_CTL] s t))) ∧
  (∀ (s : State) (c : Fin 4), s.seqReached c = true → natBit s.seq.expired c = false →
    Gives (.seqCounterExpiry c) s (RegsOnly [] (s.setSeq { s.seq with expired := s.seq.expired + 2 ^ c.val }))) ∧
  (∀ (s : State) (c : Fin 4), s.seqReached (4 + c) = true → natBit s.seq.expired (4 + c) = false →
    Gives (.seqTimerExpiry c) s (RegsOnly [] (s.setSeq { s.seq with expired := s.seq.expired + 2 ^ (4 + c.val) })))

/-! ### Ergs, snapshots and wells (chapters 02, 03 and 12) -/

/-- CTX_GO on an erg that is not reserved, not a twin and not being written queues a switch to TARGET for the next ungated edge. SWITCH_EDGE of
a due switch leaves its target active and VALID, settling by its settings, SWITCHES one more and LAST_SRC its source. SETTLE_END at a settle count of zero ends settling. ISO_FORCE_SET sets FORCE; ISO_FORCE_CLEAR clears it and
settles anew where a context is active; ISO_RELEASE of an erg whose active plane is not being written clears FORCE and ends settling. The
error registers' VALID, written 1, clears their record. But for a switch, only the erg's own registers and state change. -/
def Obligations.ErgSwitchesAndIsolation : Prop :=
  (∀ (s : State) (i : ErgNo) (data : Data), s.ready (FAB_ERG_CTX i) = true → FAB_ERG_CTX_GO.on data = true →
    s.ergReserved i = false → (s.writeReg (FAB_ERG_CTX i) data).isTwin i = false → s.activeWrite i = false →
    Gives (.ctxGo i data) s (RegsOnly [FAB_ERG_CTX i] (s.setErg i { s.erg i with
      pend := (s.erg i).pend ++ [{ src := .register, target := FAB_ERG_CTX_TARGET.get data % 8, left := 1 }] }))) ∧
  (∀ (s : State) (i : ErgNo) (r : SwReq), (s.erg i).due = some r → r.target < 8 →
    Gives (.switchEdge i) s fun t => t.ergActive i = some r.target ∧ t.planeState i r.target = plValid ∧ (t.erg i).due = none ∧
      (t.erg i).settle = settleOf ((s.erg i).plane r.target).settings ∧ (t.erg i).swFrom = s.ergActive i ∧
      t.fld (FAB_ERG_STATUS i) FAB_ERG_STATUS_SWITCHES =
        (s.fld (FAB_ERG_STATUS i) FAB_ERG_STATUS_SWITCHES + 1) % 2 ^ FAB_ERG_STATUS_SWITCHES.w ∧
      t.fld (FAB_ERG_STATUS i) FAB_ERG_STATUS_LAST_SRC = swCode r.src) ∧
  (∀ (s : State) (i : ErgNo), (s.erg i).settle = .count 0 →
    Gives (.settleEnd i) s fun t => t.fld (FAB_ERG_STATUS i) FAB_ERG_STATUS_SETTLE = 0 ∧
      RegsOnly [FAB_ERG_STATUS i] (s.setErg i { s.erg i with settle := .none, readySeen := false }) t) ∧
  (∀ (s : State) (i : ErgNo) (data : Data), s.ready (FAB_ERG_ISO i) = true →
    (FAB_ERG_ISO_RELEASE.on data = false → FAB_ERG_ISO_FORCE.on data = true →
      Gives (.isoForceSet i data) s fun t => t.forced i = true ∧
        RegsOnly [FAB_ERG_ISO i] (s.setErg i { s.erg i with forceEnd := false, relEnd := false }) t) ∧
    (FAB_ERG_ISO_RELEASE.on data = false → FAB_ERG_ISO_FORCE.on data = false → s.forced i = true →
      Gives (.isoForceClear i data) s fun t => t.forced i = false ∧
        RegsOnly [FAB_ERG_ISO i] (s.setErg i { s.erg i with forceEnd := !(s.erg i).loadGate && (s.ergActive i).isSome }) t) ∧
    (FAB_ERG_ISO_RELEASE.on data = true → s.activeWrite i = false →
      Gives (.isoRelease i data) s fun t => t.forced i = false ∧ (t.erg i).settle = .none ∧ (t.erg i).forceEnd = false ∧
        KeepsRegs [FAB_ERG_ISO i, FAB_ERG_STATUS i] s t ∧ { t with regs := s.regs, fab := s.fab } = s)) ∧
  (∀ (s : State) (data : Data), s.ready FAB_ILLOP = true → FAB_ILLOP_VALID.on data = true →
    Gives (.illopClear data) s fun t => t.fld FAB_ILLOP FAB_ILLOP_VALID = 0 ∧ (∀ i ∈ s.ergList, (t.erg i).illop = []) ∧
      KeepsRegs [FAB_ILLOP] s t ∧ { t with regs := s.regs, fab := s.fab } = s) ∧
  (∀ (s : State) (data : Data), s.ready FAB_BM_PERR = true → FAB_BM_PERR_VALID.on data = true →
    Gives (.bmPerrClear data) s fun t => t.fld FAB_BM_PERR FAB_BM_PERR_VALID = 0 ∧ t.fld FAB_BM_PERR FAB_BM_PERR_COUNT = 0 ∧
      RegsOnly [FAB_BM_PERR] s t) ∧
  (∀ (s : State) (data : Data), s.ready FAB_DIR_PERR = true → FAB_DIR_PERR_VALID.on data = true →
    Gives (.dirPerrClear data) s fun t => t.fld FAB_DIR_PERR FAB_DIR_PERR_VALID = 0 ∧ t.fld FAB_DIR_PERR FAB_DIR_PERR_COUNT = 0 ∧
      RegsOnly [FAB_DIR_PERR] s t)

/-- SNAP_PLANE_RESERVE of an EMPTY or INVALID plane reserves it, SNAP FREE. SNAP_PLANE_RELEASE of a free reserved plane ends the reservation and the
plane reads EMPTY (the model's choice, log entry 22). SNAP_FREE of a full plane that stays reserved frees it. SNAP_GO with none pending
leaves one due within 16 edges and BUSY 1; SNAPSHOT_EDGE of one that may fall takes it: none is pending, BUSY 0, and
its time is the present stamp. -/
def Obligations.Snapshots : Prop :=
  (∀ (s : State) (i : ErgNo) (data : Data), s.ready (FAB_ERG_SNAP i) = true →
    (FAB_ERG_SNAP_FULL.on data = false → s.fldOn (FAB_ERG_SNAP i) FAB_ERG_SNAP_RESERVE = false → FAB_ERG_SNAP_RESERVE.on data = true →
      (s.planeState i (FAB_ERG_SNAP_PLANE.get data) = plEmpty ∨ s.planeState i (FAB_ERG_SNAP_PLANE.get data) = plInvalid) →
      Gives (.snapPlaneReserve i data) s fun t => t.fld (FAB_ERG_SNAP i) FAB_ERG_SNAP_RESERVE = 1 ∧
        t.fld (FAB_ERG_SNAP i) FAB_ERG_SNAP_PLANE = FAB_ERG_SNAP_PLANE.get data ∧
        t.planeState i (FAB_ERG_SNAP_PLANE.get data) = plSnapFree ∧ RegsOnly [FAB_ERG_SNAP i, FAB_ERG_PLANES i] s t) ∧
    (FAB_ERG_SNAP_FULL.on data = false → s.fldOn (FAB_ERG_SNAP i) FAB_ERG_SNAP_RESERVE = true → FAB_ERG_SNAP_RESERVE.on data = false →
      s.planeState i (s.fld (FAB_ERG_SNAP i) FAB_ERG_SNAP_PLANE) = plSnapFree →
      Gives (.snapPlaneRelease i data) s fun t => t.fld (FAB_ERG_SNAP i) FAB_ERG_SNAP_RESERVE = 0 ∧
        t.planeState i (s.fld (FAB_ERG_SNAP i) FAB_ERG_SNAP_PLANE) = plEmpty ∧ RegsOnly [FAB_ERG_SNAP i, FAB_ERG_PLANES i] s t) ∧
    (FAB_ERG_SNAP_FULL.on data = true → s.fldOn (FAB_ERG_SNAP i) FAB_ERG_SNAP_FULL = true →
      s.fldOn (FAB_ERG_SNAP i) FAB_ERG_SNAP_RESERVE = true → FAB_ERG_SNAP_RESERVE.on data = true →
      FAB_ERG_SNAP_PLANE.get data = s.fld (FAB_ERG_SNAP i) FAB_ERG_SNAP_PLANE →
      Gives (.snapFree i data) s fun t => t.fld (FAB_ERG_SNAP i) FAB_ERG_SNAP_FULL = 0 ∧
        t.planeState i (s.fld (FAB_ERG_SNAP i) FAB_ERG_SNAP_PLANE) = plSnapFree ∧ RegsOnly [FAB_ERG_SNAP i, FAB_ERG_PLANES i] s t)) ∧
  (∀ (s : State) (data : Data), s.ready FAB_SNAP_CTL = true → FAB_SNAP_CTL_GO.on data = true → s.fab.snap = none →
    Gives (.snapGo data) s fun t => t.fld FAB_SNAP_CTL FAB_SNAP_CTL_BUSY = 1 ∧
      RegsOnly [FAB_SNAP_CTL] { s with fab := { s.fab with snap := some (16, false) } } t) ∧
  (∀ (s : State) (n : Nat) (ex : Bool), s.fab.snap = some (n, ex) → (ex = true → n = 0) →
    Gives .snapshotEdge s fun t => t.fab.snap = none ∧ t.fld FAB_SNAP_CTL FAB_SNAP_CTL_BUSY = 0 ∧
      t.reg FAB_SNAP_TIME = s.time.stamp)

/-- LANE_DECLARED_FAILING of a data lane that has not failed before, with no lane of its bundle disabled for a direction fault, starts a swap onto the lowest free spare, or with none exposes the crossing, with event 0x0901.
SPARE_SWAP_END that agrees takes the spare into use for that lane. REPAIR_RECORD_WRITE stores every crossing due and leaves none due.
RISER_TRANSFER of a new transfer in sequence with a good CRC enters the replay buffer and is delivered; RISER_ACK of a delivered one takes it
out; RISER_REPLAY_TIMEOUT counts the transfers resent. -/
def Obligations.WellsAndRisers : Prop :=
  (∀ (s : State) (x : Crossing) (lane : Fin 76),
    let key := crossKey x.well x.bundle x.bond
    let c := s.cross key
    c.state < crExposed → c.swap = none → c.hasFailed lane = false → s.dirLanes key = [] → lane.val < 72 →
    (∀ sp, c.freeSpare = some sp →
      Gives (.laneDeclaredFailing x lane) s (RegsOnly [] (s.setCross key { c with swap := some (lane.val, sp) }))) ∧
    (c.freeSpare = none → Gives (.laneDeclaredFailing x lane) s fun t => (t.cross key).state = crExposed ∧
      WELL_XDATA_EXPOSED_LANE.get (t.cross key).xdata = lane.val ∧ Logs 0x0901 s t ∧ KeepsRegs eventRegs s t ∧ key ∈ t.fab.repairDue)) ∧
  (∀ (s : State) (x : Crossing) (lane sp : Nat),
    let key := crossKey x.well x.bundle x.bond
    (s.cross key).swap = some (lane, sp) → (s.cross key).waiting = [] →
    Gives (.spareSwapEnd x true) s fun t => (t.cross key).swap = none ∧ (t.cross key).carries.get (fun _ => 99) sp = lane ∧
      KeepsRegs eventRegs s t ∧ ∀ k, k ≠ key → t.cross k = s.cross k) ∧
  (∀ s : State, Gives .repairRecordWrite s fun t => t.fab.repairDue = [] ∧ t.store.mapGen = s.fld WELL_MAP_GEN WELL_MAP_GEN_GEN ∧
    (∀ k ∈ s.fab.repairDue, t.store.crossRec.get (fun _ => {}) k = { s.cross k with swap := none, waiting := [], corrs := [] }) ∧ KeepsRegs [] s t ∧
    { t with regs := s.regs, store := s.store, fab := { t.fab with repairDue := s.fab.repairDue } } = s) ∧
  (∀ (s : State) (x : RiserNo) (dest : Fin 7) (seq : BitVec 10) (body : List (BitVec 8)) (crc : BitVec 16),
    let r := s.riser (riserKey x)
    seq.toNat = r.nextSend → seq.toNat = r.expected → r.replay.length < 64 → crc16 (toBytes 2 seq.toNat ++ body) = crc.toNat →
    (dest.val ≠ riserFar x ∨ s.pwr.inReset.contains (riserFar x) = false) →
    Gives (.riserTransfer x dest seq body crc) s (RegsOnly [] (s.setRiser (riserKey x) { r with
      replay := r.replay ++ [(seq.toNat, body)], nextSend := (r.nextSend + 1) % 1024, expected := (r.expected + 1) % 1024
      delivered := r.delivered ++ [body] }))) ∧
  (∀ (s : State) (x : RiserNo) (seq : BitVec 10),
    let r := s.riser (riserKey x)
    let back := (r.expected + 1024 - seq.toNat) % 1024
    1 ≤ back → back ≤ 512 → Gives (.riserAck x seq) s (RegsOnly [] (s.setRiser (riserKey x) { r with
      replay := r.replay.filter (fun e => e.1 != seq.toNat) }))) ∧
  (∀ (s : State) (x : RiserNo), Gives (.riserReplayTimeout x) s fun t => RegsOnly [WELL_REPLAY] s t ∧
    t.fld WELL_REPLAY WELL_REPLAY_RESENT =
      satAdd WELL_REPLAY_RESENT.w (s.fld WELL_REPLAY WELL_REPLAY_RESENT) (s.riser (riserKey x)).replay.length)

/-! ### Images (chapter 17) -/

/-- IMAGE_LOAD of an item for the planes whose first stage passes with frames to come leaves the load in progress at the engine's frame state; after
a failed stack attestation it ends as refused with reason 11. IMAGE_FRAME of a good frame that is not the last advances the load: for a slot it is kept,
a memory frame enters its erg's staging, a plane frame that is neither the first nor the last of its plane stands in its plane. A frame with a fault ends
the item as image rejected with the fault's cause, and no load is left. -/
def Obligations.ImageLoads : Prop :=
  (∀ (s u : State) (c : Running) (ld : LoadSt), s.store.load = none → s.store.bootDue = false → s.secStill = false →
    s.curOp keyConfig opImageLoad = some c →
    let it := c.item
    let src : LoadSrc := if it.num 24 1 % 4 = 0 then .host (it.num 16 8) else .dram (it.num 16 8)
    (s.attestFailed = true → Gives (.imageLoad false) s fun t => t.resultOf keyConfig = some { status := stRefused, detail := 11 } ∧ RegsOnly [] (s.cmdRefused keyConfig 11) t) ∧
    (s.attestFailed = false → c.step < 3 → it.num 25 1 = 0 →
      s.stageOne { src := src, len := it.num 28 4, target := 0, flags := it.num 26 1, ergs := BitVec.ofNat 128 (it.num 32 16) } false = (u, .passed ld) → manCount ld.manifest ≠ 0 →
      Gives (.imageLoad false) s fun t => t.store.load = some ld ∧ t.fld CFG_STATUS CFG_STATUS_ENGINE = 2 ∧ KeepsRegs [CFG_STATUS] u t ∧
        t.fab = u.fab ∧ t.pins = u.pins)) ∧
  (∀ (s u : State) (ld : LoadSt) (it : Option Item) (b : List Byte), s.store.load = some ld → ld.activating = false → s.loadItem ld = some it →
    frameOff ld.sigLen ld.next + frameBytes ≤ ld.len → s.loadRead ld.src (frameOff ld.sigLen ld.next) frameBytes false = (u, .bytes b) →
    let i := duneErg (frameDune b)
    (ld.frameFault b = none → ld.next + 1 ≠ manCount ld.manifest →
      (ld.target ≠ 0 → (frameIsMem b = true ∨ u.mapStale i (fileNum ld.manifest 28 4) (framePayload b) = false) →
        Gives (.imageFrame .ok true) s fun t => t.store.load = some (ld.advance b) ∧ KeepsRegs [] u t ∧ t.fab = u.fab) ∧
      (ld.takes i = true → u.cfgDieReset i = false → frameIsMem b = true →
        Gives (.imageFrame .ok true) s fun t => t.store.load = some (ld.advance b) ∧ KeepsRegs [] u t ∧
          (t.erg i).staging.map (fun x => x.ctx) = some (frameCtx b)) ∧
      (ld.takes i = true → u.cfgDieReset i = false → frameIsMem b = false → u.frameRefusal ld b = none → ld.next % 16 ≠ 0 → ld.next % 16 ≠ 15 →
        Gives (.imageFrame .ok true) s fun t => t.store.load = some (ld.advance b) ∧ KeepsRegs [] u t ∧
          ((t.erg i).plane (frameCtx b)).frame (duneLocal (frameDune b)) = framePayload b)) ∧
    (∀ cause, ld.frameFault b = some cause → ld.powerUp = false → ld.wake = false →
      Gives (.imageFrame .ok true) s fun t => t.store.load = none ∧ t.fld CFG_STATUS CFG_STATUS_ENGINE = 0 ∧
        t.resultOf keyConfig = some { status := stImageRejected, detail := cause }))

/-- POWER_UP_LOAD, with the root and the management domain running, shows in SEC.STATUS which dies passed; with one failed it sets CFG_ERR# and loads nothing; with all passed and the preferred slot
VALID it begins that slot's load where its first stage passes. ERG_ACTIVATION of a load that waits for it, with the root running and no oasis in
self-test, makes every marked erg's context active; for a power-up load CFG_DONE is high, CFG_ERR# clear, the boot slot shown and no load left. -/
def Obligations.PowerUpAndActivation : Prop :=
  (∀ (s : State) (dies : BitVec 7), s.store.bootDue = true → s.clk.mgmtReset = false → s.clk.rootRun = true →
    let u := ({ s with store := { s.store with bootDue := false, wakeDue := false } }.applyRepair).attestStack dies
    (dies.toNat ≠ 0x7F → Gives (.powerUpLoad dies) s fun t => t.store.bootDue = false ∧ t.pins.cfgErr = true ∧ t.store.load = s.store.load ∧
      t.fld SEC_STATUS SEC_STATUS_ATTEST = dies.toNat ∧ t.fld SEC_STATUS SEC_STATUS_ATTEST_DONE = 1 ∧
      KeepsRegs ([SEC_STATUS, WELL_MAP_GEN, CFG_STATUS] ++ eventRegs) s t) ∧
    (dies.toNat = 0x7F → s.store.wakeDue = false → s.pins.cfgDone = true →
      Gives (.powerUpLoad dies) s fun t => t.store.bootDue = false ∧ t.store.load = s.store.load ∧ t.pins = s.pins ∧
        t.fab.cross = s.store.crossRec ∧ t.fld WELL_MAP_GEN WELL_MAP_GEN_GEN = s.store.mapGen % 2 ^ WELL_MAP_GEN_GEN.w ∧
        t.fld SEC_STATUS SEC_STATUS_ATTEST = 0x7F ∧ KeepsRegs [SEC_STATUS, WELL_MAP_GEN] s t) ∧
    (∀ (v : State) (ld : LoadSt), dies.toNat = 0x7F → s.store.wakeDue = false → s.pins.cfgDone = false →
      u.slotState (u.fld CFG_POLICY CFG_POLICY_PREFERRED) = slValid →
      u.stageOne (bootLoad u (u.fld CFG_POLICY CFG_POLICY_PREFERRED) false) false = (v, .passed ld) → manCount ld.manifest ≠ 0 →
      Gives (.powerUpLoad dies) s fun t => t.store.load = some ld ∧ t.fld CFG_STATUS CFG_STATUS_ENGINE = 2 ∧ KeepsRegs [CFG_STATUS] v t)) ∧
  (∀ (s : State) (ld : LoadSt), s.store.load = some ld → ld.activating = true → s.clk.rootRun = true →
    (∀ i : ErgNo, s.oasClearing i = false) → (s.loadItem ld).isSome = true →
    Gives .ergActivation s fun t => (∀ i : ErgNo, natBit (manActivate ld.manifest i) 7 = true → ld.takes i = true →
        t.ergActive i = some (manActivate ld.manifest i % 8)) ∧
      t.store.load = none ∧ t.fld CFG_STATUS CFG_STATUS_ENGINE = 0 ∧
      (ld.wake = false → ld.powerUp = true → t.pins.cfgDone = true ∧ t.pins.cfgErr = false ∧ t.fld CFG_STATUS CFG_STATUS_DONE = 1 ∧
        t.fld CFG_STATUS CFG_STATUS_BOOT_SLOT = ld.bootSlot % 4))

/-- READBACK of a FRESH, VALID or full snapshot plane, or of memories, writes the frames to the host's buffer and ends with success and their length;
too small a buffer ends it as bad descriptor. ERG_RESERVE sets or clears RESERVED of the named ergs alone. PLANE_SCRUB_WORD of a word that is not of an
active plane: an upset the code corrects is corrected and counted in CORR; more than it can correct invalidates the plane, unless that is a free snapshot
plane, with event 0x0D02 and a count in UNCORR. -/
def Obligations.ReadbackReserveScrub : Prop :=
  (∀ (s : State) (c : Running), s.curOp keyConfig opReadback = some c →
    let it := c.item
    let i := it.unit % 128
    let p := it.num 16 1 % 8
    let mem := natBit (it.num 16 1) 3
    let need := if mem then 1329152 else 41536
    s.cfgDieReset i = false →
    (it.num 32 4 < need → Gives (.readback false) s (RegsOnly [] (s.finishSt keyConfig stBadDescriptor))) ∧
    (need ≤ it.num 32 4 → (mem = true ∨ s.planeState i p = plFresh ∨ s.planeState i p = plValid ∨ s.planeState i p = plSnapFull) → s.mayIssue = true →
      Gives (.readback false) s fun t => t.resultOf keyConfig = some { status := stSuccess, count := need } ∧
        RegsOnly [] ((s.hostWrite (it.num 24 8) (if mem then s.memFrames i else s.planeFrames i p)).finish keyConfig { status := stSuccess, count := need }) t)) ∧
  (∀ (s : State) (c : Running), s.curOp keyConfig opErgReserve = some c →
    Gives .ergReserve s fun t => t.resultOf keyConfig = some { status := stSuccess } ∧
      { t with regs := s.regs } = s.finishSt keyConfig stSuccess ∧
      (∀ i : ErgNo, natBit (c.item.num 16 16) i = true → t.fld (FAB_ERG_STATUS i) FAB_ERG_STATUS_RESERVED = c.item.num 32 1 % 2) ∧
      (∀ i : ErgNo, natBit (c.item.num 16 16) i = false → t.reg (FAB_ERG_STATUS i) = s.reg (FAB_ERG_STATUS i)) ∧
      ∀ o, (∀ i : ErgNo, o ≠ FAB_ERG_STATUS i) → o ∉ shownRegs → t.reg o = s.reg o) ∧
  (∀ (s : State) (i : ErgNo) (c : PlaneNo) (d : Fin 16) (part : Fin 32) (w : Fin 320) (flips : List (Fin 72)),
    s.cfgDieReset i = false → s.planeState i c ≠ plLoading → s.ergActive i ≠ some c.val →
    let flip := flips.foldl (fun (x : BitVec 72) b => x ^^^ BitVec.ofNat 72 (2 ^ b.val)) 0
    let raw := oasEncode (natBits (s.planeWords i c d).toNat (64 * w) 64) ^^^ flip
    (∀ v, oasDecode raw = .corrected v → Gives (.planeScrubWord i (some c) d part w flips) s fun t =>
      t.fld CFG_SCRUB CFG_SCRUB_CORR = satAdd CFG_SCRUB_CORR.w (s.fld CFG_SCRUB CFG_SCRUB_CORR) 1 ∧
      RegsOnly [CFG_SCRUB] (s.setPlaneWord i c d w (natBits v.toNat 0 64)) t) ∧
    (oasDecode raw = .bad → s.planeState i c ≠ plSnapFree → Gives (.planeScrubWord i (some c) d part w flips) s fun t =>
      t.planeState i c = plInvalid ∧ LastEvent 0x0D02 t ∧
      t.fld CFG_SCRUB CFG_SCRUB_UNCORR = satAdd CFG_SCRUB_UNCORR.w (s.fld CFG_SCRUB CFG_SCRUB_UNCORR) 1 ∧
      KeepsRegs ([CFG_SCRUB, CFG_SCRUB_LOG, FAB_ERG_PLANES i] ++ eventRegs) s t))

/-! ### Work items, task ports and the scheduler's registers (chapters 15 and 16) -/

/-- NOP ends with success. CANCEL of an item that has ended names its status; with nothing to cancel, or an item that may not be cancelled, it
ends so, its DETAIL a free value; an item that no executor performs is taken out and completes as cancelled. DMA ends with the copy's status and
byte count; a copy within one line of host memory moves exactly its bytes. CAPTURE_CMD carries its command out and ends with success. Each gives a
result to its own item alone. -/
def Obligations.WorkItems : Prop :=
  (∀ (s : State) (c : Running), s.curOp keyScheduler opNop = some c →
    Gives .nop s fun t => t.resultOf keyScheduler = some { status := stSuccess } ∧ RegsOnly [] (s.finishSt keyScheduler stSuccess) t) ∧
  (∀ (s : State) (c : Running), s.curOp keyScheduler opCancel = some c →
    let r := c.item.num 16 2
    let w := c.item.num 24 8
    c.item.isAt r w = false →
    (∀ f, c.step < 2 → s.finishedOf r w = some f → Gives .cancel s fun t =>
      t.resultOf keyScheduler = some { status := stSuccess, detail := f.res.status, count := w } ∧ RegsOnly [] (s.endCancel stSuccess f.res.status w) t) ∧
    (c.step = 0 → s.finishedOf r w = none →
      ((s.ring r).order.any (fun x => x.1 == w) = false → Gives .cancel s fun t =>
        ∃ d, RegsOnly [] ((s.spend 1).endCancel stNothingToCancel d w) t) ∧
      ((s.ring r).order.any (fun x => x.1 == w) = true →
        (∀ k x, s.performerOf r w = some (k, x) → opcodeCritical x.item.opc = true → Gives .cancel s fun t =>
          ∃ d, RegsOnly [] ((s.spend 1).endCancel stNotCancellable d w) t) ∧
        (∀ u, s.performerOf r w = none → s.dropTagged r w = some u → Gives .cancel s fun t =>
          RegsOnly [] (u.endCancel stSuccess stCancelled w) t)))) ∧
  (∀ (s : State) (e : DmaNo) (hostFail : Option Nat) (c : Running), s.curOp (keyDma e) opDma = some c → c.cancel = false →
    let it := c.item
    let sp := it.num 36 1 % 4
    let dp := it.num 36 1 / 4 % 4
    let len := it.num 32 4
    let src := it.num 16 8
    let dst := it.num 24 8
    (sp = 0 → s.host.linkUp = true) →
    (let r := State.dmaCopy e sp dp src dst len len hostFail (len / 64 + 2) c.step s
     r.2.2 ≠ memWait → Gives (.dma e hostFail) s (RegsOnly [] (r.1.finish (keyDma e) { status := r.2.2, count := r.2.1 }))) ∧
    (sp = 0 → dp = 0 → hostFail = none → c.step = 0 → s.mayIssue = true → 0 < len → dst % 64 + len ≤ 64 →
      Gives (.dma e hostFail) s fun t => t.resultOf (keyDma e) = some { status := stSuccess, count := len } ∧
        RegsOnly [] ((s.putHost dst (s.hostBytes src len)).finish (keyDma e) { status := stSuccess, count := len }) t)) ∧
  (∀ (s : State) (c : Running), s.curOp keyCapture opCaptureCmd = some c →
    Gives .captureCmd s (RegsOnly [] ((s.queueCmd c.item.unit (c.item.num 16 1)).finishSt keyCapture stSuccess)))

/-- ERG_SWITCH puts its request four ungated edges ahead, one where a failed load has stopped the erg; without a tag a reserved erg ends it. TASK is taken for delivery at the second FCK edge from now; TASK_DELIVERY at that edge
counts TASKNO and sets PENDING. TASK_DONE_WORD with the pending number clears PENDING and ends the task with success; another number counts in STRAY.
TP_CH_WRITE takes a channel up to 54 of a port with nothing pending, and is refused with reason 3 otherwise. -/
def Obligations.TaskPorts : Prop :=
  (∀ (s : State) (i : ErgNo) (c : Running), s.curOp (keyTask i) opErgSwitch = some c → c.step = 0 → s.isTwin i = false →
    s.fldOn (FAB_ERG_STATUS i) FAB_ERG_STATUS_ACTIVE_WRITE = false → (s.ergReserved i = false ∨ c.item.auth = true) →
    Gives (.ergSwitch i) s (RegsOnly [] ((s.setCur (keyTask i) (some { c with step := 1 })).setErg i { s.erg i with
      pend := (s.erg i).pend ++ [{ src := .dispatch, target := c.item.num 16 1 % 8, left := if s.ergStopped i then 1 else 4 }] }))) ∧
  (∀ (s : State) (i : ErgNo) (c : Running), s.curOp (keyTask i) opErgSwitch = some c → c.step = 0 → s.ergReserved i = true → c.item.auth = false →
    Gives (.ergSwitch i) s (RegsOnly [] ((s.setCur (keyTask i) (some { c with step := 1 })).finishSt (keyTask i) stAuthRequired))) ∧
  (∀ (s : State) (i : ErgNo) (c : Running), s.curOp (keyTask i) opTask = some c → c.step = 0 →
    Gives (.task i) s (RegsOnly [] (s.setCur (keyTask i) (some { c with step := 2 * (s.time.fck + 2) })))) ∧
  (∀ (s : State) (i : ErgNo) (c : Running), s.taskAt i = some c → c.step = 2 * s.time.fck → c.step ≠ 0 →
    Gives (.taskDelivery i) s fun t => t.fld (SCH_TP i) SCH_TP_TASKNO = (s.taskNo i + 1) % 65536 ∧ t.fld (SCH_TP i) SCH_TP_PENDING = 1 ∧
      (t.cur (keyTask i)).map (fun x => x.step) = some (c.step + 1) ∧ KeepsRegs [SCH_TP i] s t ∧
      { t with regs := s.regs, sched := s.sched, jr := s.jr, host := s.host } = s) ∧
  (∀ (s : State) (i : ErgNo),
    let w := (s.chanAt (i % 64) (s.fld (SCH_TP i) SCH_TP_CH + 9) (ergDie i) (ergDie i) 0).toNat
    natBit w 0 = true → s.sched.taskReply.get (fun _ => 0) i ≠ s.time.fck + 1 →
    (∀ c, s.taskAt i = some c → s.fldOn (SCH_TP i) SCH_TP_PENDING = true → w / 65536 = s.taskNo i →
      Gives (.taskDoneWord i) s fun t => t.fld (SCH_TP i) SCH_TP_PENDING = 0 ∧ t.resultOf (keyTask i) = some { status := stSuccess } ∧
        KeepsRegs [SCH_TP i] s t ∧ { t with regs := s.regs, sched := s.sched } = s) ∧
    (s.fldOn (SCH_TP i) SCH_TP_PENDING = false ∨ w / 65536 ≠ s.taskNo i →
      Gives (.taskDoneWord i) s fun t => t.fld (SCH_TP i) SCH_TP_STRAY = satAdd SCH_TP_STRAY.w (s.fld (SCH_TP i) SCH_TP_STRAY) 1 ∧
        KeepsRegs [SCH_TP i] s t ∧ { t with regs := s.regs, sched := s.sched } = s)) ∧
  (∀ (s : State) (i : ErgNo) (data : Data), s.ready (SCH_TP i) = true →
    (s.fldOn (SCH_TP i) SCH_TP_PENDING = false → SCH_TP_CH.get data ≤ 54 →
      Gives (.tpChWrite i data) s fun t => t.fld (SCH_TP i) SCH_TP_CH = SCH_TP_CH.get data ∧ RegsOnly [SCH_TP i] s t) ∧
    (s.fldOn (SCH_TP i) SCH_TP_PENDING = true ∨ 54 < SCH_TP_CH.get data →
      Gives (.tpChWrite i data) s fun t => t.fld SCH_STATUS SCH_STATUS_REFUSED = 1 ∧ t.fld SCH_STATUS SCH_STATUS_REASON = 3 ∧
        RegsOnly [SCH_STATUS] s t))

/-- SANDGLASS_CFG_WRITE writes a list that is not enabled; of an enabled one it writes EN alone, with event 0x0505 where TICK would change.
SCH_SPILL_STORE_WRITE with every ring OFF writes STORE, and SPILL where BASE is a multiple of 1,024; with a ring not OFF it is refused with reason 1, with
another BASE with reason 2. -/
def Obligations.SchedulerRegisters : Prop :=
  (∀ (s : State) (l : ListNo) (data : Data), s.ready (SCH_SGL_CFG l) = true →
    (s.fldOn (SCH_SGL_CFG l) SCH_SGL_CFG_EN = false →
      Gives (.sandglassCfgWrite l data) s fun t => RegsOnly [SCH_SGL_CFG l] s t ∧
        t.reg (SCH_SGL_CFG l) = plainWrite SCH_SGL_CFG_info (s.reg (SCH_SGL_CFG l)) data) ∧
    (s.fldOn (SCH_SGL_CFG l) SCH_SGL_CFG_EN = true →
      Gives (.sandglassCfgWrite l data) s fun t => EventOnly [SCH_SGL_CFG l] s t ∧
        t.reg (SCH_SGL_CFG l) = SCH_SGL_CFG_EN.put (s.reg (SCH_SGL_CFG l)) (SCH_SGL_CFG_EN.get data) ∧
        (if SCH_SGL_CFG_TICK.get data = s.fld (SCH_SGL_CFG l) SCH_SGL_CFG_TICK then t.evt.log = s.evt.log else Logs 0x0505 s t))) ∧
  (∀ (s : State) (data : Data), s.ready SCH_SPILL = true → s.ready SCH_STORE = true →
    (s.allRingsOff = true →
      (Gives (.schSpillStoreWrite .store data) s fun t => RegsOnly [SCH_STORE] s t ∧ t.reg SCH_STORE = plainWrite SCH_STORE_info (s.reg SCH_STORE) data) ∧
      (SCH_SPILL_BASE.get data % 1024 = 0 → Gives (.schSpillStoreWrite .spill data) s fun t => RegsOnly [SCH_SPILL] s t ∧
        t.reg SCH_SPILL = plainWrite SCH_SPILL_info (s.reg SCH_SPILL) data) ∧
      (SCH_SPILL_BASE.get data % 1024 ≠ 0 → Gives (.schSpillStoreWrite .spill data) s fun t => RegsOnly [SCH_STATUS] s t ∧
        t.fld SCH_STATUS SCH_STATUS_REFUSED = 1 ∧ t.fld SCH_STATUS SCH_STATUS_REASON = 2)) ∧
    (s.allRingsOff = false → ∀ reg : SchReg, Gives (.schSpillStoreWrite reg data) s fun t => RegsOnly [SCH_STATUS] s t ∧
      t.fld SCH_STATUS SCH_STATUS_REFUSED = 1 ∧ t.fld SCH_STATUS SCH_STATUS_REASON = 1))

/-! ### The queue interface (chapters 15 and 16) -/

/-- Where the host reaches the device: on a ring in RUN, SQ_TAIL within its range becomes the last tail and the ring accepts from it; CQ_HEAD within
its range becomes the last head; another value is ignored with event 0x0C01 and reason 2, and either on a ring that is OFF or in ERROR with reason 3; a
ring in CHECKING or HELD records them. ACCEPT_RESUME of a ring with one entry to fetch accepts it: ACCEPT advances, the item waits in its queue and is
counted. SPILL_RETURN moves the first spilled item back, from its copy or from the submission ring. TAG_ASSIGN gives the head of a queue a free tag and
sends it on, or moves a class-0 item to the class-0 queue. That a head may reach below what a rebuilt ring counts as unconsumed is the model's reading
(log entry 145). -/
def Obligations.QueueAcceptance : Prop :=
  (∀ (s : State) (r : RingNo) (tail : Data) (hw : HostWrites) (failAt : Option Nat), s.hostReaches = true →
    let u := s.hostOwn hw
    let q := s.ring r
    (s.ringState r = ringRun → s.qif = 2 →
      (q.lastTail < tail.toNat → tail.toNat ≤ q.oldest + 2 ^ q.sqLog2 →
        Gives (.sqTail r tail hw failAt) s fun t => (t.ring r).lastTail = tail.toNat ∧
          RegsOnly [] (((u.setRing r { q with lastTail := tail.toNat }).retainRing r).acceptRing r failAt) t) ∧
      (tail.toNat = q.lastTail → Gives (.sqTail r tail hw failAt) s (RegsOnly [] u)) ∧
      (tail.toNat < q.lastTail ∨ (q.oldest + 2 ^ q.sqLog2 < tail.toNat ∧ tail.toNat ≠ q.lastTail) →
        Gives (.sqTail r tail hw failAt) s fun t => EventOnly [QIF_STATUS] s t ∧ Logs 0x0C01 s t ∧ t.fld QIF_STATUS QIF_STATUS_DB_ERR = 1 ∧
          t.fld QIF_STATUS QIF_STATUS_REASON = 2) ∧
      (q.lastHead ≤ tail.toNat → tail.toNat ≤ q.cqCount →
        (q.unBase ≤ tail.toNat → Gives (.cqHead r tail) s (RegsOnly [] (s.setRing r { q with
          lastHead := tail.toNat, unBase := tail.toNat, unconsumed := q.unconsumed.drop (tail.toNat - q.unBase) }))) ∧
        (tail.toNat < q.unBase →
          let lo := max tail.toNat (q.unBase - 2 ^ q.cqLog2)
          Gives (.cqHead r tail) s (RegsOnly [] (s.setRing r { q with
            lastHead := tail.toNat, unBase := lo, unconsumed := s.unread r lo q.unBase ++ q.unconsumed })))) ∧
      (tail.toNat < q.lastHead ∨ q.cqCount < tail.toNat →
        Gives (.cqHead r tail) s fun t => EventOnly [QIF_STATUS] s t ∧ Logs 0x0C01 s t ∧ t.fld QIF_STATUS QIF_STATUS_DB_ERR = 1 ∧
          t.fld QIF_STATUS QIF_STATUS_REASON = 2)) ∧
    (s.ringState r = ringOff ∨ s.ringState r = ringError → s.qif ≠ 4 →
      Gives (.sqTail r tail hw failAt) s (fun t => EventOnly [QIF_STATUS] s t ∧ Logs 0x0C01 s t ∧ t.fld QIF_STATUS QIF_STATUS_REASON = 3) ∧
      Gives (.cqHead r tail) s (fun t => EventOnly [QIF_STATUS] s t ∧ Logs 0x0C01 s t ∧ t.fld QIF_STATUS QIF_STATUS_REASON = 3)) ∧
    (s.ringState r = ringChecking ∨ s.ringState r = ringHeld → s.qif ≠ 4 →
      Gives (.sqTail r tail hw failAt) s (RegsOnly [] (u.setRing r { q with recTail := some tail.toNat })) ∧
      Gives (.cqHead r tail) s (RegsOnly [] (s.setRing r { q with recHead := some tail.toNat })))) ∧
  (∀ (s : State) (r : RingNo) (hw : HostWrites) (failAt : Option Nat),
    let u := s.hostOwn hw
    let q := s.ring r
    (q.lastTail ≤ q.accept → Gives (.acceptResume r hw failAt) s (RegsOnly [] u)) ∧
    (s.ringState r = ringRun → s.qif = 2 → s.workRuns = true → s.host.linkUp = true → s.host.present = true → q.lastTail = q.accept + 1 →
      q.unconsumed.length < 2 ^ q.cqLog2 → natBit (descNum (u.entryAt r q.accept) 1 1) 7 = false → failAt ≠ some 0 → q.spilled = [] →
      q.queue.length < queueDepth →
      Gives (.acceptResume r hw failAt) s fun t => (t.ring r).accept = q.accept + 1 ∧
        (t.ring r).order = q.order ++ [(q.accept, 1)] ∧ (t.ring r).unconsumed = q.unconsumed ++ [q.accept] ∧
        t.reg SCH_CNT_ACCEPT = s.reg SCH_CNT_ACCEPT + 1 ∧ KeepsRegs [SCH_CNT_ACCEPT, QIF_RING_STATUS r] s t ∧
        { t with regs := s.regs, rings := s.rings, sched := s.sched, jr := s.jr, host := s.host } = s ∧ (∀ k, k ≠ r.val → t.ring k = s.ring k) ∧
        ∃ it : Item, it.desc = u.entryAt r q.accept ∧ it.ring = r.val ∧ it.wsn = q.accept ∧
          (if it.cls = 0 ∧ s.sched.c0.length < c0Depth then t.sched.c0 = s.sched.c0 ++ [it] else (t.ring r).queue = q.queue ++ [it]))) ∧
  (∀ (s : State) (r : RingNo) (copyBad : Bool) (it : Item) (rest : List Item),
    (s.ring r).spilled = it :: rest → (s.ring r).queue.length < queueDepth →
    let a := s.spillGet r it.wsn
    let b := if it.ext.isSome then a.1.spillGet r (it.wsn + 1) else (a.1, 0, 0)
    (it.spillBad = false → copyBad = false → a.2.1 = 0 → b.2.1 = 0 → ∀ failAt, Gives (.spillReturn r copyBad failAt) s
      (RegsOnly [] (b.1.unspill r { it with desc := a.2.2, ext := it.ext.map (fun _ => b.2.2) }))) ∧
    (it.spillBad = true ∨ (a.2.1 ≠ memWait ∧ b.2.1 ≠ memWait ∧ (copyBad = true ∨ a.2.1 ≠ 0 ∨ b.2.1 ≠ 0)) →
      b.1.host.linkUp = true → b.1.host.present = true → Gives (.spillReturn r copyBad none) s fun t =>
        t.fld SCH_CNT_SPILL SCH_CNT_SPILL_REFETCHED =
          satAdd SCH_CNT_SPILL_REFETCHED.w (b.1.fld SCH_CNT_SPILL SCH_CNT_SPILL_REFETCHED) 1 ∧
        (let ext := if it.ext.isSome then some (b.1.entryAt r (it.wsn + 1)) else none
         RegsOnly [SCH_CNT_SPILL] (b.1.unspill r { it with desc := b.1.entryAt r it.wsn, ext := ext, verified := false }) t))) ∧
  (∀ (s : State) (it : Item) (rest : List Item) (tag : Nat), it.settled = none → s.freeTag it.cls = some tag →
    (it.auth = false ∨ it.verified = true) → it.sgl = false →
    let u := s.takeTag tag
    let waits := fun (l : List Item) => l.map (fun x => (x.ring, x.wsn, x.tag))
    u.descFault { it with tag := tag } = none →
    (s.sched.c0 = it :: rest → Gives (.tagAssign none) s fun t => t.sched.c0 = rest ∧ t.sched.tags = tag :: s.sched.tags ∧
      waits t.sched.ready = waits s.sched.ready ++ [(it.ring, it.wsn, tag)] ∧ KeepsRegs [SCH_STATUS] s t ∧
      { t with regs := s.regs, sched := s.sched } = s) ∧
    (∀ r : RingNo, (s.ring r).queue = it :: rest → it.cls ≠ 0 → Gives (.tagAssign (some r)) s fun t => t.ring r = { s.ring r with queue := rest } ∧
      t.sched.tags = tag :: s.sched.tags ∧ waits t.sched.ready = waits s.sched.ready ++ [(it.ring, it.wsn, tag)] ∧ KeepsRegs [SCH_STATUS] s t ∧
      { t with regs := s.regs, sched := s.sched, rings := s.rings } = s ∧ ∀ k, k ≠ r.val → t.ring k = s.ring k) ∧
    (∀ r : RingNo, (s.ring r).queue = it :: rest → it.cls = 0 → s.sched.c0.length < c0Depth → Gives (.tagAssign (some r)) s fun t =>
      t.ring r = { s.ring r with queue := rest } ∧ t.sched.c0 = s.sched.c0 ++ [it] ∧ KeepsRegs [] s t ∧
      { t with regs := s.regs, rings := s.rings, sched := { t.sched with c0 := s.sched.c0 } } = s))

/-- With the security controller running, COUNTER_CEILING_WRITE that succeeds raises the ceiling above the waiting counter and the slot takes the item's
counter; one that fails ends the item as refused with reason 11. SANDGLASS_RELEASE moves every item that goes at the last tick boundary to the ready stage
and counts it. ITEM_DISPATCH puts the first ready item at an enabled executor at the end of its queue; an executor with nothing in hand takes it, journalled
where its opcode is; at a disabled one it ends as unit off, or as lane not ready for a PLAY that is not performed again (the model's reading, log entry
136). JOURNAL_READ_COMPLETE makes a started item effective, or ends it as host memory error. ITEM_FINISH sends the finished item to the reorder store and
leaves an executor with nothing queued empty. -/
def Obligations.QueueExecution : Prop :=
  (∀ (s : State) (slot : SlotNo) (it : Item), (s.slotKey slot).waiting = [it] → it.slot = slot.val → it.settled = none →
    s.execStill keySecurity = false →
    (s.authFault it = none → Gives (.counterCeilingWrite slot true) s fun t => (t.slotKey slot).ceiling = ceilingAbove it.counter ∧
      (t.slotKey slot).waiting = [] ∧ t.fld (SEC_SLOT slot) SEC_SLOT_LAST = it.counter ∧ (t.slotKey slot).by_ = some (it.ring, it.wsn) ∧
      (it.sgl = false → KeepsRegs [SEC_SLOT slot] s t ∧
        t.sched.ready.map (fun x => (x.ring, x.wsn)) = s.sched.ready.map (fun x => (x.ring, x.wsn)) ++ [(it.ring, it.wsn)] ∧
        { t with regs := s.regs, sched := s.sched, sec := s.sec } = s)) ∧
    Gives (.counterCeilingWrite slot false) s fun t => (t.slotKey slot).waiting = [] ∧ (t.slotKey slot).ceiling = (s.slotKey slot).ceiling ∧
      t.reorderAt it.tag = some { item := it, res := { status := stRefused, detail := 11 } } ∧ KeepsRegs eventRegs s t ∧
      { t with regs := s.regs, sched := s.sched, sec := s.sec, evt := s.evt, host := s.host } = s) ∧
  (∀ (s : State) (l : ListNo), s.fldOn (SCH_SGL_CFG l) SCH_SGL_CFG_EN = true → s.workRuns = true → s.clk.rootRun = true →
    let boundary := s.nowNs / s.sglTick l * s.sglTick l
    let due := (s.sglHeld l).filter (fun it => it.releasedAt boundary)
    Gives (.sandglassRelease l) s fun t => t.sglHeld l = (s.sglHeld l).filter (fun it => !it.releasedAt boundary) ∧
      t.sched.ready.map (fun it => (it.ring, it.wsn)) = s.sched.ready.map (fun it => (it.ring, it.wsn)) ++ due.map (fun it => (it.ring, it.wsn)) ∧
      t.fld (SCH_SGL_STATUS l) SCH_SGL_STATUS_RELEASED = (s.fld (SCH_SGL_STATUS l) SCH_SGL_STATUS_RELEASED + due.length) % 2 ^ 32 ∧
      KeepsRegs [SCH_SGL_STATUS l] s t ∧ { t with regs := s.regs, sched := s.sched } = s) ∧
  (∀ (s : State) (ex : Executor) (it : Item),
    let k := execKey ex
    let e := s.exec? k
    s.workRuns = true → s.qif ≠ 1 → s.qif ≠ 3 → s.qif ≠ 4 → e.queue.length < execDepth k → s.moveDue k = none →
    firstItem (s.sched.ready.filter (s.readyFor k)) = some it → s.pwr.st = .active →
    (s.execEnabled k = true → e.cur.isSome = true →
      Gives (.itemDispatch ex) s (RegsOnly [] ((s.unready it).setExec k { e with queue := e.queue ++ [it] }))) ∧
    (s.execEnabled k = true → e.cur = none → e.queue = [] → s.sched.lost.any (fun x => x.1 == k) = false →
      (opcodeJournalled it.opc = false ∨ it.opc = opPlay → Gives (.itemDispatch ex) s fun t =>
        RegsOnly [] (s.unready it) { t with sched := { t.sched with execs := s.sched.execs } } ∧
        t.exec? k = { queue := [], cur := some { item := it, phase := .effective } }) ∧
      (∀ j, opcodeJournalled it.opc = true → it.opc ≠ opPlay → it.isOwn = false → journalEntry k = some j → s.mayIssue = true →
        Gives (.itemDispatch ex) s fun t => t.exec? k = { queue := [], cur := some { item := it, phase := .reading } } ∧
          (t.jentry j).wsn = it.wsn ∧ (t.jentry j).ring = it.ring ∧ (t.jentry j).state = 1 ∧ (t.jentry j).opc = it.opc ∧ KeepsRegs [] s t ∧
          { t with regs := s.regs, jr := s.jr, host := s.host, sched := { t.sched with execs := s.sched.execs } } = s.unready it)) ∧
    (s.execEnabled k = false → it.opc ≠ opImageLoad → Gives (.itemDispatch ex) s (RegsOnly [] ((s.unready it).toReorder { it with resumed := false }
      { status := if it.opc = opPlay ∧ it.resumed = false then stLaneNotReady else stUnitOff })))) ∧
  (∀ (s : State) (ex : Executor) (res : HostRead) (c : Running), s.cur (execKey ex) = some c → c.phase = .reading → c.result = none →
    s.host.linkUp = true → Gives (.journalReadComplete ex res) s (RegsOnly [] (s.setCur (execKey ex) (some
      (if res = .ok then { c with phase := .effective } else { c with result := some { status := stHostError } }))))) ∧
  (∀ (s : State) (ex : Executor) (c : Running) (res : Result), s.cur (execKey ex) = some c → c.result = some res → c.item.isOwn = false →
    (s.exec? (execKey ex)).queue = [] →
    Gives (.itemFinish ex) s fun t => t.cur (execKey ex) = none ∧ t.reorderAt c.item.tag = some { item := c.item, res := res } ∧
      { t with regs := s.regs, sched := s.sched, jr := s.jr, host := s.host, evt := s.evt } = s)

/-- COMPLETION_RELEASE of a running ring whose first item has finished, stands first in its flow and finds room: CQ_COUNT and DONE advance, the item
leaves the order and waits for confirmation under its tag; its entry is written and then CQ_COUNT and DONE, which is shown where neither a message nor
a journal write follows them. COMPLETION_CONFIRM with the link up confirms the oldest: its tag is free again. MODERATION_EXPIRY sends the message
that is pending, or ends the wait where none is. -/
def Obligations.QueueCompletions : Prop :=
  (∀ (s : State) (r : RingNo) (w n : Nat) (rest : List (Nat × Nat)) (f : Finished), (s.ring r).order = (w, n) :: rest →
    s.finishedOf r w = some f → s.releasable r f = true → s.ringState r = ringRun → s.qif ≠ 4 → s.host.present = true →
    Gives (.completionRelease r) s fun t => (t.ring r).cqCount = (s.ring r).cqCount + 1 ∧ (t.ring r).done = f.item.wsn + n ∧
      (t.ring r).order = rest ∧ (t.ring r).confirming = (s.ring r).confirming ++ [f.item.tag] ∧
      t.reorderAt f.item.tag = some { f with released := true } ∧ t.sched.tags = s.sched.tags ∧
      KeepsRegs ([QIF_RING_STATUS r, SCH_PLY_STATUS f.item.unit] ++ ((f.item.execOf.bind journalEntry).map (fun e => SCH_TP (e - 49))).toList) s t ∧
      (f.item.opc ≠ opTask → f.item.opc ≠ opPlay → KeepsRegs [QIF_RING_STATUS r] s t) ∧
      { t with regs := s.regs, rings := s.rings, sched := s.sched, jr := s.jr, host := s.host } = s ∧ (∀ k, k ≠ r.val → t.ring k = s.ring k) ∧
      (s.mayIssue = true → s.host.linkUp = true → f.item.noIrq = true → f.item.execOf.bind journalEntry = none →
        let q := s.ring r
        let size := 2 ^ q.cqLog2
        t.host = (((s.putHost (q.cqBase + 32 * (q.cqCount % size)) (completionBytes f (phaseBit q.cqCount size))).putHost (s.cbAddr r + 80)
          (toBytes 8 (q.cqCount + 1))).putHost (s.cbAddr r + 72) (toBytes 8 (f.item.wsn + n))).host)) ∧
  (∀ (s : State) (r : RingNo) (tag : Nat) (rest : List Nat), (s.ring r).confirming = tag :: rest → s.host.linkUp = true → s.host.present = true →
    Gives (.completionConfirm r) s fun t => (t.ring r).confirming = rest ∧ t.reorderAt tag = none ∧ tag ∉ t.sched.tags ∧
      KeepsRegs [SCH_STATUS] s t ∧ { t with regs := s.regs, rings := s.rings, sched := s.sched, jr := s.jr } = s ∧
      ∀ k, k ≠ r.val → t.ring k = s.ring k) ∧
  (∀ (s : State) (r : RingNo),
    ((s.ring r).modRun = true → (s.ring r).modPend = true →
      Gives (.moderationExpiry r) s (RegsOnly [] ((s.setRing r { s.ring r with modPend := false }).signal (s.ring r).vector))) ∧
    ((s.ring r).modRun = true → (s.ring r).modPend = false →
      Gives (.moderationExpiry r) s (RegsOnly [] (s.setRing r { s.ring r with modRun := false }))) ∧
    ((s.ring r).modRun = false → Gives (.moderationExpiry r) s (RegsOnly [] s)))

/-- RING_ENABLE of an OFF ring takes its address and goes to CHECKING where QIF.JOURNAL is valid, and stays OFF with reason 6 where not; a changed
address of a ring in use is refused with event 0x0C04. CONTROL_BLOCK_CHECK that cannot read it gives ERROR with reason 4; a block at fault its reason; a good
one of a ring with nothing accepted RUN, of one accepted on HELD. RING_DISABLE gives OFF at once with nothing uncompleted, STOPPING otherwise, and leaves a
HELD ring HELD until its reconciliation.
JOURNAL_REGISTER_WRITE is performed with every ring OFF and refused otherwise. -/
def Obligations.QueueRings : Prop :=
  (∀ (s : State) (r : RingNo) (data : Data) (hw : HostWrites), s.ready (QIF_RING_CB r) = true →
    let addr := QIF_RING_CB_ADDR.get data
    (s.ringState r = ringOff → s.fldOn QIF_JOURNAL QIF_JOURNAL_VALID = true →
      Gives (.ringEnable r data hw) s fun t => t.ringState r = ringChecking ∧ t.fld (QIF_RING_CB r) QIF_RING_CB_ADDR = addr ∧
        t.fld (QIF_RING_CB r) QIF_RING_CB_EN = 1 ∧ (t.ring r).cbRead = true ∧ KeepsRegs [QIF_RING_CB r, QIF_RING_STATUS r] s t) ∧
    (s.ringState r = ringOff → s.fldOn QIF_JOURNAL QIF_JOURNAL_VALID = false →
      Gives (.ringEnable r data hw) s fun t => t.ringState r = ringOff ∧ t.fld (QIF_RING_STATUS r) QIF_RING_STATUS_REASON = 6 ∧
        RegsOnly [QIF_RING_CB r, QIF_RING_STATUS r] (s.hostOwn hw) t) ∧
    (s.ringState r ≠ ringOff → addr ≠ s.fld (QIF_RING_CB r) QIF_RING_CB_ADDR →
      Gives (.ringEnable r data hw) s (fun t => EventOnly [QIF_STATUS] s t ∧ Logs 0x0C04 s t ∧ t.fld QIF_STATUS QIF_STATUS_REFUSED = 1) ∧
      Gives (.ringDisable r data) s (fun t => EventOnly [QIF_STATUS] s t ∧ Logs 0x0C04 s t ∧ t.fld QIF_STATUS QIF_STATUS_REFUSED = 1)) ∧
    (s.ringState r = ringOff → Gives (.ringDisable r data) s fun t => RegsOnly [QIF_RING_CB r] s t ∧
      t.fld (QIF_RING_CB r) QIF_RING_CB_ADDR = addr ∧ t.fld (QIF_RING_CB r) QIF_RING_CB_EN = 0) ∧
    (s.ringState r ≠ ringOff → addr = s.fld (QIF_RING_CB r) QIF_RING_CB_ADDR → Gives (.ringEnable r data hw) s (RegsOnly [] (s.hostOwn hw))) ∧
    (s.ringState r = ringHeld → addr = s.fld (QIF_RING_CB r) QIF_RING_CB_ADDR →
      Gives (.ringDisable r data) s fun t => t.fld (QIF_RING_CB r) QIF_RING_CB_EN = 0 ∧ RegsOnly [QIF_RING_CB r] s t) ∧
    (s.ringState r ≠ ringOff → s.ringState r ≠ ringHeld → addr = s.fld (QIF_RING_CB r) QIF_RING_CB_ADDR →
      Gives (.ringDisable r data) s fun t => t.fld (QIF_RING_CB r) QIF_RING_CB_EN = 0 ∧ KeepsRegs [QIF_RING_CB r, QIF_RING_STATUS r] s t ∧
        t.ringState r = if (s.ring r).order.isEmpty then ringOff else ringStopping)) ∧
  (∀ (s : State) (r : RingNo) (res : HostRead), s.ringState r = ringChecking → s.host.linkUp = true →
    let u := s.cbCache r
    (res ≠ .ok → Gives (.controlBlockCheck r res) s fun t => t.ringState r = ringError ∧ t.fld (QIF_RING_STATUS r) QIF_RING_STATUS_REASON = 4 ∧
      Logs 0x0C02 s t ∧ EventOnly [QIF_RING_STATUS r] s t) ∧
    (u.cbFault r ≠ 0 → Gives (.controlBlockCheck r .ok) s fun t => t.ringState r = ringError ∧
      t.fld (QIF_RING_STATUS r) QIF_RING_STATUS_REASON = u.cbFault r ∧ Logs 0x0C02 s t ∧ KeepsRegs ([QIF_RING_STATUS r] ++ eventRegs) s t) ∧
    (u.cbFault r = 0 → (u.ring r).accept = 0 → u.pageBad = false → (s.ring r).recTail = none → (s.ring r).recHead = none →
      Gives (.controlBlockCheck r .ok) s fun t => t.ringState r = ringRun ∧ (t.ring r).lastTail = 0 ∧ KeepsRegs [QIF_RING_STATUS r, QIF_STATUS] s t) ∧
    (u.cbFault r = 0 → (u.ring r).accept ≠ 0 →
      Gives (.controlBlockCheck r .ok) s fun t => t.ringState r = ringHeld ∧ (t.ring r).adopted = true ∧
        (t.ring r).lastTail = (u.ring r).accept ∧
        (let q := u.ring r
         let v := { q with lastTail := q.accept, unBase := q.cqCount, confirmed := q.done, adopted := true }
         RegsOnly [] (((u.setRing r v).setRingState r ringHeld).needRecon) t))) ∧
  (∀ (s : State) (data : Data), s.ready QIF_JOURNAL = true →
    (s.allRingsOff = true → Gives (.journalRegisterWrite data) s fun t => RegsOnly [QIF_JOURNAL] s t ∧
      t.reg QIF_JOURNAL = plainWrite QIF_JOURNAL_info (s.reg QIF_JOURNAL) data) ∧
    (s.allRingsOff = false → Gives (.journalRegisterWrite data) s fun t => EventOnly [QIF_STATUS] s t ∧ Logs 0x0C04 s t ∧
      t.fld QIF_STATUS QIF_STATUS_REFUSED = 1))

/-! ### Measurement engines (chapter 08) -/

/-- For an engine about to execute a lane instruction: MAC, ADDA, ACCOP, CNTR and DIVS leave in each lane that acts the value R233, R236 and R239 give its
accumulators, every other accumulator as it was; NAR stores the narrowed word; CMP sets P by its relation. A 56-step division of a dividend by a divisor that is not
zero leaves quotient and remainder. MARG starts a point, with its lane's word as parameters, in each acting lane at no point that is mapped to a port lane at LOCKED or above; one below LOCKED has its rows at once, aborted. Post-increments act once; the engine goes on. -/
def Obligations.EngineLaneInstructions : Prop :=
  ∀ (s : State) (e : EngNo) (i : Nat), EngAt s e i → (s.engAfter e).2 ≤ 4095 →
  let v := s.engSt e
  let d := eiD i
  let m := eiMod i
  let row := v.xAt (eiXA i)
  let a := fun l => v.word row l
  let b := fun l => v.word (v.xAt (eiXB i)) l
  let on := fun l => s.laneOn e i l
  let accs := fun (t : State) (f : Nat → Nat → Nat) => ∀ (l : Fin 16) (k : Fin 4), (t.engSt e).accAt l k = if on l && k.val == d then f l k else v.accAt l k
  let flags := fun (t : State) => ∀ l : Fin 16, t.laneP e l = s.laneP e l ∧ t.laneDz e l = s.laneDz e l
  let quiet := fun (t : State) => EngLane s e i t ∧ t.lanes = s.lanes ∧ KeepsRegs [MEA_STATUS e, MEA_LFLAG e] s t
  (eiOpc i = eoMac → Gives (.mac e) s fun t => quiet t ∧ (t.engSt e).mem = v.mem ∧ flags t ∧ accs t (fun l k =>
    let o := opndMac (eiKind i) (a l) (b l)
    let base : Int := if natBit m 0 then 0 else signed 56 (v.accAt l k)
    wrapInt 56 (if natBit m 1 then base - o.1 * o.2 else base + o.1 * o.2))) ∧
  (eiOpc i = eoAdda → Gives (.adda e) s fun t => quiet t ∧ (t.engSt e).mem = v.mem ∧ flags t ∧ accs t (fun l k =>
    let base : Int := if natBit m 0 then 0 else signed 56 (v.accAt l k)
    wrapInt 56 (if natBit m 1 then base - opndLane (eiKind i) (a l) else base + opndLane (eiKind i) (a l)))) ∧
  (eiOpc i = eoAccop → Gives (.accop e) s fun t => quiet t ∧ (t.engSt e).mem = v.mem ∧ flags t ∧ accs t (fun l k =>
    accop (natBits m 0 3) (natBits m 5 6) (v.accAt l k) (v.accAt l (natBits m 3 2)) % 2 ^ 56)) ∧
  (eiOpc i = eoCntr → Gives (.cntr e) s fun t => quiet t ∧ (t.engSt e).mem = v.mem ∧ flags t ∧ accs t (fun l _ =>
    (match s.engPort e l with | some n => s.laneCounter n (natBits m 0 4) | none => 0) % 2 ^ 56)) ∧
  (eiOpc i = eoDivs → Gives (.divs e) s fun t => quiet t ∧ (t.engSt e).mem = v.mem ∧ (∀ l : Fin 16, t.laneP e l = s.laneP e l) ∧ ∀ l : Fin 16,
    let dv := v.accAt l 2
    (on l = false → t.laneDz e l = s.laneDz e l ∧ ∀ k : Fin 4, (t.engSt e).accAt l k = v.accAt l k) ∧
    (on l = true → (t.engSt e).accAt l 2 = dv ∧ (t.engSt e).accAt l 3 = v.accAt l 3 ∧
      (dv = 0 → t.laneDz e l = true) ∧ (dv ≠ 0 → t.laneDz e l = s.laneDz e l) ∧
      (v.accAt l 0 = 0 → dv ≠ 0 → natBits m 0 6 = 56 → natBit m 6 = false →
        (t.engSt e).accAt l 1 = v.accAt l 1 / dv ∧ (t.engSt e).accAt l 0 = v.accAt l 1 % dv))) ∧
  (eiOpc i = eoNar → Gives (.nar e) s fun t => quiet t ∧ (t.engSt e).acc = v.acc ∧ (∀ r, r < 1024 → r ≠ row % 1024 → (t.engSt e).row r = v.row r) ∧
    ∀ l : Fin 16, let n := narrow (natBit (eiKind i) 0) m (v.accAt l d)
      (t.engSt e).word row l = (if on l then n.1 else a l) ∧ t.laneDz e l = s.laneDz e l ∧
      t.laneP e l = if on l && natBit m 8 then n.2 else s.laneP e l) ∧
  (eiOpc i = eoCmp → Gives (.engineCmp e) s fun t => quiet t ∧ (t.engSt e).mem = v.mem ∧ (t.engSt e).acc = v.acc ∧ ∀ l : Fin 16,
    let x := signed 56 (v.accAt l d)
    let y := if natBit m 2 then signed 56 (v.accAt l (natBits m 3 2)) else opndLane (eiKind i) (a l)
    t.laneDz e l = s.laneDz e l ∧ t.laneP e l = if on l then (match natBits m 0 2 with
      | 0 => decide (x < y)
      | 1 => decide (y ≤ x)
      | 2 => decide (x = y)
      | _ => decide (x ≠ y)) else s.laneP e l) ∧
  (eiOpc i = eoMarg → (∀ (l : Fin 16) n, s.engPort e l = some n → n < 48 ∧ ∀ l' : Fin 16, s.engPort e l' = some n → l' = l) →
    Gives (.marg e) s fun t => EngLane s e i t ∧ (t.engSt e).acc = v.acc ∧ flags t ∧
    (∀ n, (∀ l : Fin 16, s.engPort e l ≠ some n) → t.lane n = s.lane n) ∧
    ∀ (l : Fin 16) n, s.engPort e l = some n →
      (on l = true → v.pts.get (fun _ => none) l = none → rxLocked ≤ s.rxState n →
        (t.engSt e).pts.get (fun _ => none) l = some { row := row } ∧
        (t.lane n).margin = some (s.marginRun n (some (e.val, l.val)) (a l)) ∧
        t.fld (LANE_MARGIN n) LANE_MARGIN_BUSY = 1 ∧ t.fld (MEA_STATUS e) MEA_STATUS_MPEND = 1 ∧ ∀ r : Fin 1024, (t.engSt e).word r l = v.word r l) ∧
      (on l = true → v.pts.get (fun _ => none) l = none → s.rxState n < rxLocked →
        (t.engSt e).pts.get (fun _ => none) l = none ∧ (t.engSt e).word (row + 1) l = 0 ∧ (t.engSt e).word (row + 2) l = 2 ^ 30 + 2 ^ 31 ∧
        t.fld (LANE_MARGIN_RES n) LANE_MARGIN_RES_ABORTED = 1) ∧
      (on l = false ∨ (v.pts.get (fun _ => none) l).isSome = true →
        (t.engSt e).pts.get (fun _ => none) l = v.pts.get (fun _ => none) l ∧ t.lane n = s.lane n ∧ ∀ r : Fin 1024, (t.engSt e).word r l = v.word r l))

/-- For an engine about to execute HIST, in every state: with idx the accumulator ACC[D], signed, shifted right arithmetically by MOD bits 5:0 and clamped to 0
to N - 1, N being 2 to the power of MOD bits 9:6 with exponents above 9 acting as 9, lane l's word of row X[XA] + idx is one more, saturating at 0xFFFF_FFFF, in
each lane whose predicate holds; every other word of operand memory is unchanged. So a second HIST that hits the word counts too. -/
def Obligations.HistCounts : Prop :=
  ∀ (s : State) (e : EngNo) (i : Nat), EngAt s e i → (s.engAfter e).2 ≤ 4095 → eiOpc i = eoHist →
  let v := s.engSt e
  let n : Int := (2 ^ min (natBits (eiMod i) 6 4) 9 : Nat)
  let idx := fun l => (max 0 (min (signed 56 (v.accAt l (eiD i)) / (2 ^ natBits (eiMod i) 0 6 : Nat)) (n - 1))).toNat
  Gives (.hist e) s fun t => EngLane s e i t ∧ (t.engSt e).acc = v.acc ∧ ∀ (l : Fin 16) (r : Fin 1024),
    (t.engSt e).word r l = if s.laneOn e i l ∧ r.val = (v.xAt (eiXA i) + idx l) % 1024 then min (v.word r l + 1) 0xFFFFFFFF else v.word r l

/-- For an engine about to execute a control instruction: SETX and ADDX change one X; LOOP opens a level or skips its body, and faults with cause 2 when four are open; JMP goes to
its target where its condition holds, with cause 3 for a target outside the innermost open body, or inside the body of a LOOP word that the jump is outside of (the model's reading, log entry 127); LDM and STM queue their lines and advance B; SETB takes an aligned address,
with cause 4 otherwise; WAIT waits for what it names; TRIG pulses an enabled output; EVT raises 0x0702; HALT ends the item with its code; NOP goes on, and a
reserved opcode faults with cause 1. -/
def Obligations.EngineControl : Prop :=
  ∀ (s : State) (e : EngNo) (i : Nat), EngAt s e i →
  let v := s.engSt e
  let next := s.engAfter e
  let w := { v with loops := next.1 }
  let plain := fun (t : State) => { t with regs := s.regs, eng := s.eng } = s ∧ KeepsRegs [MEA_STATUS e] s t
  let faults := fun (c : Instr) (cause : Nat) => Gives c s fun t => t.engState e = enIdle ∧ t.fld (MEA_STATUS e) MEA_STATUS_CAUSE = cause ∧
    KeepsRegs [MEA_STATUS e] s t ∧ ∀ r, s.cur (keyEngine e) = some r → t.resultOf (keyEngine e) =
      some { status := stEngineFault, detail := 256 * cause + 4096 * s.engPc e, count := s.fld (MEA_LFLAG e) MEA_LFLAG_DZ }
  (eiOpc i = eoLoop → let first := s.engPc e + 1
    let stop := first + eiAux i + 1
    (eiImm i = 0 → (loopEnds v.loops stop).2 ≤ 4095 → Gives (.loop e) s fun t => plain t ∧ EngWent s e (loopEnds v.loops stop).2 { v with loops := (loopEnds v.loops stop).1 } t) ∧
    (eiImm i ≠ 0 → 4 ≤ v.loops.length → faults (.loop e) 2) ∧
    (eiImm i ≠ 0 → v.loops.length < 4 → first ≤ 4095 → Gives (.loop e) s fun t => plain t ∧
      EngWent s e first { v with loops := { first := first, stop := stop, left := eiImm i } :: v.loops } t)) ∧
  (eiOpc i = eoJmp → let p := s.fld (MEA_LFLAG e) MEA_LFLAG_P
    let on := match eiAux i % 4 with | 0 => true | 1 => p != 0 | 2 => p == 0xFFFF | _ => p == 0
    let target := eiImm i % 4096
    (on = false → next.2 ≤ 4095 → Gives (.jmp e) s fun t => plain t ∧ EngWent s e next.2 w t) ∧
    (on = true → s.jmpEnters e target = true → faults (.jmp e) 3) ∧
    (on = true → s.jmpEnters e target = false → (∀ l r, v.loops = l :: r → l.first ≤ target ∧ target < l.stop) → Gives (.jmp e) s fun t => plain t ∧ EngWent s e target v t) ∧
    (on = true → (∃ l r, v.loops = l :: r ∧ ¬ (l.first ≤ target ∧ target < l.stop)) → faults (.jmp e) 3)) ∧
  (eiOpc i = eoSetb → let a := v.row (v.xAt (eiAux i % 8)) % 2 ^ 64
    (a % 64 ≠ 0 → faults (.setb e) 4) ∧
    (a % 64 = 0 → next.2 ≤ 4095 → Gives (.setb e) s fun t => plain t ∧ EngWent s e next.2 { v.setB (eiR i % 4) a with loops := next.1 } t)) ∧
  (eiOpc i = eoWait → ((natBit (eiAux i) 0 && !v.xfers.isEmpty) || (natBit (eiAux i) 1 && !v.pts.cells.isEmpty)) = true →
    Gives (.wait e) s fun t => plain t ∧ t.engState e = enWaiting ∧ t.engPc e = s.engPc e) ∧
  (eiOpc i = eoHalt → Gives (.halt e) s fun t => t.engState e = enIdle ∧ KeepsRegs [MEA_STATUS e] s t ∧
    ∀ r, s.cur (keyEngine e) = some r → t.resultOf (keyEngine e) = some { status := stSuccess, detail := eiImm i % 256, count := s.fld (MEA_LFLAG e) MEA_LFLAG_DZ }) ∧
  (opcNop (eiOpc i) = true → eiOpc i ≠ 0 → faults (.engineNop e) 1) ∧
  (next.2 ≤ 4095 →
    (eiOpc i = eoSetx → Gives (.setx e) s fun t => plain t ∧ EngWent s e next.2 { v.setX (eiR i) (eiImm i) with loops := next.1 } t) ∧
    (eiOpc i = eoAddx → Gives (.addx e) s fun t => plain t ∧
      EngWent s e next.2 { v.setX (eiR i) (wrapInt 10 ((v.xAt (eiR i) : Nat) + signed 16 (eiImm i))) with loops := next.1 } t) ∧
    (∀ load : Bool, eiOpc i = (if load then eoLdm else eoStm) →
      let n := eiImm i % 256 + 1
      let a := v.bAt (eiR i % 4)
      let ls := (List.range n).map (fun k => ({ load := load, addr := (a + 64 * k) / 64 * 64 % 2 ^ 64, row := (v.xAt (eiAux i % 8) + k) % 1024 } : XferLine))
      Gives (if load then .ldm e else .stm e) s fun t => plain t ∧ t.fld (MEA_STATUS e) MEA_STATUS_DMA_BUSY = 1 ∧
        EngWent s e next.2 { { v with xfers := v.xfers ++ ls }.setB (eiR i % 4) (a + 64 * n) with loops := next.1 } t) ∧
    (eiOpc i = eoWait → ((natBit (eiAux i) 0 && !v.xfers.isEmpty) || (natBit (eiAux i) 1 && !v.pts.cells.isEmpty)) = false →
      Gives (.wait e) s fun t => plain t ∧ EngWent s e next.2 w t) ∧
    (eiOpc i = eoTrig → Gives (.trig e) s fun t => EngWent s e next.2 w t ∧ KeepsRegs [MEA_STATUS e] s t ∧
      { t with regs := s.regs, eng := s.eng } = s.engPulse e (eiImm i % 8)) ∧
    (eiOpc i = eoEvt → Gives (.evt e) s fun t => EngWent s e next.2 w t ∧ Logs 0x0702 s t ∧ KeepsRegs ([MEA_STATUS e] ++ eventRegs) s t ∧
      { t with regs := s.regs, eng := s.eng, evt := s.evt, host := s.host } = s) ∧
    (eiOpc i = 0 → Gives (.engineNop e) s fun t => plain t ∧ EngWent s e next.2 w t))

/-- ENGINE_LOAD of an IDLE engine puts the words read from memory at the offset in program memory and ends with success; ENGINE_RUN leaves it RUNNING at the entry PC, X zero, B as
given and, with CLEAR, accumulators, flags and operand memory zero; either at an OFF engine ends as unit off, unless it is performed again. ENGINE_TRANSFER_LINE moves the oldest line; a bad status ends the item
with cause 5. ENGINE_MARGIN_END of a point writes its two rows, with no more errors than the UI of its dwell, and its lane is at no point. -/
def Obligations.EngineItems : Prop :=
  (∀ (s : State) (e : EngNo) (c : Running), s.curOp (keyEngine e) opEngineLoad = some c →
    (s.engState e = enOff → c.item.resumed = false → Gives (.engineLoad e) s (RegsOnly [] (s.finishSt (keyEngine e) stUnitOff))) ∧
    (∀ (u : State) (bytes : List Byte), (s.engState e = enIdle ∨ s.engState e = enLoading) →
      s.plainAcc (engReq e) (c.item.num 16 8) (.read (4 * c.item.num 24 2)) = (u, 0, bytes) → bytes.length = 4 * c.item.num 24 2 →
      u.cur (keyEngine e) = some c → Gives (.engineLoad e) s fun t => t.engState e = enIdle ∧ t.resultOf (keyEngine e) = some { status := stSuccess } ∧
        KeepsRegs [MEA_STATUS e] u t ∧ (t.engSt e).mem = (u.engSt e).mem ∧
        ∀ k, k < c.item.num 24 2 → ((t.engSt e).prog.get (fun _ => 0) (c.item.num 26 2 + k)).toNat = ofBytes ((bytes.drop (4 * k)).take 4))) ∧
  (∀ (s : State) (e : EngNo) (c : Running), s.curOp (keyEngine e) opEngineRun = some c →
    (s.engState e = enOff → c.item.resumed = false → Gives (.engineRun e) s (RegsOnly [] (s.finishSt (keyEngine e) stUnitOff))) ∧
    (s.engState e = enIdle → Gives (.engineRun e) s fun t => t.engState e = enRunning ∧ t.engPc e = c.item.num 16 2 % 4096 ∧
      (∀ k, (t.engSt e).xAt k = 0) ∧ (∀ k : Fin 4, (t.engSt e).bAt k = c.item.num (24 + 8 * k) 8) ∧ (t.engSt e).loops = [] ∧
      (t.engSt e).prog = (s.engSt e).prog ∧ KeepsRegs [MEA_STATUS e, MEA_LFLAG e] s t ∧ { t with regs := s.regs, eng := s.eng } = s ∧
      (if natBit (c.item.num 18 1) 0 then (t.engSt e).acc = {} ∧ (t.engSt e).mem = {} ∧ t.reg (MEA_LFLAG e) = 0
       else (t.engSt e).acc = (s.engSt e).acc ∧ (t.engSt e).mem = (s.engSt e).mem ∧ t.reg (MEA_LFLAG e) = s.reg (MEA_LFLAG e)))) ∧
  (∀ (s u : State) (e : EngNo) (x : XferLine) (rest : List XferLine) (bytes : List Byte), (s.engSt e).xfers = x :: rest →
    (x.load = true → s.plainAcc (engReq e) x.addr (.read 64) = (u, 0, bytes) → u.engSt e = s.engSt e →
      Gives (.engineTransferLine e .success) s fun t => (t.engSt e).xfers = rest ∧ (t.engSt e).row x.row = ofBytes bytes % 2 ^ 512 ∧
        (∀ r, r < 1024 → r ≠ x.row % 1024 → (t.engSt e).row r = (s.engSt e).row r) ∧ KeepsRegs [MEA_STATUS e] u t) ∧
    (x.load = false → s.plainAcc (engReq e) x.addr (.write (toBytes 64 ((s.engSt e).row x.row))) = (u, 0, bytes) → u.engSt e = s.engSt e →
      Gives (.engineTransferLine e .success) s fun t => t.engSt e = { s.engSt e with xfers := rest } ∧ KeepsRegs [MEA_STATUS e] u t) ∧
    (∀ status : RingStatus, status ≠ .success → s.engBusy e = true → Gives (.engineTransferLine e status) s fun t => t.engState e = enIdle ∧
      t.fld (MEA_STATUS e) MEA_STATUS_CAUSE = 5 ∧ (t.engSt e).xfers = [] ∧ KeepsRegs [MEA_STATUS e] s t ∧
      ∀ r, s.cur (keyEngine e) = some r → (t.resultOf (keyEngine e)).map (fun x => x.status) = some stEngineFault)) ∧
  (∀ (s : State) (e : EngNo) (l : Fin 16) (errors : BitVec 41) (pt : MargPt) (n : Nat) (m : MargRun), (s.engSt e).pts.get (fun _ => none) l = some pt →
    s.engPort e l = some n → (s.lane n).margin = some m →
    let x := min errors.toNat (2 ^ m.dwell)
    Gives (.engineMarginEnd e l errors) s fun t => (t.engSt e).pts.get (fun _ => none) l = none ∧
      (t.engSt e).word (pt.row + 1) l = x % 2 ^ 32 ∧ (t.engSt e).word (pt.row + 2) l = x / 2 ^ 32 + 2 ^ 31 ∧ (t.engSt e).acc = (s.engSt e).acc ∧
      (t.lane n).margin = none ∧ t.fld (LANE_MARGIN_RES n) LANE_MARGIN_RES_VALID = 1 ∧ t.fld (LANE_MARGIN_RES n) LANE_MARGIN_RES_ABORTED = 0 ∧
      KeepsRegs [MEA_STATUS e, LANE_MARGIN n, LANE_MARGIN_RES n] s t ∧ { t with regs := s.regs, eng := s.eng, lanes := s.lanes } = s)

/-- A write of CTL with EN 1 takes an OFF engine to IDLE; with EN 0 an IDLE one to OFF, and a busy one refuses it with CFG_REFUSED and event 0x0701. STEP of a HALTED engine executes
the instruction at its PC; RESUME leaves it RUNNING; ABORT ends its item with cause 7; CLEAR of an IDLE one zeroes accumulators, flags and operand memory. A MAP write that
names lanes of its own binds them. PROG_DATA and MEM_DATA read and write the word at the address and advance it. -/
def Obligations.EngineRegisters : Prop :=
  (∀ (s : State) (e : EngNo) (data : Data), s.ready (MEA_CTL e) = true →
    let en := MEA_CTL_EN.on data
    let st := s.engState e
    (st = enOff → en = true → Gives (.engineEnable e data) s fun t => t.engState e = enIdle ∧ t.fld (MEA_CTL e) MEA_CTL_EN = 1 ∧
      RegsOnly [MEA_CTL e, MEA_STATUS e] s t) ∧
    (st = enIdle → en = false → MEA_CTL_CLEAR.on data = false → Gives (.engineEnable e data) s fun t => t.engState e = enOff ∧ t.fld (MEA_CTL e) MEA_CTL_EN = 0 ∧
      RegsOnly [MEA_CTL e, MEA_STATUS e] s t) ∧
    (enLoading ≤ st → st < enHalted → en = false → MEA_CTL_ABORT.on data = false → Gives (.engineEnable e data) s fun t =>
      t.fld (MEA_STATUS e) MEA_STATUS_CFG_REFUSED = 1 ∧ EventOnly [MEA_STATUS e] s t ∧ Logs 0x0701 s t) ∧
    (st = enHalted → en = true → MEA_CTL_ABORT.on data = false → MEA_CTL_RESUME.on data = false → MEA_CTL_STEP.on data = true → (s.engSt e).passed = true →
      let u := s.setEng e { s.engSt e with stepping := true }
      Gives (.engineStep e data) s (RegsOnly [MEA_CTL e, MEA_STATUS e] (u.insAny e (u.engWord e)))) ∧
    (st = enHalted → en = true → MEA_CTL_ABORT.on data = false → MEA_CTL_STEP.on data = false → MEA_CTL_RESUME.on data = true →
      Gives (.engineResume e data) s fun t => t.engState e = enRunning ∧ RegsOnly [MEA_CTL e, MEA_STATUS e] s t) ∧
    (enRunning ≤ st → en = true → MEA_CTL_ABORT.on data = true → Gives (.engineAbort e data) s fun t => t.engState e = enIdle ∧
      t.fld (MEA_STATUS e) MEA_STATUS_CAUSE = 7 ∧ (t.engSt e).xfers = (s.engSt e).xfers.take 16 ∧ KeepsRegs [MEA_CTL e, MEA_STATUS e] s t ∧
      ∀ r, s.cur (keyEngine e) = some r → (t.resultOf (keyEngine e)).map (fun x => x.status) = some stEngineFault) ∧
    (st = enIdle → en = true → MEA_CTL_CLEAR.on data = true → Gives (.engineClear e data) s fun t =>
      t.engSt e = { s.engSt e with acc := {}, mem := {} } ∧ t.reg (MEA_LFLAG e) = 0 ∧ t.engState e = enIdle ∧
      KeepsRegs [MEA_CTL e, MEA_STATUS e, MEA_LFLAG e] s t ∧ { t with regs := s.regs, eng := s.eng } = s)) ∧
  (∀ (s : State) (e : EngNo) (m : Fin 2) (data : Data), s.ready (MEA_MAP e m) = true → s.engState e ≤ enIdle →
    let mine := mapLanes (s.reg (MEA_MAP e m))
    (∀ n ∈ mapLanes data, n < 48 ∧ (n ∈ mine ∨ s.fldOn (LANE_MARGIN n) LANE_MARGIN_OWNED = false)) → hasTwice (mapLanes data) = false →
    Gives (.engineMapWrite e m data) s fun t => t.reg (MEA_MAP e m) = data ∧ { t with regs := s.regs } = s ∧
      ∀ n ∈ mapLanes data, t.fld (LANE_MARGIN n) LANE_MARGIN_OWNED = 1 ∧ t.fld (LANE_MARGIN n) LANE_MARGIN_ENGINE = e.val) ∧
  (∀ (s : State) (e : EngNo) (data : Data),
    (s.ready (MEA_PROG_DATA e) = true →
      let a := s.fld (MEA_PROG_ADDR e) MEA_PROG_ADDR_ADDR
      (s.engState e ≤ enIdle → Gives (.progDataAccess e (.write data)) s fun t => ((t.engSt e).prog.get (fun _ => 0) a).toNat = data.toNat % 2 ^ 32 ∧
        t.fld (MEA_PROG_ADDR e) MEA_PROG_ADDR_ADDR = (a + 1) % 4096 ∧ KeepsRegs [MEA_PROG_ADDR e] s t ∧ { t with regs := s.regs, eng := s.eng } = s) ∧
      (enIdle < s.engState e → Gives (.progDataAccess e (.write data)) s fun t =>
        t.fld (MEA_STATUS e) MEA_STATUS_CFG_REFUSED = 1 ∧ EventOnly [MEA_STATUS e] s t ∧ Logs 0x0701 s t) ∧
      (s.fldOn DBG_PEEK DBG_PEEK_PEEK = false → Gives (.progDataAccess e (.read .host)) s fun t => t.host.answer = some (toBytes 8 (s.progData e).toNat) ∧
        t.fld (MEA_PROG_ADDR e) MEA_PROG_ADDR_ADDR = (a + 1) % 4096 ∧ KeepsRegs [MEA_PROG_ADDR e] s t) ∧
      Gives (.progDataAccess e (.read .debug)) s (RegsOnly [] (s.answerReg (s.progData e)))) ∧
    (s.ready (MEA_MEM_DATA e) = true →
      let a := s.fld (MEA_MEM_ADDR e) MEA_MEM_ADDR_ADDR
      (Gives (.memDataAccess e (.write data)) s fun t => (t.engSt e).word (a / 8) (2 * (a % 8)) = data.toNat % 2 ^ 32 ∧
        (t.engSt e).word (a / 8) (2 * (a % 8) + 1) = data.toNat / 2 ^ 32 ∧
        t.fld (MEA_MEM_ADDR e) MEA_MEM_ADDR_ADDR = (a + 1) % 8192 ∧ KeepsRegs [MEA_MEM_ADDR e] s t ∧ { t with regs := s.regs, eng := s.eng } = s) ∧
      (s.fldOn DBG_PEEK DBG_PEEK_PEEK = false → Gives (.memDataAccess e (.read .host)) s fun t => t.host.answer = some (toBytes 8 (s.memData e).toNat) ∧
        t.fld (MEA_MEM_ADDR e) MEA_MEM_ADDR_ADDR = (a + 1) % 8192 ∧ KeepsRegs [MEA_MEM_ADDR e] s t) ∧
      Gives (.memDataAccess e (.read .debug)) s (RegsOnly [] (s.answerReg (s.memData e)))))

/-! ### Oases (chapter 09) -/

/-- OASIS_PORT_COMMAND with a valid write that no read-modify-write of this cycle meets stores the encoded word and owes an answer four edges on; a valid read of a clean word owes its data. OASIS_PORT_RESPONSE drives the answer
due on three channels and drops it. OASIS_FPORT_WRITE that meets no claim is written with its claims, and refused with event 0x0803 otherwise. OASIS_RING_ACCESS is answered with its
status, or held; a whole word written with full rights, that no read-modify-write of this cycle meets, stands there. OASIS_WRITEBACK puts the oldest corrected word back, and remaps one that does
not read clean. -/
def Obligations.OasisPortsAndRing : Prop :=
  (∀ (s : State) (i : GroupNo),
    let g := s.oasGrp i
    let cmd := s.fportWord i 0
    let w := natBits cmd 0 21
    let data := s.fportWord i 1 + 2 ^ 32 * s.fportWord i 2
    g.cmdAt ≠ s.time.fck + 1 → s.clk.rootRun = true → s.fport i OAS_G_FPORT_BOUND ≠ 0 → natBit cmd 31 = true → s.fportInert i = false → s.oasFailed i = false →
    (natBit cmd 30 = true → (s.oasNow i).rmws.find? (fun x => x.1 == w) = none → Gives (.oasisPortCommand i) s fun t => t.oasStored i w = (oasEncode data, false) ∧
      (t.oasGrp i).answers = g.answers ++ [{ due := s.time.fck + 4, data := 0, status := 1 }] ∧ KeepsRegs [] s t ∧
      { t with regs := s.regs, oas := s.oas } = s ∧ (∀ w', w' < 2 ^ 21 → w' ≠ w → t.oasStored i w' = s.oasStored i w')) ∧
    (natBit cmd 30 = false → (s.oasStored i w).2 = false → oasDecode (s.oasStored i w).1 = .clean →
      let a : OasAnswer := { due := s.time.fck + 4, data := BitVec.ofNat 64 (natBits (s.oasStored i w).1.toNat 0 64), status := 1 }
      Gives (.oasisPortCommand i) s fun t => (t.oasGrp i).answers = g.answers ++ [a] ∧ (t.oasGrp i).cmdAt = s.time.fck + 1 ∧ KeepsRegs [] s t ∧
        { t with regs := s.regs, oas := s.oas } = s ∧ ∀ w', w' < 2 ^ 21 → t.oasStored i w' = s.oasStored i w')) ∧
  (∀ (s : State) (i : GroupNo) (a : OasAnswer), (s.oasGrp i).answers.find? (fun x => x.due == s.time.fck) = some a →
    let g := s.oasGrp i
    let u := s.setOasGrp i { g with answers := g.answers.filter (fun x => decide (s.time.fck < x.due)) }
    let up := fun (s : State) (k : Nat) (v : BitVec 32) => s.drive (i % 64) (s.fport i OAS_G_FPORT_CH + k) (oasDie i) (s.fportTop i) v
    Gives (.oasisPortResponse i) s (RegsOnly [] (up (up (up u 3 (BitVec.ofNat 32 a.data.toNat)) 4 (BitVec.ofNat 32 (a.data.toNat / 2 ^ 32))) 5 (BitVec.ofNat 32 a.status)))) ∧
  (∀ (s : State) (i : GroupNo) (data : Data), s.ready (OAS_G_FPORT i) = true →
    let new := plainWrite OAS_G_FPORT_info (s.reg (OAS_G_FPORT i)) data
    let top := if OAS_G_FPORT_TOP.on new then 6 else 3
    let lo := min (oasDie i) top + 1
    let hi := max (oasDie i) top
    let claims := chanClaims (.oasis i) (i % 64) (OAS_G_FPORT_CH.get new + 3) 3 lo hi
    (OAS_G_FPORT_BOUND.on new = false → Gives (.oasisFportWrite i data) s fun t => t.reg (OAS_G_FPORT i) = new ∧ RegsOnly [OAS_G_FPORT i] (s.setClaims (.oasis i) []) t) ∧
    (OAS_G_FPORT_BOUND.on new = true → i.val ≠ s.storeGroup → s.bindRefused (.oasis i) (i % 64) (OAS_G_FPORT_CH.get new) 6 claims lo hi = false →
      Gives (.oasisFportWrite i data) s fun t => t.reg (OAS_G_FPORT i) = new ∧ RegsOnly [OAS_G_FPORT i] (s.setClaims (.oasis i) claims) t) ∧
    (OAS_G_FPORT_BOUND.on new = true → (i.val = s.storeGroup ∨ s.bindRefused (.oasis i) (i % 64) (OAS_G_FPORT_CH.get new) 6 claims lo hi = true) →
      Gives (.oasisFportWrite i data) s fun t => t.fld (OAS_G_STATUS i) OAS_G_STATUS_REFUSED = 1 ∧ t.fld (OAS_G_STATUS i) OAS_G_STATUS_REASON = 1 ∧
        EventOnly [OAS_G_STATUS i] s t ∧ Logs 0x0803 s t)) ∧
  (∀ (s : State) (i : GroupNo) (req : ReqId) (off : Nat) (acc : MemAcc),
    let r := s.nextReq.oasAcc i req (off % 2 ^ 24) acc
    (r.2.1 ≠ memWait → Gives (.oasisRingAccess i req off acc) s fun t => LastAnswer s.mem.nextId r.2.1 r.2.2 t) ∧
    (r.2.1 = memWait → Gives (.oasisRingAccess i req off acc) s fun t =>
      (t.oasGrp i).held = (r.1.oasGrp i).held ++ [{ id := s.mem.nextId, req := req, off := off % 2 ^ 24, acc := acc }] ∧ KeepsRegs [] r.1 t) ∧
    (∀ bytes : List Byte, acc = .write bytes → bytes.length = 8 → off % 8 = 0 → s.rightOf (CRY_OAS_RIGHTS 0) req = 3 → i.val ≠ s.storeGroup → s.oasClearing i = false →
      s.pwr.inReset.contains (oasDie i) = false → s.fldOn (OAS_G_CTL i) OAS_G_CTL_TEST = false → s.oasFailed i = false →
      (s.pwr.st = .rest → s.pwr.emulated = true) → (s.oasNow i).rmws.find? (fun x => x.1 == off % 2 ^ 24 / 8) = none →
      Gives (.oasisRingAccess i req off acc) s fun t => LastAnswer s.mem.nextId 0 [] t ∧ KeepsRegs [] s t ∧
        t.oasStored i (off % 2 ^ 24 / 8) = (oasEncode (ofBytes bytes), false))) ∧
  (∀ (s : State) (i : GroupNo) (w : Nat) (v : BitVec 72) (rest : List (Nat × BitVec 72)), (s.oasGrp i).wbs = (w, v) :: rest →
    Gives (.oasisWriteback i true) s (RegsOnly [] (s.oasPut i w v)) ∧
    (∀ e, (s.oasGrp i).freeEntry (oasBank w) = some e → Gives (.oasisWriteback i false) s fun t =>
      (t.oasGrp i).spare (oasBank w) e = some { row := oasRow w, poison := false, selfTest := false, word := v } ∧ KeepsRegs [OAS_G_STATUS i] s t ∧
      { t with regs := s.regs, oas := s.oas } = s))

/-- OASIS_SELF_TEST of a layer that clears leaves every word of it zero, and with no bad word every spare and no group FAILED; OASIS_SELF_TEST_END ends the clearing of its 64 groups, carries out what they held and shows the
result in BIST. A group in no use enters and leaves the test state, one in use refuses it with event 0x0803 and reason 2. OASIS_TEST_WRITE and OASIS_TEST_READ write and read the word that TEST_ADDR
names of a group under test, and of another refuse with reason 3. CONF_CLEAR zeroes the conflict counts. -/
def Obligations.OasisTests : Prop :=
  (∀ (s : State) (layer : LayerNo) (bad : List Nat), s.oasClearing (64 * layer) = true →
    Gives (.oasisSelfTest layer bad) s fun t => (∀ g w, g < 64 → w < 2 ^ 21 → t.oas.words.get (fun _ => 0) (oasKey (64 * layer + g) w) = 0) ∧
      (bad = [] → (∀ g w, g < 64 → w < 2 ^ 21 → (t.oasStored (64 * layer + g) w).1 = 0) ∧ t.reg (OAS_BIST layer) = 0 ∧ (∀ g, g < 64 → t.oasFailed (64 * layer + g) = false) ∧
        KeepsRegs (OAS_BIST layer :: (State.layerGroups layer).map (fun i => OAS_G_STATUS i)) s t ∧ { t with regs := s.regs, oas := s.oas } = s)) ∧
  (∀ (s : State) (layer : LayerNo), s.oasClearing (64 * layer) = true →
    Gives (.oasisSelfTestEnd layer) s fun t => (∀ g, g < 64 → t.oasClearing (64 * layer + g) = false ∧
        (s.pwr.inReset.contains (oasDie (64 * layer + g)) = false → (s.pwr.st = .rest → s.pwr.emulated = true) → (t.oasGrp (64 * layer + g)).held = [])) ∧
      t.fld (OAS_BIST layer) OAS_BIST_DONE = 1 ∧ t.fld (OAS_BIST layer) OAS_BIST_PASS = bit01 (s.fld (OAS_BIST layer) OAS_BIST_FAILED == 0)) ∧
  (∀ (s : State) (i : GroupNo) (data : Data), s.ready (OAS_G_CTL i) = true →
    (OAS_G_CTL_TEST.on data = false ∨ s.oasInUse i = false → Gives (.oasisTestStateWrite i data) s fun t =>
      t.fld (OAS_G_CTL i) OAS_G_CTL_TEST = OAS_G_CTL_TEST.get data ∧ RegsOnly [OAS_G_CTL i] s t) ∧
    (OAS_G_CTL_TEST.on data = true → s.fldOn (OAS_G_CTL i) OAS_G_CTL_TEST = false → s.oasInUse i = true → Gives (.oasisTestStateWrite i data) s fun t =>
      t.fld (OAS_G_STATUS i) OAS_G_STATUS_REASON = 2 ∧ EventOnly [OAS_G_STATUS i] s t ∧ Logs 0x0803 s t)) ∧
  (∀ (s : State) (data : Data), s.ready OAS_TEST_CTL = true →
    let i := s.fld OAS_TEST_ADDR OAS_TEST_ADDR_GROUP
    let w := s.fld OAS_TEST_ADDR OAS_TEST_ADDR_WORD
    (OAS_TEST_CTL_WRITE.on data = true → OAS_TEST_CTL_READ.on data = false → s.fldOn (OAS_G_CTL i) OAS_G_CTL_TEST = true → s.oasClearing i = false →
      Gives (.oasisTestWrite data) s fun t => KeepsRegs [OAS_TEST_CTL] s t ∧ t.oasStored i w = ((if OAS_TEST_CTL_SPLIT.on data then
        BitVec.ofNat 72 ((s.reg OAS_TEST_DATA).toNat + 2 ^ 64 * s.fld OAS_TEST_CHECK OAS_TEST_CHECK_CHECK) else oasEncode (s.reg OAS_TEST_DATA).toNat), false)) ∧
    (OAS_TEST_CTL_WRITE.on data = false → OAS_TEST_CTL_READ.on data = true → s.fldOn (OAS_G_CTL i) OAS_G_CTL_TEST = true → s.oasClearing i = false →
      let v := (s.oasStored i w).1
      Gives (.oasisTestRead data) s fun t => RegsOnly [OAS_TEST_CTL, OAS_TEST_DATA, OAS_TEST_CHECK] s t ∧
        t.fld OAS_TEST_CHECK OAS_TEST_CHECK_CHECK = natBits v.toNat 64 8 ∧ t.fld OAS_TEST_CHECK OAS_TEST_CHECK_SYNDROME = (oasSyndrome v).1 ∧
        (oasDecode v = .clean → t.fld OAS_TEST_CTL OAS_TEST_CTL_RESULT = 0 ∧ t.reg OAS_TEST_DATA = BitVec.ofNat 64 v.toNat) ∧
        (∀ c, oasDecode v = .corrected c → t.fld OAS_TEST_CTL OAS_TEST_CTL_RESULT = 1 ∧ t.reg OAS_TEST_DATA = BitVec.ofNat 64 c.toNat) ∧
        (oasDecode v = .bad → t.fld OAS_TEST_CTL OAS_TEST_CTL_RESULT = 2 ∧ t.reg OAS_TEST_DATA = BitVec.ofNat 64 v.toNat)) ∧
    ((OAS_TEST_CTL_WRITE.on data = true ∨ OAS_TEST_CTL_READ.on data = true) → s.fldOn (OAS_G_CTL i) OAS_G_CTL_TEST = false →
      Gives (.oasisTestWrite data) s (fun t => t.fld (OAS_G_STATUS i) OAS_G_STATUS_REASON = 3 ∧ EventOnly [OAS_TEST_CTL, OAS_G_STATUS i] s t ∧ Logs 0x0803 s t) ∧
      Gives (.oasisTestRead data) s (fun t => t.fld (OAS_G_STATUS i) OAS_G_STATUS_REASON = 3 ∧ EventOnly [OAS_TEST_CTL, OAS_G_STATUS i] s t ∧ Logs 0x0803 s t))) ∧
  (∀ (s : State) (data : Data), s.ready OAS_CONF_CTL = true → OAS_CONF_CTL_CLEAR.on data = true →
    Gives (.confClear data) s (RegsOnly [] { s with oas := { s.oas with conf := {} } }))

/-! ### Where a byte of an oasis lies (chapter 09) -/

/-- For every offset o below 2^24: its word w is o div 8, in bank w mod 8 and row w div 8, at most 262,143; the next word lies in the next bank; the offsets of its 64-byte line lie in one row, in all eight banks; and a read of one byte at o by
a requester with the right, of a word that is stored clean, answers bits 8j + 7 to 8j of that word, j being o mod 8, byte 0 being bits 7:0, and touches the conflict counter of no other bank. -/
def Obligations.OasisAddressing : Prop :=
  ∀ o : Nat, o < 2 ^ 24 → let w := o / 8
    w < 2 ^ 21 ∧ oasBank w = w % 8 ∧ oasRow w = w / 8 ∧ oasRow w ≤ 262143 ∧ oasBank (w + 1) = (oasBank w + 1) % 8 ∧
    (∀ o', o' / 64 = o / 64 → oasRow (o' / 8) = oasRow w) ∧ (∀ b, b < 8 → ∃ o', o' / 64 = o / 64 ∧ oasBank (o' / 8) = b) ∧
    ∀ (s : State) (i : GroupNo) (req : ReqId), 2 ≤ s.rightOf (CRY_OAS_RIGHTS 0) req → i.val ≠ s.storeGroup → s.oasClearing i = false →
      s.pwr.inReset.contains (oasDie i) = false → s.fldOn (OAS_G_CTL i) OAS_G_CTL_TEST = false → s.oasFailed i = false →
      (s.pwr.st = .rest → s.pwr.emulated = true) → (s.oasStored i w).2 = false → oasDecode (s.oasStored i w).1 = .clean →
      Gives (.oasisRingAccess i req o (.read 1)) s fun t =>
        LastAnswer s.mem.nextId 0 [BitVec.ofNat 8 (natBits (s.oasStored i w).1.toNat (8 * (o % 8)) 8)] t ∧ (req.val ≠ 20 → KeepsRegs [] s t) ∧
        ∀ k, k ≠ (i * 8 + oasBank w) * 64 + req → t.oas.conf.get (fun _ => 0) k = s.oas.conf.get (fun _ => 0) k

/-! ### The external memory (chapter 10) -/

/-- REQUEST_TRANSLATE of a read of one whole line is answered with the first check that it fails, or waits at its controller where that is READY. DRAM_REQUEST serves the first waiting
request of a READY controller with no retraining: where no delay token stands before it, it leaves the queue and is answered; no DRAM_REQUEST takes more than one request away. THROTTLE_HOLD_EXPIRY lifts its throttle, ACTIVATION_COUNTER_CLEAR zeroes the counters, REFRESH closes its bank's row and pays a command owed by the counters or asked by the DRAM, which waits
for a channel that retrains.
With the controller READY and the line's channel not out for retraining, DRAM_WRITEBACK puts the oldest corrected line back, or to a spare, and
PATROL_SCRUB_LINE moves on, and counts a pass at the end. -/
def Obligations.DramRequests : Prop :=
  (∀ (s : State) (req : ReqId) (addr : Nat), addr % 64 = 0 →
    (∀ u st, s.checkRequest req addr .read = (u, .inl st) → Gives (.requestTranslate req addr (.read 64)) s fun t => LastAnswer u.mem.nextId st [] t) ∧
    (∀ (u : State) (p : Nat) (q : DramReq), s.checkRequest req addr .read = (u, .inr (p, q)) → u.ctlState p = ctlReady → u.isUp (0x200 + p) = true →
      u.pwr.inReset.contains (0x200 + p) = false →
      Gives (.requestTranslate req addr (.read 64)) s (RegsOnly [] (u.nextReq.setCtl p { u.ctlAt p with queue := (u.ctlAt p).queue ++ [q] })))) ∧
  (∀ (s : State) (p : CtlNo) (failReads : ReadErrs) (q : DramReq) (rest : List DramReq), s.ctlState p = ctlReady → (s.ctlAt p).queue = q :: rest →
    s.fld (DRMC_STATUS p) DRMC_STATUS_RETRAINING = 0 → s.tokenBefore p q = false →
    let s1 := if (s.ctlAt p).throttled.isEmpty then s else s.spend 1
    let u := s1.setCtl p { s.ctlAt p with queue := (s.ctlAt p).queue.filter (fun x => x.id != q.id) }
    let r := u.performLine p failReads q
    Gives (.dramRequest p failReads) s fun t => t.mem.answers.head?.map (fun a => (a.id, a.status)) = some (q.id, r.2.1) ∧ (t.ctlAt p).queue = (u.ctlAt p).queue) ∧
  (∀ (s : State) (p : CtlNo) (failReads : ReadErrs), Gives (.dramRequest p failReads) s fun t => (t.ctlAt p).queue = (s.ctlAt p).queue ∨
    ∃ q ∈ (s.ctlAt p).queue, (t.ctlAt p).queue = (s.ctlAt p).queue.filter (fun x => x.id != q.id)) ∧
  (∀ (s : State) (p : CtlNo) (req : ReqId) (bank : Nat),
    Gives (.throttleHoldExpiry p req bank) s (RegsOnly [] (s.setCtl p { s.ctlAt p with throttled := (s.ctlAt p).throttled.filter (· != (req.val, bank)) })) ∧
    Gives (.activationCounterClear p) s (RegsOnly [] (s.setCtl p { s.ctlAt p with acts := {} })) ∧
    (s.ctlState p = ctlReady → s.retraining p (bank % 128 / 32) = true → Gives (.refresh p bank true) s fun t => RegsOnly [] { s with ctl := t.ctl } t ∧
      bank % 128 ∈ (t.ctlAt p).refDue ∧ (t.ctlAt p).acts = (s.ctlAt p).acts ∧ (t.ctlAt p).lines = (s.ctlAt p).lines) ∧
    (s.ctlState p = ctlReady → s.retraining p (bank % 128 / 32) = false → ∀ own : Bool, Gives (.refresh p bank own) s fun t => RegsOnly [] { s with ctl := t.ctl } t ∧
      (t.ctlAt p).openRow.get (fun _ => none) (bank % 128) = none ∧ bank % 128 ∉ (t.ctlAt p).refDue ∧ (t.ctlAt p).lines = (s.ctlAt p).lines ∧
      (own = true ∨ bank % 128 ∈ (s.ctlAt p).refDue → ∀ r, (t.ctlAt p).acts.get (fun _ => 0) (r * 128 + bank % 128) = 0))) ∧
  (∀ (s : State) (p : CtlNo) (line : Nat) (v : DramLine) (rest : List (Nat × DramLine)), (s.ctlAt p).wbs = (line, v) :: rest → s.ctlState p = ctlReady →
    s.retraining p (s.lineChannel p line) = false →
    Gives (.dramWriteback p true) s (RegsOnly [] (s.setCtl p ((s.ctlAt p).putLine line v))) ∧
    (∀ e, firstBelow 16 (fun e => (((s.ctlAt p).putLine line v).spare e).isNone && !(s.ctlAt p).dead.contains e) = some e →
      Gives (.dramWriteback p false) s fun t => (t.ctlAt p).spare e = some { line := line, poison := false, cause := 1, val := v } ∧ KeepsRegs [] s t)) ∧
  (∀ (s : State) (p : CtlNo) (failReads : ReadErrs), s.ctlState p = ctlReady → s.fldOn (DRMC_CTL p) DRMC_CTL_PATROL = true →
    let n := s.fld (DRMC_SCRUB p) DRMC_SCRUB_NEXT
    s.retraining p (s.lineChannel p n) = false →
    Gives (.patrolScrubLine p failReads) s fun t => KeepsRegs ([DRMC_SCRUB p, DRMC_ERR p, DRMC_ERR2 p, DRMC_ERR_LOG p, DRMC_STATUS p] ++ eventRegs) s t ∧
      (n + 1 < s.usableMib * 2 ^ 14 → t.fld (DRMC_SCRUB p) DRMC_SCRUB_NEXT = n + 1 ∧ t.fld (DRMC_SCRUB p) DRMC_SCRUB_PASSES = s.fld (DRMC_SCRUB p) DRMC_SCRUB_PASSES) ∧
      (s.usableMib * 2 ^ 14 ≤ n + 1 → t.fld (DRMC_SCRUB p) DRMC_SCRUB_NEXT = 0 ∧
        t.fld (DRMC_SCRUB p) DRMC_SCRUB_PASSES = (s.fld (DRMC_SCRUB p) DRMC_SCRUB_PASSES + 1) % 2 ^ 32))

/-- Of a READY controller, RETRAIN_PERIODIC with an interval, a changed refresh report, and CMD_RETRAIN each bring the channel's retraining, at once where none is under way; RETRAIN_END that succeeds ends it, and a fifth failure leaves the
controller FAILED with event 0x0806. TRAINING_END takes TRAINING to CLEARING, to READY with KEPT where its contents are kept, or with a failed channel to FAILED; CLEARING_END leaves every line zero and READY.
CLR_CNT zeroes the counters. -/
def Obligations.DramTraining : Prop :=
  (∀ (s : State) (p : CtlNo) (ch : Fin 4), s.ctlState p = ctlReady → (s.ctlAt p).retrain = [] →
    let asked := fun (u t : State) => RegsOnly [DRMC_STATUS p] (u.setCtl p { u.ctlAt p with retrain := [ch.val] }) t ∧ t.fld (DRMC_STATUS p) DRMC_STATUS_RETRAINING = 2 ^ ch.val
    (s.fldOn (DRMC_CTL p) DRMC_CTL_RETRAIN = true → Gives (.retrainPeriodic p ch) s (asked s)) ∧
    (s.fldOn (DRMC_CTL p) DRMC_CTL_RETRAIN = false → Gives (.retrainPeriodic p ch) s (RegsOnly [] s)) ∧
    (∀ rate : BitVec 5, let u := s.setCtl p { s.ctlAt p with rate := (s.ctlAt p).rate.set (fun _ => none) ch (some rate.toNat) }
      ((∃ old, (s.ctlAt p).rate.get (fun _ => none) ch = some old ∧ old ≠ rate.toNat) → Gives (.refreshReportPoll p ch rate) s (asked u)) ∧
      ((s.ctlAt p).rate.get (fun _ => none) ch = none ∨ (s.ctlAt p).rate.get (fun _ => none) ch = some rate.toNat → Gives (.refreshReportPoll p ch rate) s (RegsOnly [] u))) ∧
    (∀ data : Data, s.ready (DRMC_CMD p) = true → DRMC_CMD_CLR_CNT.on data = false → DRMC_CMD_RETRAIN.get data = 2 ^ ch.val → Gives (.cmdRetrain p data) s (asked s))) ∧
  (∀ (s : State) (p : CtlNo) (data : Data), s.ready (DRMC_CMD p) = true → DRMC_CMD_CLR_CNT.on data = true → DRMC_CMD_RETRAIN.get data = 0 →
    Gives (.clrCnt p data) s fun t => t.reg (DRMC_ERR p) = 0 ∧ t.reg (DRMC_ERR2 p) = 0 ∧ t.fld (DRMC_RH_LOG p) DRMC_RH_LOG_THROTTLES = 0 ∧
      RegsOnly [DRMC_ERR p, DRMC_ERR2 p, DRMC_RH_LOG p] s t) ∧
  (∀ (s : State) (p : CtlNo) (ch : Fin 4), s.retraining p ch = true →
    ((s.ctlAt p).retrain = [ch.val] → Gives (.retrainEnd p ch true) s fun t => (t.ctlAt p).retrain = [] ∧ t.fld (DRMC_STATUS p) DRMC_STATUS_RETRAINING = 0 ∧ KeepsRegs [DRMC_STATUS p] s t) ∧
    ((s.ctlAt p).fails.get (fun _ => 0) ch < 4 → Gives (.retrainEnd p ch false) s fun t => KeepsRegs [] s t ∧
      (t.ctlAt p).fails.get (fun _ => 0) ch = (s.ctlAt p).fails.get (fun _ => 0) ch + 1) ∧
    (4 ≤ (s.ctlAt p).fails.get (fun _ => 0) ch → Gives (.retrainEnd p ch false) s fun t => t.ctlState p = ctlFailed ∧
      t.fld (DRMC_STATUS p) DRMC_STATUS_CH_FAILED = 2 ^ ch.val ∧ (t.ctlAt p).queue = [] ∧ LastEvent 0x0806 t)) ∧
  (∀ (s : State) (p : CtlNo) (failed : BitVec 4), s.ctlState p = ctlTraining → s.mem.setUp = false →
    (failed = 0 → Gives (.trainingEnd p failed) s fun t => t.ctlState p = (if (s.ctlAt p).keep then ctlReady else ctlClearing) ∧
      t.fld (DRMC_STATUS p) DRMC_STATUS_CH_FAILED = 0 ∧ ((s.ctlAt p).keep = true → t.fld (DRMC_STATUS p) DRMC_STATUS_KEPT = 1) ∧
      RegsOnly [DRMC_STATUS p] (s.setCtl p { s.ctlAt p with keep := false, cache := {}, openRow := {} }) t) ∧
    (failed ≠ 0 → Gives (.trainingEnd p failed) s fun t => t.ctlState p = ctlFailed ∧ t.fld (DRMC_STATUS p) DRMC_STATUS_CH_FAILED = failed.toNat ∧ LastEvent 0x0806 t)) ∧
  (∀ (s : State) (p : CtlNo), s.ctlState p = ctlClearing → Gives (.clearingEnd p) s fun t => t.ctlState p = ctlReady ∧ RegsOnly [DRMC_STATUS p] { s with ctl := t.ctl } t ∧
    (∀ line, (t.ctlAt p).stored line = ({}, false)) ∧ ∀ q : CtlNo, q ≠ p → t.ctlAt q = s.ctlAt q)

/-- WINDOW_CFG_WRITE of a window that is not valid is performed where it stays so or passes every check, and refused with the first failed check's reason and event 0x0807 otherwise; of a valid one it may only make it
invalid, any other change having reason 1. WINDOW_MASK_WRITE is performed while the window is not valid. PRESET_WRITE changes PRESET only while no valid window names the controller. -/
def Obligations.DramWindows : Prop :=
  (∀ (s : State) (w : WinNo) (data : Data), s.ready (DRMC_WIN_CFG w) = true →
    let old := s.reg (DRMC_WIN_CFG w)
    let new := plainWrite DRMC_WIN_CFG_info old data
    let refused := fun (reason : Nat) (t : State) => t.fld DRMC_MAP_STATUS DRMC_MAP_STATUS_REFUSED = 1 ∧ t.fld DRMC_MAP_STATUS DRMC_MAP_STATUS_REASON = reason ∧
      t.fld DRMC_MAP_STATUS DRMC_MAP_STATUS_WIN = w.val ∧ EventOnly [DRMC_MAP_STATUS] s t ∧ Logs 0x0807 s t
    (winValid new = false → Gives (.windowCfgWrite w data) s fun t => t.reg (DRMC_WIN_CFG w) = new ∧ RegsOnly [DRMC_WIN_CFG w] s t) ∧
    (winValid new = true → new = old → Gives (.windowCfgWrite w data) s (RegsOnly [] s)) ∧
    (winValid new = true → winValid old = true → new ≠ old → Gives (.windowCfgWrite w data) s (refused 1)) ∧
    (winValid new = true → winValid old = false →
      (s.winFault w new = none → Gives (.windowCfgWrite w data) s fun t => t.reg (DRMC_WIN_CFG w) = new ∧ RegsOnly [DRMC_WIN_CFG w] s t) ∧
      (∀ r, s.winFault w new = some r → Gives (.windowCfgWrite w data) s (refused r)))) ∧
  (∀ (s : State) (w : WinNo) (data : Data), s.ready (DRMC_WIN_MASK w) = true →
    (winValid (s.reg (DRMC_WIN_CFG w)) = false → Gives (.windowMaskWrite w data) s fun t =>
      t.reg (DRMC_WIN_MASK w) = plainWrite DRMC_WIN_MASK_info (s.reg (DRMC_WIN_MASK w)) data ∧ RegsOnly [DRMC_WIN_MASK w] s t) ∧
    (winValid (s.reg (DRMC_WIN_CFG w)) = true → Gives (.windowMaskWrite w data) s fun t => t.fld DRMC_MAP_STATUS DRMC_MAP_STATUS_REASON = 1 ∧
      EventOnly [DRMC_MAP_STATUS] s t ∧ Logs 0x0807 s t)) ∧
  (∀ (s : State) (p : CtlNo) (data : Data), s.ready (DRMC_CTL p) = true →
    let old := s.reg (DRMC_CTL p)
    let new := plainWrite DRMC_CTL_info old data
    let mapped := ∃ w : WinNo, winValid (s.reg (DRMC_WIN_CFG w)) = true ∧ natBit (s.fld (DRMC_WIN_MASK w) DRMC_WIN_MASK_CTRL) p = true
    (¬ mapped ∨ DRMC_CTL_PRESET.get new = DRMC_CTL_PRESET.get old → Gives (.presetWrite p data) s fun t => t.reg (DRMC_CTL p) = new ∧ RegsOnly [DRMC_CTL p] s t) ∧
    (mapped → DRMC_CTL_PRESET.get new ≠ DRMC_CTL_PRESET.get old → Gives (.presetWrite p data) s fun t => t.fld (DRMC_CTL p) DRMC_CTL_PRESET = DRMC_CTL_PRESET.get old ∧
      t.fld (DRMC_STATUS p) DRMC_STATUS_REFUSED = 1 ∧ t.fld (DRMC_STATUS p) DRMC_STATUS_REASON = 1 ∧ RegsOnly [DRMC_CTL p, DRMC_STATUS p] s t))

/-! ### Encryption keys and the drift (chapter 11) -/

/-- A KEY item whose slot is not the owner's is refused with reason 9 whatever its OP. From the owner's slot: KEY_DOMAIN past its checks writes the domain's configuration and rights, and with a key
delivered installs it with its epoch; a check it fails refuses it with the reason shown in CMD_STATUS. KEY_STRICT_WINDOW inside a domain and clear of the others is written, else refused with reason 5. KEY_OASIS_RIGHTS
writes both registers. KEY_SLOT_KEY leaves its slot active at counter zero under the key, ceiling 4,096; KEY_SLOT_ERASE leaves it EMPTY with no key. -/
def Obligations.KeyCommands : Prop :=
  ∀ (s : State) (c : Running) (hostFail : Bool), s.curOp keySecurity opKey = some c → s.attestFailed = false →
  let it := c.item
  let ok := fun (t : State) => t.resultOf keySecurity = some { status := stSuccess }
  let refused := fun (r : Nat) (t : State) => t.resultOf keySecurity = some { status := stRefused, detail := r } ∧ t.fld CRY_CMD_STATUS CRY_CMD_STATUS_REFUSED = 1 ∧
    t.fld CRY_CMD_STATUS CRY_CMD_STATUS_REASON = r ∧ RegsOnly [CRY_CMD_STATUS] (s.cmdRefused keySecurity r) t
  (it.slot ≠ 0 → ∀ p ∈ [(1, Instr.keyDomain hostFail), (2, .keyStrictWindow), (3, .keyOasisRights), (4, .keySlotKey hostFail), (5, .keySlotErase)], it.num 16 1 = p.1 →
    Gives p.2 s (RegsOnly [] (s.cmdRefused keySecurity 9))) ∧
  (it.slot = 0 →
    (it.num 16 1 = 1 → it.num 17 1 < 16 → let d := it.num 17 1
      let new := rwaWrite (CRY_DOM_CFG d) (s.reg (CRY_DOM_CFG d)) (BitVec.ofNat 64 (it.num 32 8))
      let newKey := natBit (it.num 19 1) 0
      let cfg := fun (t : State) => t.reg (CRY_DOM_CFG d) = new ∧ t.reg (CRY_DOM_RIGHTS d 0) = BitVec.ofNat 64 (it.num 40 8) ∧
        t.reg (CRY_DOM_RIGHTS d 1) = BitVec.ofNat 64 (it.num 48 8)
      (∀ r, s.domFault d new (if newKey then some (it.num 18 1) else none) = some r → Gives (.keyDomain hostFail) s (refused r)) ∧
      (newKey = false → s.domFault d new none = none → Gives (.keyDomain hostFail) s fun t => ok t ∧ cfg t ∧
        RegsOnly [CRY_DOM_CFG d, CRY_DOM_RIGHTS d 0, CRY_DOM_RIGHTS d 1] (s.finishSt keySecurity stSuccess) t) ∧
      (∀ k, newKey = true → s.domFault d new (some (it.num 18 1)) = none → s.domKeyIn (natBit (it.num 19 1) 1) (it.num 24 8) hostFail = .key k →
        Gives (.keyDomain hostFail) s fun t => ok t ∧ cfg t ∧ t.domKey d = BitVec.ofNat 256 k.toNat ∧ t.fld (CRY_DOM_KEY d) CRY_DOM_KEY_KEY_VALID = 1 ∧
          t.domEpoch d = it.num 18 1 ∧ KeepsRegs [CRY_DOM_CFG d, CRY_DOM_RIGHTS d 0, CRY_DOM_RIGHTS d 1, CRY_DOM_KEY d] s t)) ∧
    (it.num 16 1 = 2 → it.num 17 1 < 8 → let w := it.num 17 1
      let new := rwaWrite (CRY_STRICT_CFG w) (s.reg (CRY_STRICT_CFG w)) (BitVec.ofNat 64 (it.num 32 8))
      let r := strictRange new
      let inside := ∃ d, d < 16 ∧ domValid (s.reg (CRY_DOM_CFG d)) = true ∧ domBase (s.reg (CRY_DOM_CFG d)) * 2 ^ 20 ≤ r.1 ∧
        r.1 + r.2 ≤ (domBase (s.reg (CRY_DOM_CFG d)) + domSize (s.reg (CRY_DOM_CFG d))) * 2 ^ 20
      let meets := ∃ x, x < 8 ∧ x ≠ w ∧ strictValid (s.reg (CRY_STRICT_CFG x)) = true ∧
        rangesMeet r.1 r.2 (strictRange (s.reg (CRY_STRICT_CFG x))).1 (strictRange (s.reg (CRY_STRICT_CFG x))).2 = true
      (strictValid new = false ∨ (inside ∧ ¬ meets) → Gives .keyStrictWindow s fun t => ok t ∧ t.reg (CRY_STRICT_CFG w) = new ∧
        RegsOnly [CRY_STRICT_CFG w] (s.finishSt keySecurity stSuccess) t) ∧
      (strictValid new = true → (¬ inside ∨ meets) → Gives .keyStrictWindow s (refused 5))) ∧
    (it.num 16 1 = 3 → Gives .keyOasisRights s fun t => ok t ∧ t.reg (CRY_OAS_RIGHTS 0) = BitVec.ofNat 64 (it.num 40 8) ∧
      t.reg (CRY_OAS_RIGHTS 1) = BitVec.ofNat 64 (it.num 48 8) ∧ RegsOnly [CRY_OAS_RIGHTS 0, CRY_OAS_RIGHTS 1] (s.finishSt keySecurity stSuccess) t) ∧
    (it.num 16 1 = 4 → it.num 17 1 < 16 → ∀ k, s.keyIn (natBit (it.num 19 1) 1) (it.num 24 8) hostFail = .key k → let n := it.num 17 1
      Gives (.keySlotKey hostFail) s fun t => ok t ∧ t.fld (SEC_SLOT n) SEC_SLOT_STATE = slotActive ∧ t.fld (SEC_SLOT n) SEC_SLOT_LAST = 0 ∧
        (t.slotKey n).key = k ∧ (t.slotKey n).ceiling = 4096 ∧ (t.slotKey n).by_ = none ∧ KeepsRegs [SEC_SLOT n] s t ∧ ∀ m, m ≠ n → t.slotKey m = s.slotKey m) ∧
    (it.num 16 1 = 5 → it.num 17 1 < 16 → let n := it.num 17 1
      Gives .keySlotErase s fun t => ok t ∧ t.fld (SEC_SLOT n) SEC_SLOT_STATE = slotEmpty ∧ (t.slotKey n).key = 0 ∧ KeepsRegs [SEC_SLOT n] s t ∧
        ∀ m, m ≠ n → t.slotKey m = s.slotKey m))

/-- DRIFT_START past its checks holds the new key with its epoch, B and C at BASE, waiting for the checkpoint's record; with a drift under way or an invalid domain it is refused with reason 6. DRIFT_LINE of a running drift with no checkpoint
due, whose line need not wait at its controller, passes a blank line, seals a line that opens under the old key anew under the new one, and skips one that no window covers, with event 0x080B; at the domain's end the new key is the only one, with event 0x080C.
DRIFT_CHECKPOINT_CONFIRM brings C to B and the record into the store; DRIFT_CHECKPOINT_RETRY and PAUSE show PAUSED. -/
def Obligations.DriftCommands : Prop :=
  (∀ (s : State) (c : Running) (hostFail : Bool), s.curOp keyDrift opDriftStart = some c → c.step = 0 →
    let it := c.item
    let d := it.num 16 1
    let e := it.num 17 1
    (driftState s ≠ 0 ∨ domValid (s.reg (CRY_DOM_CFG d)) = false → Gives (.driftStart hostFail) s fun t =>
      t.resultOf keyDrift = some { status := stRefused, detail := 6 } ∧ t.fld CRY_CMD_STATUS CRY_CMD_STATUS_REASON = 6 ∧ KeepsRegs [CRY_CMD_STATUS] s t) ∧
    (∀ k, driftState s = 0 → d < 16 → domValid (s.reg (CRY_DOM_CFG d)) = true → e ≠ 0 → e ≠ s.domEpoch d →
      s.domKeyIn (natBit (it.num 18 1) 0) (it.num 24 8) hostFail = .key k →
      let line := domBase (s.reg (CRY_DOM_CFG d)) * 2 ^ 14
      Gives (.driftStart hostFail) s fun t => t.driftDom = d ∧ t.fld CRY_DRIFT_BOUNDARY CRY_DRIFT_BOUNDARY_LINE = line ∧
        t.fld CRY_DRIFT_CHECKPOINT CRY_DRIFT_CHECKPOINT_LINE = line ∧ t.newKey d = BitVec.ofNat 256 k.toNat ∧ t.newEpoch d = e ∧ t.domKey d = s.domKey d ∧
        t.mem.ckpt = some false ∧ driftState t = (if t.fldOn CRY_DRIFT_CTL CRY_DRIFT_CTL_PAUSE then 2 else 1) ∧
        KeepsRegs [CRY_DRIFT_CTL, CRY_DRIFT_STATUS, CRY_DRIFT_BOUNDARY, CRY_DRIFT_CHECKPOINT, CRY_DOM_KEY d] s t)) ∧
  (∀ (s : State) (failReads : ReadErrs), driftState s = 1 → s.mem.ckpt = none → s.driftDom < 16 →
    let d := s.driftDom
    let a := s.boundary
    let dom := s.reg (CRY_DOM_CFG d)
    let stop := (domBase dom + domSize dom) * 2 ^ 20
    let moved := fun (t : State) => t.fld CRY_DRIFT_BOUNDARY CRY_DRIFT_BOUNDARY_LINE = (s.fld CRY_DRIFT_BOUNDARY CRY_DRIFT_BOUNDARY_LINE + 1) % 2 ^ CRY_DRIFT_BOUNDARY_LINE.w
    (s.winOf a = none → a + 64 < stop → Gives (.driftLine failReads) s fun t => moved t ∧ Logs 0x080B s t ∧
      t.fld CRY_DRIFT_STATUS CRY_DRIFT_STATUS_SKIPPED = satAdd CRY_DRIFT_STATUS_SKIPPED.w (s.fld CRY_DRIFT_STATUS CRY_DRIFT_STATUS_SKIPPED) 1 ∧
      KeepsRegs ([CRY_DRIFT_BOUNDARY, CRY_DRIFT_STATUS] ++ eventRegs) s t) ∧
    (s.winOf a = none → stop ≤ a + 64 → Gives (.driftLine failReads) s fun t => driftState t = 0 ∧ t.domKey d = s.newKey d ∧ t.domEpoch d = s.newEpoch d ∧
      t.fld (CRY_DOM_KEY d) CRY_DOM_KEY_NEW_VALID = 0 ∧ t.store.checkpoint = none ∧ LastEvent 0x080C t) ∧
    (∀ (w p line : Nat) (u v : State) (l : DramLine), s.winOf a = some w → s.mapLine w a = (p, line) → s.checkController p = (u, 0) →
      let x := u.dramDrain p
      x.lineWaits p line 23 = false →
      (((x.dramActivate p line 23).cacheTouch p line).wrapFld (DRMC_CNT_RD p) DRMC_CNT_RD_LINES 1).dramReadLine p line 23 0 failReads = (v, some l) →
      v.mem.zone = false → a + 64 < stop → p < 32 →
      (l.blank = true → Gives (.driftLine failReads) s fun t => moved t ∧ t.ctl = v.ctl) ∧
      (∀ plain, l.blank = false → openUnder [(v.domKey d, v.domEpoch d)] (a / 64) d (v.strictOf a).isSome l = some plain →
        Gives (.driftLine failReads) s fun t => moved t ∧
          (t.ctlAt p).stored line = (sealLine (v.newKey d) (a / 64) (if (v.strictOf a).isSome then l.epoch else v.newEpoch d) d (v.strictOf a).isSome plain, false)))) ∧
  (∀ (s : State) (x : Bool), s.mem.ckpt = some x → driftState s ≠ 0 → driftState s ≠ 4 →
    (Gives .driftCheckpointConfirm s fun t => t.fld CRY_DRIFT_CHECKPOINT CRY_DRIFT_CHECKPOINT_LINE = s.fld CRY_DRIFT_BOUNDARY CRY_DRIFT_BOUNDARY_LINE ∧ t.mem.ckpt = none ∧
      (let line := s.fld CRY_DRIFT_BOUNDARY CRY_DRIFT_BOUNDARY_LINE
       let item := (s.curOp keyDrift opDriftStart).map (fun c => (c.item.ring, c.item.wsn))
       t.store.checkpoint = some { dom := s.driftDom, line := line, epoch := s.domEpoch s.driftDom, newEpoch := s.newEpoch s.driftDom, item := item }) ∧ KeepsRegs [CRY_DRIFT_CHECKPOINT, CRY_DRIFT_STATUS] s t) ∧
    (Gives .driftCheckpointRetry s fun t => t.mem.ckpt = some true ∧ driftState t = 2 ∧ RegsOnly [CRY_DRIFT_STATUS] (s.setMem { s.mem with ckpt := some true }) t)) ∧
  (∀ (s : State) (data : Data), s.ready CRY_DRIFT_CTL = true → Gives (.driftPause data) s fun t => RegsOnly [CRY_DRIFT_CTL, CRY_DRIFT_STATUS] s t ∧
    t.reg CRY_DRIFT_CTL = plainWrite CRY_DRIFT_CTL_info (s.reg CRY_DRIFT_CTL) data ∧
    (driftState s ≠ 0 → driftState s ≠ 4 → t.fldOn CRY_DRIFT_CTL CRY_DRIFT_CTL_PAUSE = true → driftState t = 2))

/-! ### Power states and wakes (chapter 18) -/

/-- A request whose hindrance is 0: REQ_ACTIVE leaves Quiet, REQ_QUIET enters it, REQ_REST and REQ_DORMANT begin their entry; with a hindrance each is refused with its number and event 0x0108. ROOT_STOP of an
entry with no level source active sleeps with the root stopped and LAST as it is; one active cuts the entry short with event 0x0109. An active source abandons an entry, and is latched by a sleeping device, which then shows waking. WAKE_FROM_REST
and WAKE_FROM_DORMANT of a device with a latched source leave it Active with WAKE_CAUSE the sources, the root running in the first case and the image still to be loaded in the second. -/
def Obligations.PowerStates : Prop :=
  (∀ (s : State) (data : Data), s.ready PWR_CTL = true →
    (∀ p ∈ [(0, Instr.reqActive data), (1, .reqQuiet data), (2, .reqRest data), (3, .reqDormant data)], s.reqReason p.1 ≠ 0 → Gives p.2 s fun t =>
      t.fld PWR_STATUS PWR_STATUS_REFUSED = 1 ∧ t.fld PWR_STATUS PWR_STATUS_REASON = s.reqReason p.1 ∧ EventOnly [PWR_CTL, PWR_STATUS] s t ∧ Logs 0x0108 s t) ∧
    (s.reqReason 0 = 0 → Gives (.reqActive data) s fun t => t.pwr.st = .active ∧ t.fld PWR_STATUS PWR_STATUS_STATE = 0 ∧
      (s.pwr.st = .active → RegsOnly [PWR_CTL] s t)) ∧
    (s.reqReason 1 = 0 → Gives (.reqQuiet data) s fun t => t.pwr.st = .quiet ∧ t.fld PWR_STATUS PWR_STATUS_STATE = 1 ∧
      (s.pwr.st = .active → t.fld PWR_STATUS PWR_STATUS_LAST = 1 ∧ ∀ n : LaneNo, s.txState n = txRun → s.cfgOf n LANE_CFG_TX_SRC = 1 → t.txState n = txIdle)) ∧
    (s.reqReason 2 = 0 → Gives (.reqRest data) s fun t => t.pwr.st = .entering false ∧ t.fld PWR_STATUS PWR_STATUS_STATE = 2) ∧
    (s.reqReason 3 = 0 → Gives (.reqDormant data) s fun t => t.pwr.st = .entering true ∧ t.fld PWR_STATUS PWR_STATUS_STATE = 2 ∧
      t.store.wearLog.map (fun w => w.reg) = (List.range 7).map (fun j => t.reg (THM_WEAR j)))) ∧
  (∀ (s : State) (dormant : Bool) (aon : Data) (level : Option WakeSrc), s.pwr.st = .entering dormant → s.pwr.thermal = false →
    ((∀ src, level = some src → (wakeIsLevel src && s.wakes src) = false) →
      Gives (.rootStop aon level) s fun t => t.pwr.st = (if dormant then .dormant else .rest) ∧ t.fld PWR_STATUS PWR_STATUS_LAST = (if dormant then 3 else 2) ∧ t.pwr.latched = 0 ∧
        (s.emulates = false → t.clk.rootRun = false ∧ t.pwr.aonCount = aon ∧ t.reg PWR_AON_COUNT = aon ∧ (dormant = true → t.host.linkUp = false)) ∧
        (s.emulates = true → t.pwr.emulated = true ∧ t.fld DBG_ATTACH DBG_ATTACH_EMULATED = 1 ∧ LastEvent 0x000B t)) ∧
    (∀ src, level = some src → (wakeIsLevel src && s.wakes src) = true →
      Gives (.rootStop aon level) s fun t => t.pwr.st = .active ∧ t.fld PWR_STATUS PWR_STATUS_CUT_SHORT = 1 ∧ Logs 0x0109 s t ∧ t.clk = s.clk)) ∧
  (∀ (s : State) (src : WakeSrc) (c : Instr), s.pwr.powered = true → s.wakes src = true →
    (c = .wakeSourceLevel src ∧ wakeIsLevel src = true) ∨ (c = .wakeSourceEdge src false ∧ wakeIsLevel src = false) ∨ (c = .wakeTimerMatch ∧ src = .timer) →
    (s.pwr.st = .active → Gives c s (RegsOnly [] s)) ∧
    (s.pwr.st = .quiet → Gives c s fun t => t.pwr.st = .active) ∧
    (∀ d, s.pwr.st = .entering d → s.pwr.thermal = false → Gives c s fun t => t.pwr.st = .active ∧ t.fld PWR_STATUS PWR_STATUS_ABANDONED = 1 ∧ Logs 0x0109 s t) ∧
    (s.pwr.st = .rest ∨ s.pwr.st = .dormant → s.pwr.emulated = false → Gives c s fun t => t.pwr.latched = (s.pwr.latched ||| 2 ^ wakeBit src) ∧ t.pwr.st = s.pwr.st ∧
      t.fld PWR_STATUS PWR_STATUS_STATE = 3 ∧ KeepsRegs [] s t)) ∧
  (∀ s : State, ∀ src : WakeSrc, s.wakes src = false → Gives (.wakeSourceLevel src) s (RegsOnly [] s) ∧ Gives (.wakeSourceEdge src false) s (RegsOnly [] s)) ∧
  (∀ (s : State) (aon : Data), s.pwr.powered = true → s.pwr.st = .rest → s.pwr.emulated = false → s.pwr.latched ≠ 0 → s.jr.departDue = false →
    Gives (.wakeFromRest aon) s fun t => t.pwr.st = .active ∧ t.pwr.latched = 0 ∧ t.reg PWR_WAKE_CAUSE = BitVec.ofNat 64 s.pwr.latched ∧ t.clk.rootRun = true ∧
      LastEvent 0x010A t ∧ t.pwr.aonCount = aon) ∧
  (∀ (s : State) (aon : Data) (padKept : Bool), s.mayWake aon = true →
    Gives (.wakeFromDormant aon padKept) s fun t => t.pwr.st = .active ∧ t.pwr.latched = 0 ∧ t.reg PWR_WAKE_CAUSE = BitVec.ofNat 64 s.pwr.latched ∧
      t.store.bootDue = true ∧ t.store.wakeDue = true ∧ t.host.linkUp = false ∧ LastEvent 0x010A t ∧ (s.pwr.latched % 2 = 0 → t.pins.wake = true))

/-- The loss of power, outside Dormant for the main supply, leaves the device without power, its journal invalid and the link down; OVERCURRENT does so and asserts FAULT#; SURPRISE_REMOVAL also removes the module. In Dormant the loss of
main power is recorded. PASS_SWITCH_CLOSE and SOFT_START_END bring the supplies back, and POWER_ON_RESET then starts the device. WARM_RESET, FUNCTION_LEVEL_RESET of a device that is awake, and PERST of one that has power and is not in Dormant record their cause, keep map windows, SPILL and STORE, put the fabric ports of
oases at reset, and hold every ring that ran; in Dormant PERST resets the link alone. THERMAL_DORMANT of a sensor too hot begins the forced entry. -/
def Obligations.SuppliesAndResets : Prop :=
  (∀ s : State,
    let lost := fun (t : State) => t.pwr.powered = false ∧ t.jr = {} ∧ t.host.linkUp = false ∧ t.clk.rootRun = false ∧ t.pins.cfgDone = false ∧ KeepsRegs [] s t
    Gives (.powerLoss true) s (fun t => lost t ∧ t.pwr.auxOk = false) ∧
    (s.pwr.st ≠ .dormant → s.pwr.powered = true → Gives (.powerLoss false) s (fun t => lost t ∧ t.pwr.mainOk = false) ∧
      Gives .mainUndervoltage s (fun t => lost t ∧ t.pwr.mainOk = false)) ∧
    (s.pwr.st = .dormant → Gives (.powerLoss false) s (fun t => t.pwr.mainLost = true ∧ t.pwr.powered = s.pwr.powered ∧ KeepsRegs [] s t) ∧
      Gives .mainUndervoltage s (RegsOnly [] s)) ∧
    (s.pwr.st = .dormant → s.pwr.emulated = false → Gives .mainLostInDormant s fun t => t.pwr.mainLost = true ∧ t.pwr.mainOk = false ∧ KeepsRegs [] s t) ∧
    (s.pwr.passClosed = true → Gives .overcurrent s fun t => lost t ∧ t.pins.fault = true ∧ t.pwr.passClosed = false ∧ t.pwr.switchHeld = true) ∧
    Gives .surpriseRemoval s (fun t => lost t ∧ t.host.present = false) ∧
    (s.pwr.switchHeld = false → s.pwr.passClosed = false → s.host.present = true →
      Gives .passSwitchClose s (RegsOnly [] (s.setPwr { s.pwr with mainOk := true, passClosed := true }))) ∧
    (s.pwr.passClosed = true → s.host.present = true →
      Gives .softStartEnd s (RegsOnly [] (s.setPwr { s.pwr with auxOk := true, mainOk := true, softStarted := true }))) ∧
    (s.pwr.powered = false → s.pwr.softStarted = true → Gives .powerOnReset s fun t => t.pwr.powered = true ∧ t.pwr.st = .active ∧ t.store.bootDue = true ∧
      t.rings = {} ∧ t.fab = {} ∧ t.lanes = {} ∧ t.jr.valid = false ∧ t.sec.ownerCert = s.sec.ownerCert ∧ (∀ n : LaneNo, t.rxState n = rxDisabled ∧ t.txState n = txDisabled) ∧
      ∀ r : RingNo, t.ringState r = ringOff)) ∧
  (∀ s : State,
    let kept := fun (t : State) => (∀ w : WinNo, t.reg (DRMC_WIN_CFG w) = s.reg (DRMC_WIN_CFG w)) ∧ t.reg SCH_SPILL = s.reg SCH_SPILL ∧ t.reg SCH_STORE = s.reg SCH_STORE ∧
      (∀ i : GroupNo, t.reg (OAS_G_FPORT i) = regReset (OAS_G_FPORT i)) ∧ t.qif = 1 ∧
      ∀ r : RingNo, s.ringState r = ringRun ∨ s.ringState r = ringStopping → t.ringState r = ringHeld
    (∀ data, s.ready RST_CTL = true → RST_CTL_WARM.on data = true → Gives (.warmReset data) s fun t => kept t ∧ t.fld RST_CAUSE RST_CAUSE_WARM = 1) ∧
    (s.hostReaches = true → s.pwr.st ≠ .rest → s.pwr.st ≠ .dormant → Gives .functionLevelReset s fun t => kept t ∧ t.fld RST_CAUSE RST_CAUSE_FLR = 1) ∧
    (s.pwr.powered = true → (s.pwr.st = .dormant → s.pwr.emulated = true) → Gives .perst s fun t => kept t ∧ t.fld RST_CAUSE RST_CAUSE_PERST = 1 ∧ t.host.linkUp = false ∧ t.pins.perst = true) ∧
    (s.pwr.powered = false ∨ (s.pwr.st = .dormant ∧ s.pwr.emulated = false) → Gives .perst s fun t => KeepsRegs [] s t ∧ t.host.linkUp = false ∧ t.host.held = [] ∧ t.pins.perst = true)) ∧
  (∀ (s : State) (k : SensorNo) (page : HostRead), s.awake = true → (s.pwr.st = .active ∨ s.pwr.st = .quiet) → s.tooHot k = true →
    Gives (.thermalDormant k page) s fun t => t.pwr.st = .entering true ∧ t.pwr.thermal = true ∧ t.pins.fault = true ∧ t.fld RST_CAUSE RST_CAUSE_THERMAL = 1 ∧
      t.fld PWR_STATUS PWR_STATUS_STATE = 2)

/-! ### Domains and supervisors (chapters 18 and 19) -/

/-- DOMAIN_POWER_DOWN of a domain that may and is not busy leaves it going down; of another it is refused with reason 6 or 5 and event 0x0108. DOMAIN_POWER_UP of one going down has it up, of one down waking.
DOMAIN_WAKE_END brings a waking domain up, and what waited in ring buffers waits no more; WAKE_ON_ACCESS_TIMEOUT answers the waiting requests with status 9 and event 0x0B03. DOMAIN_RESET past its checks asserts the reset, BUSY 1 (a leading supervisor's with takeover; a controller that is OFF completes at once),
and is refused with its reason and event 0x010B otherwise; DOMAIN_RESET_RELEASE ends it with event 0x010C, BUSY 0 after the last; the base die's holds the rings and begins a reconciliation. Register accesses held for the domain are not in these clauses: the state holds none for it. -/
def Obligations.Domains : Prop :=
  (∀ (s : State) (data : Data), s.ready PWR_DOM_CTL = true →
    let d := s.fld PWR_DOM_SEL PWR_DOM_SEL_DOMAIN
    let refused := fun (r : Nat) (t : State) => t.fld PWR_STATUS PWR_STATUS_REFUSED = 1 ∧ t.fld PWR_STATUS PWR_STATUS_REASON = r ∧ Logs 0x0108 s t ∧
      KeepsRegs ([PWR_STATUS, PWR_DOM_CTL] ++ eventRegs) s t
    (domPowers d = false → Gives (.domainPowerDown data) s (refused 6)) ∧
    (domPowers d = true → s.domBusy d = true → Gives (.domainPowerDown data) s (refused 5)) ∧
    (domPowers d = true → s.domBusy d = false → (s.dom d).st = domUp → Gives (.domainPowerDown data) s fun t =>
      t.dom d = { on := false, woa := PWR_DOM_CTL_WOA.on data, st := domGoing } ∧ t.fld PWR_DOM_CTL PWR_DOM_CTL_STATE = domGoing ∧
      KeepsRegs [PWR_DOM_CTL] s t ∧ ∀ k, k ≠ d → t.dom k = s.dom k) ∧
    ((s.dom d).st = domDown → Gives (.domainPowerUp data) s fun t => t.dom d = { on := true, woa := PWR_DOM_CTL_WOA.on data, st := domWaking } ∧
      KeepsRegs [PWR_DOM_CTL] s t ∧ ∀ k, k ≠ d → t.dom k = s.dom k) ∧
    ((s.dom d).st = domGoing → Gives (.domainPowerUp data) s fun t => t.dom d = { on := true, woa := PWR_DOM_CTL_WOA.on data, st := domUp } ∧
      KeepsRegs [PWR_DOM_CTL] s t ∧ ∀ k, k ≠ d → t.dom k = s.dom k)) ∧
  (∀ (s : State) (dom : DomNo), (∀ h ∈ s.pwr.heldRegs, h.dom ≠ dom.toNat) →
    let d := dom.toNat
    ((s.dom d).st = domWaking → Gives (.domainWakeEnd dom) s fun t => t.isUp d = true ∧ (t.dom d).on = true ∧ ∀ b ∈ t.net.bufs, b.wait ≠ some d) ∧
    let noneHeld := fun (u : State) => ∀ i, (d = 1 ∧ i < 64) ∨ (d = 4 ∧ 64 ≤ i ∧ i < 128) → (u.oasGrp i).held = []
    (s.pwr.wokenFor.contains d = true → noneHeld s → Gives (.wakeOnAccessTimeout dom) s fun t => LastEvent 0x0B03 t ∧ t.dom d = s.dom d ∧
      t.pwr.wokenFor = s.pwr.wokenFor.filter (· != d) ∧
      t.net.bufs = s.net.bufs.map (fun b => if b.wait = some d then { b with wait := none, status := some 9 } else b) ∧
      t.net.owed = s.net.owed ++ (s.net.bufs.filter (fun b => b.wait == some d)).map (fun b => answerTo b.hdr kdResponse 9)) ∧
    (¬ noneHeld s → Gives (.wakeOnAccessTimeout dom) s fun t => LastEvent 0x0B03 t ∧ t.dom d = s.dom d ∧ noneHeld t) ∧
    (s.pwr.inReset.contains d = true → noneHeld s → (s.sup.kind = 0 ∨ s.sup.kind = 1) → s.jr.departDue = false → d ≠ 0 →
      Gives (.domainResetRelease dom) s fun t => t.pwr.inReset = s.pwr.inReset.filter (· != d) ∧ LastEvent 0x010C t ∧
        t.fld RST_STATUS RST_STATUS_BUSY = (if s.pwr.inReset.filter (· != d) = [] then 0 else s.fld RST_STATUS RST_STATUS_BUSY) ∧
        (d / 256 = 2 → t.ctlState (d % 256) = if (s.ctlAt (d % 256)).resetFrom = ctlReady then ctlReady else ctlTraining)) ∧
    (s.pwr.inReset.contains d = true → s.sup.kind = 0 → s.sup.queue = [] → s.jr.departDue = false → d = 0 →
      Gives (.domainResetRelease dom) s fun t => t.pwr.inReset = s.pwr.inReset.filter (· != d) ∧ LastEvent 0x010C t ∧ t.sup.kind = 1 ∧
        t.fld RST_STATUS RST_STATUS_BUSY = (if s.pwr.inReset.filter (· != d) = [] then 0 else s.fld RST_STATUS RST_STATUS_BUSY) ∧
        ∀ r : RingNo, s.ringState r = ringRun ∨ s.ringState r = ringStopping → t.ringState r = ringHeld)) ∧
  (∀ (s : State) (data : Data), s.ready RST_DOM = true → RST_DOM_GO.on data = true → s.jr.departDue = false → (s.sup.kind = 0 ∨ s.sup.kind = 1) →
    let d := RST_DOM_DOMAIN.get data
    (∀ r, s.domResetRefusal d = some r → Gives (.domainReset data) s fun t => t.fld RST_STATUS RST_STATUS_REFUSED = 1 ∧ t.fld RST_STATUS RST_STATUS_REASON = r ∧
      t.fld RST_DOM RST_DOM_DOMAIN = d ∧ EventOnly [RST_DOM, RST_STATUS] s t ∧ Logs 0x010B s t) ∧
    (s.domResetRefusal d = none → (d / 256 = 6 → s.leaderNo ≠ d % 256) → (d / 256 = 2 → s.ctlState (d % 256) ≠ ctlOff) → Gives (.domainReset data) s fun t =>
      d ∈ t.pwr.inReset ∧ t.fld RST_STATUS RST_STATUS_BUSY = 1 ∧ (d / 256 = 6 → t.sv (d % 256) = svResetting) ∧
      (d / 256 = 2 → t.ctlState (d % 256) = ctlResetting ∧ (t.ctlAt (d % 256)).lines = (s.ctlAt (d % 256)).lines)) ∧
    (s.domResetRefusal d = none → d / 256 = 6 → s.leaderNo = d % 256 → s.sv (1 - d % 256) = svFollowing → s.sup.kind = 0 → s.sup.queue = [] → Gives (.domainReset data) s fun t =>
      d ∈ t.pwr.inReset ∧ t.fld RST_STATUS RST_STATUS_BUSY = 1 ∧ t.sv (d % 256) = svResetting ∧ t.leaderNo = 1 - d % 256 ∧ t.sup.kind = 1) ∧
    (s.domResetRefusal d = none → d / 256 = 2 → s.ctlState (d % 256) = ctlOff → Gives (.domainReset data) s fun t => EventOnly [RST_DOM] s t ∧ Logs 0x010C s t))

/-- HEARTBEAT from the leader to a follower mirrors the recovery record. HEARTBEAT_TIMEOUT of a leader with a follower makes the follower lead, TAKEOVERS one more, with a reconciliation begun; of a follower it is reset with event 0x0002. SUPERVISOR_SELF_CHECK_END
has the core lead or follow, or FAILED. WATCHDOG_RESTART loads its period, at least 100; WATCHDOG_EXPIRY counts with event 0x0003 and resets the core, a leader's with takeover. RECOVERY_NEED begins with event 0x0004 or is queued (a reconciliation joins one in progress or queued), FAULT# asserted when the queue is full;
RECONCILIATION counts in SCH.RECON.GEN and has the queue interface run. A reconciliation's TARGET is a reading of the model (log entry 151). -/
def Obligations.Supervisors : Prop :=
  (∀ (s : State) (dst : SvNo), s.leaderNo = 1 - dst.val → (s.sv (1 - dst.val) = svLeading ∨ s.sv (1 - dst.val) = svHalted) → s.sv dst = svFollowing →
    Gives (.heartbeat dst) s (RegsOnly [] { s with sup := { s.sup with mirror := (s.sup.gen, s.sup.kind, s.sup.step) } })) ∧
  (∀ (s : State) (who : SvNo), s.sup.kind = 0 → s.sup.queue = [] → s.jr.departDue = false →
    (s.leaderNo = who.val → s.sv who = svLeading → s.sv (1 - who.val) = svFollowing → Gives (.heartbeatTimeout who) s fun t =>
      t.leaderNo = 1 - who.val ∧ t.sv (1 - who.val) = svLeading ∧ t.sv who = svResetting ∧ t.sup.leader = 1 - who.val ∧
      t.fld SUP_STATUS SUP_STATUS_TAKEOVERS = (s.fld SUP_STATUS SUP_STATUS_TAKEOVERS + 1) % 2 ^ 32 ∧ t.sup.kind = 1) ∧
    (s.leaderNo = who.val → s.sv who = svLeading → s.sv (1 - who.val) ≠ svFollowing → Gives (.heartbeatTimeout who) s fun t =>
      t.sv who = svFailed ∧ t.pins.fault = true ∧ t.sup.noLead = true ∧ LastEvent 0x0006 t) ∧
    (s.leaderNo = 1 - who.val → s.leads = true → s.sv who = svFollowing → Gives (.heartbeatTimeout who) s fun t => t.sv who = svResetting ∧ t.leaderNo = s.leaderNo ∧ t.sup = s.sup) ∧
    (∀ pass : Bool, (s.sv who = svOff ∨ s.sv who = svResetting) → s.clk.mgmtReset = false → s.pwr.inReset.contains (0x600 + who) = false → s.sup.noLead = false →
      (s.sup.leader = who.val ∨ (s.sup.leader = 1 - who.val ∧ s.sv (1 - who.val) ≠ svFailed)) → (pass = false → s.sv (1 - who.val) ≠ svFollowing) →
      Gives (.supervisorSelfCheckEnd who pass) s fun t => t.sv who = if pass then (if s.sup.leader = who.val then svLeading else svFollowing) else svFailed) ∧
    ((s.sv who = svOff ∨ s.sv who = svResetting) → s.clk.mgmtReset = false → s.pwr.inReset.contains (0x600 + who) = false → s.sup.noLead = false →
      s.sup.leader = 1 - who.val → s.sv (1 - who.val) = svFailed →
      Gives (.supervisorSelfCheckEnd who true) s fun t => t.sv who = svLeading ∧ t.leaderNo = who.val)) ∧
  (∀ (s : State) (c : CoreNo),
    (∀ period : BitVec 24, s.coreHalted c = false → s.clk.mgmtReset = false → Gives (.watchdogRestart c period) s fun t => t.fld (SUP_WDOG c) SUP_WDOG_REMAIN = max period.toNat 100 ∧
      (t.core c).period = max period.toNat 100 ∧ RegsOnly [SUP_WDOG c] { s with cores := t.cores } t) ∧
    (s.fldOn (SUP_WDOG c) SUP_WDOG_FROZEN = false → s.clk.mgmtReset = false → s.sup.kind = 0 → s.sup.queue = [] → s.jr.departDue = false → (c.val < 2 → s.leaderNo ≠ c.val) →
      Gives (.watchdogExpiry c) s fun t => t.fld (SUP_WDOG c) SUP_WDOG_EXPIRIES = satAdd 16 (s.fld (SUP_WDOG c) SUP_WDOG_EXPIRIES) 1 ∧ t.fld (SUP_WDOG c) SUP_WDOG_REMAIN = 0 ∧
        t.core c = {} ∧ (c.val < 2 → t.sv c = svResetting) ∧ ∃ e ∈ t.evt.log, e.code = 0x0003) ∧
    (s.fldOn (SUP_WDOG c) SUP_WDOG_FROZEN = false → s.clk.mgmtReset = false → s.sup.kind = 0 → s.sup.queue = [] → s.jr.departDue = false →
      c.val < 2 → s.leaderNo = c.val → s.sv (1 - c.val) = svFollowing →
      Gives (.watchdogExpiry c) s fun t => t.fld (SUP_WDOG c) SUP_WDOG_EXPIRIES = satAdd 16 (s.fld (SUP_WDOG c) SUP_WDOG_EXPIRIES) 1 ∧
        t.core c = {} ∧ t.sv c = svResetting ∧ t.leaderNo = 1 - c.val ∧ t.sv (1 - c.val) = svLeading ∧ t.sup.kind = 1)) ∧
  (∀ (s : State) (kind : BitVec 8) (target : Data), 1 ≤ kind.toNat → kind.toNat ≤ 6 →
    let tgt := if kind = 1 then s.reconTarget else target
    (s.sup.kind = 0 → s.sup.queue = [] → s.leads = false ∨ kind = 1 → Gives (.recoveryNeed kind target) s fun t => t.sup.kind = kind.toNat ∧ t.sup.step = 1 ∧ t.sup.target = tgt ∧
      t.sup.gen = (s.sup.gen + 1) % 2 ^ 32 ∧ t.fld SUP_RECOVERY SUP_RECOVERY_KIND = kind.toNat ∧ t.reg SUP_RECOVERY_TARGET = tgt ∧ Logs 0x0004 s t) ∧
    (s.sup.kind ≠ 0 → s.leads = false → s.sup.queue.length < 14 → (kind = 1 → s.sup.kind ≠ 1 ∧ ∀ n ∈ s.sup.queue, n.1 ≠ 1) → Gives (.recoveryNeed kind target) s fun t =>
      t.sup = { s.sup with queue := queueNeed s.sup.queue (kind.toNat, tgt) } ∧ RegsOnly [SUP_RECOVERY, SUP_RECOVERY_TARGET] { s with sup := t.sup } t) ∧
    (s.sup.kind ≠ 0 → s.leads = false → 14 ≤ s.sup.queue.length → (kind = 1 → s.sup.kind ≠ 1 ∧ ∀ n ∈ s.sup.queue, n.1 ≠ 1) → Gives (.recoveryNeed kind target) s fun t =>
      t.pins.fault = true ∧ t.sup = s.sup ∧ Logs 0x0006 s t) ∧
    (kind = 1 → s.sup.kind = 1 → Gives (.recoveryNeed kind target) s
      (RegsOnly [SUP_RECOVERY, SUP_RECOVERY_TARGET] { s with sup := { s.sup with target := s.sup.target ||| s.reconTarget } })) ∧
    (kind = 1 → s.sup.kind ≠ 0 → s.sup.kind ≠ 1 → (∃ n ∈ s.sup.queue, n.1 = 1) → Gives (.recoveryNeed kind target) s (RegsOnly []
      { s with sup := { s.sup with queue := s.sup.queue.map (fun n => if n.1 = 1 then (1, n.2 ||| s.reconTarget) else n) } })) ∧
    (kind = 6 → s.sup.kind = 0 → s.sup.queue = [] → s.leads = true → s.jr.departDue = false → Gives (.recoveryNeed kind target) s fun t => t.sup.kind = 0 ∧ LastEvent 0x0005 t)) ∧
  (∀ (s : State) (pageRead : HostRead) (badRings : List RingNo), s.sup.kind = 1 → s.sup.queue = [] → s.leads = true → s.host.linkUp = true → s.qif ≠ 3 → s.qif ≠ 4 → s.jr.departDue = false →
    Gives (.reconciliation pageRead badRings) s fun t => t.fld SCH_RECON SCH_RECON_GEN = (s.fld SCH_RECON SCH_RECON_GEN + 1) % 2 ^ 32 ∧ t.fld SCH_RECON SCH_RECON_STEP = 0 ∧
      t.fld SCH_RECON SCH_RECON_RETAINED = bit01 s.jr.valid ∧ t.qif = 2 ∧ t.sup.kind = 0 ∧ LastEvent 0x0005 t)

/-- FLIT_INJECT of a packet of a form that R369 allows, towards no stop, is answered with status 11; a flit that is no response, with its grant, goes on the ring that the rule names and is counted. PACKET_EJECT takes a request of one flit at its destination, whose domain is up, into a buffer. RESERVE_PACKET is granted, or waits, within RSV_DEPTH;
GRANT_PACKET counts at its requester, up to RSV_DEPTH; RING_RESPONSE ends what was asked. The ring statements are of states in which no probe is enabled. TABLE_SWITCH makes the other bank active and drains, refused with event 0x0B02 while draining; DRAIN_MARKER_RETURN of the last ends it. TBL_DATA_WRITE writes the inactive bank. TRACE_ENABLE empties the buffer; PROBE_CLEAR zeroes the counters. -/
def Obligations.RingNetwork : Prop :=
  (∀ (s : State) (ring : Fin 6) (stop : Fin 48) (hdr : BitVec 128) (body : List (BitVec 8)) (slot : Bool),
    let pair := ring.val / 2
    let h := hdPut hdr 55 1 s.tblActive
    s.flitFits h = true → (slot = true → hdClass hdr = 0) →
    (s.noStop pair h = true → Gives (.flitInject ring stop hdr body slot) s (RegsOnly [] (s.owe (answerTo h kdResponse 11)))) ∧
    (∀ b, s.noStop pair h = false → s.headsFor pair h = some b → hdKind h ≠ kdResponse →
      (isRequest (hdKind h) = true → hdFlit h = 0 → s.heldAt (grantKey (hdDst h) (hdClass h) (hdSrc h)) ≠ 0) →
      let r := s.ringFor pair stop b
      hdHop h + hopsOn (r % 2 = 1) stop b < 97 → (∀ k : Fin 16, PRB_P_CFG_EN.on (s.reg (PRB_P_CFG k)) = false) →
      Gives (.flitInject ring stop hdr body slot) s fun t => t.ringFlits r = s.ringFlits r ++ [{ hdr := h, body := body.take 112, start := stop }] ∧
        t.reg (RING_STAT_FLITS r) = s.reg (RING_STAT_FLITS r) + 1 ∧
        (hdClass hdr = 0 → t.reg (RING_STAT_C0_FLITS r) = s.reg (RING_STAT_C0_FLITS r) + 1) ∧
        (isRequest (hdKind h) = true → hdFlit h = 0 → t.heldAt (grantKey (hdDst h) (hdClass h) (hdSrc h)) + 1 = s.heldAt (grantKey (hdDst h) (hdClass h) (hdSrc h)) ∧
          t.net.asked = s.net.asked ++ [(hdSrc h, hdTag h, hdDst h, hdClass h)]) ∧
        KeepsRegs (RING_STAT_FLITS r :: if hdClass hdr = 0 then [RING_STAT_C0_FLITS r, RING_STAT_C0_MAXWAIT r] else []) s t)) ∧
  (∀ (s : State) (ring : Fin 6) (stop : Fin 48) (f : RFlit),
    let pair := ring.val / 2
    let odd := ring.val % 2 = 1
    wholePacket ((s.ringFlits ring).filter (fun f => s.headsFor pair f.hdr == some stop.val && !s.pathShut pair odd f.start stop)) = [f] →
    placePair (hdDst f.hdr) = pair → isRequest (hdKind f.hdr) = true → s.grantsAt (grantKey (hdDst f.hdr) (hdClass f.hdr) (hdSrc f.hdr)) ≠ 0 →
    (∀ k : Fin 16, PRB_P_CFG_EN.on (s.reg (PRB_P_CFG k)) = false) → 
    (let d := State.bufDomain (hopped f.hdr (hopsOn odd f.start stop))
     s.isUp d = true ∧ s.pwr.inReset.contains d = false ∧ ¬ (d = 1 ∧ s.oasClearing 0 = true) ∧ ¬ (d = 4 ∧ s.oasClearing 64 = true)) →
    Gives (.packetEject ring stop) s fun t => t.net.bufs = s.net.bufs ++ [{ hdr := hopped f.hdr (hopsOn odd f.start stop), body := f.body }] ∧
      t.ringFlits ring = (s.ringFlits ring).filter (fun g => g != f) ∧
      (let k := grantKey (hdDst f.hdr) (hdClass f.hdr) (hdSrc f.hdr); t.grantsAt k + 1 = s.grantsAt k) ∧ KeepsRegs [] s t) ∧
  (∀ (s : State) (hdr : BitVec 128),
    let k := grantKey (hdDst hdr) (hdClass hdr) (hdSrc hdr)
    (hdKind hdr = kdReserve → s.mayReserve hdr = true → s.canGrant hdr = true → Gives (.reservePacket hdr) s (RegsOnly [] ((s.setGrants k (s.grantsAt k + 1)).owe (answerTo hdr kdGrant 0)))) ∧
    (hdKind hdr = kdReserve → s.mayReserve hdr = true → s.canGrant hdr = false → k ∉ s.net.waiting →
      Gives (.reservePacket hdr) s (RegsOnly [] { s with net := { s.net with waiting := s.net.waiting ++ [k] } })) ∧
    (hdKind hdr = kdReserve → s.mayReserve hdr = false → Gives (.reservePacket hdr) s (RegsOnly [] s)) ∧
    (hdKind hdr = kdGrant → let k := grantKey (hdSrc hdr) (hdClass hdr) (hdDst hdr)
      Gives (.grantPacket hdr) s fun t => t.heldAt k = min (s.heldAt k + 1) s.rsvDepth ∧ KeepsRegs [] s t) ∧
    (∀ a, hdKind hdr = kdResponse → s.net.asked.find? (fun a => a.1 == hdDst hdr && a.2.1 == hdTag hdr && a.2.2.1 == hdSrc hdr) = some a →
      Gives (.ringResponse hdr) s fun t => t.net.got.head? = some (hdDst hdr, hdTag hdr, hdStatus hdr) ∧ t.net.asked = s.net.asked.erase a ∧ KeepsRegs [] s t)) ∧
  (∀ (s : State) (data : Data), s.ready RING_TBL_CTL = true → RING_TBL_CTL_SWITCH.on data = true →
    (s.fldOn RING_TBL_CTL RING_TBL_CTL_DRAINING = false → Gives (.tableSwitch data) s fun t => t.tblActive = 1 - s.tblActive ∧ t.fld RING_TBL_CTL RING_TBL_CTL_DRAINING = 1 ∧
      RegsOnly [RING_TBL_CTL] { s with net := { s.net with markers := List.range 6 } } t) ∧
    (s.fldOn RING_TBL_CTL RING_TBL_CTL_DRAINING = true → Gives (.tableSwitch data) s fun t => t.fld RING_TBL_CTL RING_TBL_CTL_REFUSED = 1 ∧ EventOnly [RING_TBL_CTL] s t ∧ Logs 0x0B02 s t)) ∧
  (∀ (s : State) (ring : Fin 6), ring.val ∈ s.net.markers → s.oldFlits = false →
    let m := s.net.markers.filter (· != ring.val)
    Gives (.drainMarkerReturn ring) s fun t => RegsOnly [RING_TBL_CTL] { s with net := { s.net with markers := m } } t ∧
      (m = [] → t.fld RING_TBL_CTL RING_TBL_CTL_DRAINING = 0) ∧ (m ≠ [] → t.reg RING_TBL_CTL = s.reg RING_TBL_CTL)) ∧
  (∀ (s : State) (data : Data), s.ready RING_TBL_DATA = true →
    (s.fld RING_TBL_SEL RING_TBL_SEL_BANK ≠ s.tblActive → s.fldOn RING_TBL_CTL RING_TBL_CTL_DRAINING = false → Gives (.tblDataWrite data) s fun t =>
      t.tblData = BitVec.ofNat 64 (data.toNat % 32) ∧ RegsOnly [] { s with net := { s.net with tbl := t.net.tbl } } t) ∧
    (s.fld RING_TBL_SEL RING_TBL_SEL_BANK = s.tblActive ∨ s.fldOn RING_TBL_CTL RING_TBL_CTL_DRAINING = true → Gives (.tblDataWrite data) s fun t =>
      t.fld RING_TBL_CTL RING_TBL_CTL_REFUSED = 1 ∧ EventOnly [RING_TBL_CTL] s t ∧ Logs 0x0B02 s t)) ∧
  (∀ (s : State) (data : Data), s.ready PRB_TRACE_CTL = true → let on := PRB_TRACE_CTL_EN.on data
    Gives (.traceEnable data) s fun t => t.reg PRB_TRACE_CTL = plainWrite PRB_TRACE_CTL_info (s.reg PRB_TRACE_CTL) data ∧ KeepsRegs [PRB_TRACE_CTL, PRB_TRACE_PTR] s t ∧
      t.net.traceOn = (on && !PRB_TRACE_CTL_ARM.on data) ∧ (on = true → t.net.trace = {} ∧ t.fld PRB_TRACE_PTR PRB_TRACE_PTR_NEXT = 0 ∧ t.fld PRB_TRACE_PTR PRB_TRACE_PTR_WRAPPED = 0)) ∧
  (∀ (s : State) (data : Data), s.ready PRB_CTL = true → PRB_CTL_CLEAR.on data = true → Gives (.probeClear data) s fun t => OnlyRegs s t ∧ t.reg PRB_CTL = plainWrite PRB_CTL_info (s.reg PRB_CTL) data ∧
    ∀ k : Fin 16, t.reg (PRB_P_CNT_PKT k) = 0 ∧ t.reg (PRB_P_CNT_FLIT k) = 0 ∧ t.reg (PRB_P_CNT_WAIT k) = 0 ∧ t.reg (PRB_P_CFG k) = s.reg (PRB_P_CFG k))

/-! ### The security controller's items, stack repair and unlocks (chapter 18) -/

/-- ATTEST writes the report of the item's nonce, a multiple of eight bytes that begins with its magic and version 1, to host memory and counts its bytes; a host that fails ends it with host error. FIRMWARE_UPDATE of a slot refused
ends image rejected with the cause; a file the check rejects likewise; a good file from host memory takes the slot one cycle on and leaves it VALID with its version, or INVALID with cause 11 where the store fails. OWNER_TRANSFER with a good block installs the
certificate and slot 0's key, erases slots 1 to 15 and ends the unlock; a block that fails is refused, reason 8 where the key does not unwrap. -/
def Obligations.SecurityItems : Prop :=
  (∀ (s : State) (c : Running), s.curOp keySecurity opAttest = some c →
    (∀ hostFail : Bool, hostFail = true ∨ s.mayIssue = false → Gives (.attest hostFail) s (RegsOnly [] (s.finishSt keySecurity stHostError))) ∧
    (s.mayIssue = true → Gives (.attest false) s fun t =>
      let r := s.report (c.item.num 24 32)
      t.resultOf keySecurity = some { status := stSuccess, count := r.length } ∧ r.length % 8 = 0 ∧ r.take 8 = toBytes 4 0x52415859 ++ toBytes 4 1 ∧
      (s.host.linkUp = true → t.host.mem = putBytes s.host.mem (c.item.num 16 8) r) ∧
      RegsOnly [] ((s.hostWrite (c.item.num 16 8) r).finish keySecurity { status := stSuccess, count := r.length }) t)) ∧
  (∀ (s : State) (c : Running), s.curOp keySecurity opFirmware = some c →
    let it := c.item
    let k := 1 + it.num 25 1
    (s.attestFailed = true → ∀ h st, Gives (.firmwareUpdate h st) s (RegsOnly [] (s.cmdRefused keySecurity 11))) ∧
    (s.attestFailed = false → k = 2 ∨ k = 3 →
      (∀ r h st, s.slotRefusal k = some r → Gives (.firmwareUpdate h st) s fun t =>
        t.resultOf keySecurity = some { status := stImageRejected, detail := r } ∧ RegsOnly [] (s.rejected keySecurity r) t) ∧
      (s.slotRefusal k = none → it.num 24 1 = 0 → ∀ h st, h = true ∨ s.mayIssue = false → Gives (.firmwareUpdate h st) s (RegsOnly [] (s.finishSt keySecurity stHostError))) ∧
      (s.slotRefusal k = none → it.num 24 1 = 0 → s.mayIssue = true → s.host.linkUp = true →
        let file := s.hostBytes (it.num 16 8) (it.num 28 4)
        let cycled := fun (t : State) => t.fld (CFG_SLOT_INFO k) CFG_SLOT_INFO_CYCLES = min (s.fld (CFG_SLOT_INFO k) CFG_SLOT_INFO_CYCLES + 1) 10000 ∧
          (t.fldOn (CFG_SLOT_INFO k) CFG_SLOT_INFO_EXHAUSTED = decide (9999 ≤ s.fld (CFG_SLOT_INFO k) CFG_SLOT_INFO_CYCLES)) ∧
          KeepsRegs [CFG_SLOT_INFO k, CFG_SLOT_VER k] s t
        (∀ cause st, Config.firmwareCheck file = .error cause → Gives (.firmwareUpdate false st) s (RegsOnly [] (s.rejected keySecurity cause.toNat))) ∧
        (∀ version, Config.firmwareCheck file = .ok version →
          (Gives (.firmwareUpdate false true) s fun t => t.resultOf keySecurity = some { status := stSuccess } ∧ t.slotState k = slValid ∧
            t.fld (CFG_SLOT_VER k) CFG_SLOT_VER_VERSION = version.toNat % 2 ^ CFG_SLOT_VER_VERSION.w ∧ cycled t ∧ t.store.slots.get (fun _ => []) k = file ∧
            (∀ j, j ≠ k → t.store.slots.get (fun _ => []) j = s.store.slots.get (fun _ => []) j) ∧
            t.store.fwPrefer = if natBit (it.num 26 1) 0 then k else s.store.fwPrefer) ∧
          (Gives (.firmwareUpdate false false) s fun t => t.resultOf keySecurity = some { status := stImageRejected, detail := 11 } ∧
            t.slotState k = slInvalid ∧ cycled t ∧ t.store = s.store))))) ∧
  (∀ (s : State) (c : Running), s.curOp keySecurity opOwner = some c → s.mayIssue = true → s.host.linkUp = true →
    let block := s.hostBytes (c.item.num 16 8) (c.item.num 24 4)
    (Gives (.ownerTransfer true) s (RegsOnly [] (s.finishSt keySecurity stHostError))) ∧
    (Config.ownerBlock s.fuses.serial s.sec.ownerCert block = none → Gives (.ownerTransfer false) s fun t =>
      (t.resultOf keySecurity).map (fun r => r.status) = some stRefused ∧ RegsOnly [] (s.refusedFree keySecurity) t) ∧
    (∀ cert kb, Config.ownerBlock s.fuses.serial s.sec.ownerCert block = some (cert, kb) →
      (unwrapKey s.fuses.serial kb = none → Gives (.ownerTransfer false) s (RegsOnly [] (s.cmdRefused keySecurity 8))) ∧
      (∀ k, unwrapKey s.fuses.serial kb = some k → Gives (.ownerTransfer false) s fun t => t.resultOf keySecurity = some { status := stSuccess } ∧
        t.sec.ownerCert = cert ∧ t.fldOn SEC_STATUS SEC_STATUS_OWNED = true ∧ t.fld SEC_STATUS SEC_STATUS_OWNER_ONLY = c.item.num 28 1 % 2 ∧
        t.fld (SEC_SLOT 0) SEC_SLOT_STATE = slotActive ∧ t.fld (SEC_SLOT 0) SEC_SLOT_LAST = 0 ∧ (t.slotKey 0).key = k ∧
        (∀ n, 1 ≤ n → n < 16 → t.fld (SEC_SLOT n) SEC_SLOT_STATE = slotEmpty ∧ (t.slotKey n).key = 0) ∧ t.unlockScope = 0)))

/-- A STACK_REPAIR item outside its ranges is refused with detail 2; one with no spare left, or whose crossing is detoured or lost, with detail 1. STACK_REPAIR_LANE makes the crossing as a lane declared failing makes it. STACK_REPAIR_OASIS and
STACK_REPAIR_DRAM leave the word or line standing corrected where it could be corrected, poisoned where it could not, and every other as it was. Each erasure asked for and not yet made: image slots A and B EMPTY; key domains 1 to 15
and strict windows invalid, the ready controllers CLEARING and a drift ended; every oasis word zero, its spares kept; slots 1 to 15 EMPTY. The item succeeds with its last bit; a bit not asked for, or made, changes nothing.
Details 1 and 2 of STACK_REPAIR_LANE and of the words are the model's (log entry 42). -/
def Obligations.RepairAndErasure : Prop :=
  (∀ (s : State) (it : Item), s.repairItem 1 = some it →
    let w := it.num 24 1
    let b := it.num 25 1
    let k := it.num 26 1
    let l := it.num 27 1
    let x := crossKey w b k
    let st := (s.cross x).state
    (64 ≤ w ∨ 18 ≤ b ∨ k = 0 ∨ 7 ≤ k ∨ 76 ≤ l → Gives .stackRepairLane s (RegsOnly [] (s.cmdRefused keySupervisor 2))) ∧
    (w < 64 → b < 18 → 1 ≤ k → k ≤ 6 → l < 76 →
      (st = crDetoured ∨ st = crLost → Gives .stackRepairLane s (RegsOnly [] (s.cmdRefused keySupervisor 1))) ∧
      (st ≠ crDetoured → st ≠ crLost → Gives .stackRepairLane s fun t => t.resultOf keySupervisor = some { status := stSuccess } ∧
        t.fab = (s.laneFails x l).fab ∧ 
        ((s.cross x).hasFailed l = true → RegsOnly [] (s.finishSt keySupervisor stSuccess) t) ∧
        ((s.cross x).hasFailed l = false → s.dirLanes x = [] ∨ l ∈ s.dirLanes x → st ≠ crExposed → (s.cross x).swap = none → l < 72 →
          (∀ sp, (s.cross x).freeSpare = some sp → (t.cross x).swap = some (l, sp) ∧ KeepsRegs [] s t) ∧
          ((s.cross x).freeSpare = none → (t.cross x).state = crExposed ∧ WELL_XDATA_EXPOSED_LANE.get (t.cross x).xdata = l))))) ∧
  (∀ (s : State) (it : Item), s.repairItem 2 = some it →
    let i := it.num 24 1
    let bank := it.num 25 1
    let row := it.num 28 4
    let w := 8 * row + bank
    let g := s.oasGrp i
    (128 ≤ i ∨ 8 ≤ bank ∨ 2 ^ 18 ≤ row → Gives .stackRepairOasis s (RegsOnly [] (s.cmdRefused keySupervisor 2))) ∧
    (i < 128 → bank < 8 → row < 2 ^ 18 →
      (g.freeEntry bank = none → Gives .stackRepairOasis s (RegsOnly [] (s.cmdRefused keySupervisor 1))) ∧
      (∀ f, g.freeEntry bank = some f → (∀ e, f < e → e < 8 → g.spare bank e = none) → Gives .stackRepairOasis s fun t =>
        t.resultOf keySupervisor = some { status := stSuccess } ∧ KeepsRegs [OAS_G_STATUS i] s t ∧
        t.fldOn (OAS_G_STATUS i) OAS_G_STATUS_EXHAUSTED = (s.fldOn (OAS_G_STATUS i) OAS_G_STATUS_EXHAUSTED || ((t.oasGrp i).freeEntry bank).isNone) ∧ (∀ w', w' ≠ w → t.oasStored i w' = s.oasStored i w') ∧
        t.oasStored i w = (match oasDecode (s.oasStored i w).1 with
          | .clean => s.oasStored i w
          | .corrected v => (v, (s.oasStored i w).2)
          | .bad => ((s.oasStored i w).1, true))))) ∧
  (∀ (s : State) (it : Item), s.repairItem 3 = some it →
    let p := it.num 24 1
    let line := it.num 28 4
    let c := s.ctlAt p
    (32 ≤ p ∨ s.ctlState p = ctlOff ∨ s.usableMib * 2 ^ 14 ≤ line → Gives .stackRepairDram s (RegsOnly [] (s.cmdRefused keySupervisor 2))) ∧
    (p < 32 → s.ctlState p ≠ ctlOff → line < s.usableMib * 2 ^ 14 →
      ((∀ e, e < 16 → c.spare e ≠ none ∨ e ∈ c.dead) → Gives .stackRepairDram s (RegsOnly [] (s.cmdRefused keySupervisor 1))) ∧
      (∀ e, e < 16 → c.spare e = none → e ∉ c.dead →
        (∀ a b x y, a < 16 → b < 16 → c.spare a = some x → c.spare b = some y → x.line = line → y.line = line → a = b) →
        Gives .stackRepairDram s fun t => t.resultOf keySupervisor = some { status := stSuccess } ∧ KeepsRegs [] s t ∧
          (∀ l, l ≠ line → (t.ctlAt p).stored l = c.stored l) ∧
          (t.ctlAt p).stored line = (match lineDecode (c.stored line).1 with
            | .clean => c.stored line
            | .corrected v => (v, (c.stored line).2)
            | .bad => ((c.stored line).1, true))))) ∧
  (∀ (s : State) (c : Running), s.curOp keySecurity opErase = some c →
    let want := c.item.num 16 1
    let due := fun (b : Nat) => natBit want b = true ∧ natBit c.step b = false
    let ended := fun (b : Nat) (t : State) => t.resultOf keySecurity = if c.step + 2 ^ b = want then some { status := stSuccess } else none
    (∀ p ∈ [(0, Instr.eraseImageSlots), (1, .eraseKeyDomains), (2, .eraseOases), (3, .eraseSlots)], (want ≠ 0 → ¬ due p.1 → Gives p.2 s (RegsOnly [] s)) ∧
      (want = 0 → Gives p.2 s (RegsOnly [] (s.finishSt keySecurity stSuccess)))) ∧
    (due 0 → Gives .eraseImageSlots s fun t => ended 0 t ∧ (∀ k, k < 2 → t.slotState k = slEmpty ∧ t.reg (CFG_SLOT_VER k) = 0 ∧ t.store.slots.get (fun _ => []) k = []) ∧
      KeepsRegs [CFG_SLOT_INFO 0, CFG_SLOT_INFO 1, CFG_SLOT_VER 0, CFG_SLOT_VER 1] s t) ∧
    (due 1 → Gives .eraseKeyDomains s fun t => ended 1 t ∧ driftState t = 0 ∧
      (∀ d, 1 ≤ d → d < 16 → t.fld (CRY_DOM_CFG d) CRY_DOM_CFG_VALID = 0 ∧ t.reg (CRY_DOM_KEY d) = 0) ∧
      (∀ w, w < 8 → t.fld (CRY_STRICT_CFG w) CRY_STRICT_CFG_VALID = 0) ∧ (∀ k, k < 2 → t.reg (CRY_OAS_RIGHTS k) = s.reg (CRY_OAS_RIGHTS k)) ∧
      (∀ p, p < 32 → s.ctlState p = ctlReady ∨ s.ctlState p = ctlSelfRefresh → t.ctlState p = ctlClearing ∧ t.fld (DRMC_STATUS p) DRMC_STATUS_KEPT = 0)) ∧
    (due 2 → Gives .eraseOases s fun t => ended 2 t ∧ (∀ i w, t.oasStored i w = (0, false)) ∧ KeepsRegs [] s t ∧
      (s.oas.grps.wf (fun _ => {}) = true → ∀ i b e, ((t.oasGrp i).spare b e).isSome = ((s.oasGrp i).spare b e).isSome)) ∧
    (due 3 → Gives .eraseSlots s fun t => ended 3 t ∧ (∀ k, 1 ≤ k → k < 16 → t.fld (SEC_SLOT k) SEC_SLOT_STATE = slotEmpty ∧ (t.slotKey k).key = 0) ∧
      t.slotKey 0 = s.slotKey 0 ∧ ∀ o, (∀ k, 1 ≤ k → k < 16 → o ≠ SEC_SLOT k) → o ∉ shownRegs → t.reg o = s.reg o))

/-- DEBUG_UNLOCK with a certificate that is good for this module opens JTAG by scope bit 0 and the host link by bit 1 for the seconds asked, 0 being until reset, with event 0x000A; a bad certificate is refused and opens nothing. With scope 0,
and at DEBUG_UNLOCK_EXPIRY of an unlock with a time, both paths are closed, ATTACH.HOST is cleared, and every halted core runs again with its watchdog at 1,000 µs or more. An unlock until reset does not expire. -/
def Obligations.DebugUnlocks : Prop :=
  let closed := fun (s t : State) => t.unlockScope = 0 ∧ (s.unlockScope ≠ 0 → t.reg SEC_DEBUG = 0 ∧ t.fld DBG_ATTACH DBG_ATTACH_HOST = 0 ∧
    ∀ c, c < 3 → t.coreHalted c = false ∧ (s.coreHalted c = true → 1000 ≤ t.fld (SUP_WDOG c) SUP_WDOG_REMAIN ∧ t.fldOn (SUP_WDOG c) SUP_WDOG_FROZEN = false))
  (∀ (s : State) (c : Running), s.curOp keySecurity opDebugUnlock = some c →
    let it := c.item
    let scope := it.num 28 1
    let seconds := it.num 32 4
    let cert := s.hostBytes (it.num 16 8) (it.num 24 4)
    (∀ h, scope = 0 → Gives (.debugUnlock h) s fun t => t.resultOf keySecurity = some { status := stSuccess } ∧ closed s t) ∧
    (∀ h, scope ≠ 0 → h = true ∨ s.mayIssue = false → Gives (.debugUnlock h) s (RegsOnly [] (s.finishSt keySecurity stHostError))) ∧
    (scope ≠ 0 → scope < 4 → s.mayIssue = true → s.host.linkUp = true →
      (Config.debugCert s.fuses.serial s.sec.ownerCert cert = true → Gives (.debugUnlock false) s fun t => t.resultOf keySecurity = some { status := stSuccess } ∧
        t.jtagOpen = natBit scope 0 ∧ t.hostOpen = natBit scope 1 ∧ t.fld SEC_DEBUG SEC_DEBUG_REMAIN = (if seconds = 0 then 0xFFFFFFFF else seconds) ∧
        t.sec.unlockForever = decide (seconds = 0) ∧ Logs 0x000A s t ∧ KeepsRegs ([SEC_STATUS, SEC_DEBUG, DBG_ATTACH] ++ eventRegs) s t) ∧
      (Config.debugCert s.fuses.serial s.sec.ownerCert cert = false → Gives (.debugUnlock false) s fun t =>
        (t.resultOf keySecurity).map (fun r => r.status) = some stRefused ∧ t.unlockScope = s.unlockScope ∧ KeepsRegs [] s t))) ∧
  (∀ s : State, (s.sec.unlockForever = true → Gives .debugUnlockExpiry s (RegsOnly [] s)) ∧
    (s.sec.unlockForever = false → Gives .debugUnlockExpiry s fun t => closed s t ∧ (s.unlockScope = 0 → RegsOnly [] s t)))

/-! ### Sensors, the shade planner and wear (chapter 13) -/

/-- SENSOR_READ holds a good reading and keeps the other sensors; a bad one marks its sensor FAILED, which from then on reads 10 °C above its hottest good neighbour. A sensor at 105 °C shows LIMIT, a fabric sensor at 100 °C THROTTLE; a column's ergs
are gated at N = 2 from 100 °C until both read below 98 °C. SHADE_WINDOW shows each erg's activity, begins an intervention for temperature on an erg too warm, and in Quiet releases all. INTERVENTION_ESCALATE after 20 windows outside the rules puts the next
means in force; INTERVENTION_END after 20 within them ends the intervention with event 0x0A03. THM_CTL_WRITE raises event 0x0A09 when EN falls. An erg takes work through its task port as log entry 38 says (the model's choice). -/
def Obligations.SensorsAndShade : Prop :=
  (∀ (s : State) (x : SensorIn), s.fldOn (THM_SENS x.k) THM_SENS_FAILED = false →
    (∀ v : BitVec 16, x.reading = some v → -640 ≤ signed 16 v.toNat → signed 16 v.toNat ≤ 2400 → Gives (.sensorRead [x]) s fun t =>
      t.fld (THM_SENS x.k) THM_SENS_VALID = 1 ∧ t.fld (THM_SENS x.k) THM_SENS_TEMP = v.toNat ∧ t.fld (THM_SENS x.k) THM_SENS_FAILED = 0 ∧
      ∀ k, k < 256 → k ≠ x.k.val → s.fldOn (THM_SENS k) THM_SENS_FAILED = false → t.reg (THM_SENS k) = s.reg (THM_SENS k)) ∧
    ((∀ v : BitVec 16, x.reading = some v → signed 16 v.toNat < -640 ∨ 2400 < signed 16 v.toNat) → Gives (.sensorRead [x]) s fun t =>
      t.fld (THM_SENS x.k) THM_SENS_FAILED = 1 ∧ t.fld (THM_SENS x.k) THM_SENS_VALID = 1 ∧ ∃ e ∈ t.evt.log, e.code = 0x0A01)) ∧
  (∀ (s : State) (k : Nat) (u : Int), k < 256 → s.fldOn (THM_SENS k) THM_SENS_FAILED = true →
    hottest (((sensorBeside k).filter (fun j => !s.fldOn (THM_SENS j) THM_SENS_FAILED)).filterMap s.temp) = some u →
    Gives (.sensorRead []) s fun t => t.fld (THM_SENS k) THM_SENS_VALID = 1 ∧ t.fld (THM_SENS k) THM_SENS_TEMP = wrapInt 16 (u + 160)) ∧
  (∀ (s : State) (l : List SensorIn), Gives (.sensorRead l) s fun t =>
    (∀ k, k < 256 → t.reads k 105 = true → t.fld THM_STATUS THM_STATUS_LIMIT = 1) ∧ (∀ k, k < 128 → t.reads k 100 = true → t.fld THM_STATUS THM_STATUS_THROTTLE = 1) ∧
    ∀ n, n < 64 →
      let half := t.reads n 100 || t.reads (n + 64) 100 || ((s.ergThm n).half && (t.reads n 98 || t.reads (n + 64) 98))
      let sensors := (List.range 7).map (fun d => dieSensor d n)
      let full := sensors.any (fun k => t.reads k 105) || ((s.ergThm n).full && sensors.any (fun k => t.reads k 100))
      ∀ i, i = n ∨ i = n + 64 → (t.ergThm i).half = half ∧ (t.ergThm i).full = full ∧
        ((s.ergThm i).half = false → half = true → t.means i = meansGate ∧ t.fld (FAB_ERG_SHADE i) FAB_ERG_SHADE_GATE_N = 2 ∧ t.fld (FAB_ERG_SHADE i) FAB_ERG_SHADE_RULE = 3) ∧
        ((s.ergThm i).half = true → half = false → t.means i = FAB_ERG_SHADE_MEANS.get (s.ergThm i).pre) ∧
        ((s.ergThm i).half = half → t.reg (FAB_ERG_SHADE i) = s.reg (FAB_ERG_SHADE i))) ∧
  (∀ s : State, Gives .shadeWindow s fun t => t.thm.hist = ((s.layerOps 0, s.layerOps 1) :: s.thm.hist).take 100 ∧
    ∀ i, i < 128 → (t.ergThm i).ops = 0 ∧ (t.ergThm i).half = (s.ergThm i).half ∧
      (let a := if s.pwr.st = .quiet then 0 else activity (s.ergThm i).ops
       t.fld (FAB_ERG_SHADE i) FAB_ERG_SHADE_ACT = a ∧ (t.ergThm i).hot = (decide (min (s.fld THM_CTL THM_CTL_HOT) 1024 ≤ a) || s.tooWarm i)) ∧
      (s.pwr.st = .quiet → (s.ergThm i).half = false → t.means i = 0) ∧
      ((s.ergThm i).half = false → s.means i = 0 → (s.ergThm i).moveTo = none → s.pwr.st ≠ .quiet →
        (s.tooWarm i = true → t.means i ≠ 0 ∧ t.fld (FAB_ERG_SHADE i) FAB_ERG_SHADE_RULE = ruleTemp) ∧
        (s.tooWarm i = false → s.fldOn THM_CTL THM_CTL_EN = false → t.means i = 0))) ∧
  (∀ (s : State) (i : ErgNo),
    (s.means i = 0 ∨ (s.ergThm i).outside < 20 ∨ (s.ergThm i).half = true ∨ s.means i = meansGate → Gives (.interventionEscalate i) s (RegsOnly [] s)) ∧
    ((s.ergThm i).half = false → 20 ≤ (s.ergThm i).outside →
      (s.means i = meansMove → s.takesWork i = true → Gives (.interventionEscalate i) s fun t => t.means i = meansStretch ∧ t.fld (FAB_ERG_SHADE i) FAB_ERG_SHADE_STRETCH = 1 ∧
        KeepsRegs [FAB_ERG_SHADE i] s t ∧ (t.ergThm i).outside = 0) ∧
      (s.means i = meansStretch ∨ (s.means i = meansMove ∧ s.takesWork i = false) → Gives (.interventionEscalate i) s fun t => t.means i = meansGate ∧
        t.fld (FAB_ERG_SHADE i) FAB_ERG_SHADE_GATE_N = 16 ∧ KeepsRegs [FAB_ERG_SHADE i] s t ∧ (t.ergThm i).outside = 0)) ∧
    (s.means i = 0 ∨ (s.ergThm i).within < 20 ∨ (s.ergThm i).half = true → Gives (.interventionEnd i) s (RegsOnly [THM_STATUS] s)) ∧
    (s.means i ≠ 0 → 20 ≤ (s.ergThm i).within → (s.ergThm i).half = false → Gives (.interventionEnd i) s fun t => t.means i = 0 ∧
      t.fld (FAB_ERG_SHADE i) FAB_ERG_SHADE_RULE = 0 ∧ t.fld (FAB_ERG_SHADE i) FAB_ERG_SHADE_STRETCH = 0 ∧ t.fld (FAB_ERG_SHADE i) FAB_ERG_SHADE_GATE_N = 0 ∧
      (t.ergThm i).moveTo = none ∧ Logs 0x0A03 s t ∧ KeepsRegs ([FAB_ERG_SHADE i, THM_STATUS] ++ eventRegs) s t)) ∧
  (∀ (s : State) (data : Data), s.ready THM_CTL = true →
    let new := plainWrite THM_CTL_info (s.reg THM_CTL) data
    (s.fldOn THM_CTL THM_CTL_EN = true → THM_CTL_EN.on new = false → Gives (.thmCtlWrite data) s fun t => t.reg THM_CTL = new ∧ EventOnly [THM_CTL] s t ∧ Logs 0x0A09 s t) ∧
    (s.fldOn THM_CTL THM_CTL_EN = false ∨ THM_CTL_EN.on new = true → Gives (.thmCtlWrite data) s fun t => t.reg THM_CTL = new ∧ RegsOnly [THM_CTL] s t))

/-- WEAR_SAMPLE adds 10 ms of service time. Inside a day, an interface's sample less than 2 K from its last turning point changes nothing of it; 2 K or more makes it the candidate; one onward of the candidate replaces it; one 2 K back of it makes the
candidate a turning point, and where that closes a four-point cycle the cycle is counted with its wear, within the error R357 allows, and its two points leave the residue. LIFE shows the rate, and WORST an interface of shortest projection.
WEAR_LOG_WRITE stores all of it. DAILY_NARROW raises NARROW by 1 up to 10 when the worst rate exceeds the schedule by more than MARGIN, lowers it when it is below the schedule, with event 0x0A08, and otherwise does nothing. -/
def Obligations.Wear : Prop :=
  (∀ s : State, Gives .wearSample s fun t => t.thm.samples = s.thm.samples + 1 ∧
    (∀ j, j < 7 → t.fld (THM_LIFE j) THM_LIFE_RATE = t.wearRate j ∧
      t.fld (THM_LIFE (t.fld THM_WEAR_CTL THM_WEAR_CTL_WORST)) THM_LIFE_REMAIN ≤ t.fld (THM_LIFE j) THM_LIFE_REMAIN) ∧
    ((s.thm.samples + 1) % samplesPerDay ≠ 0 → ∀ (j : Nat) (x p : Int), j < 7 → s.thm.fresh = false → s.interfaceTemp j = some x →
      lastTurn (s.wearAt j).residue = some p →
      ((s.wearAt j).cand = none → (x - p).natAbs < 64 → t.wearAt j = s.wearAt j ∧ t.reg (THM_WEAR j) = s.reg (THM_WEAR j)) ∧
      ((s.wearAt j).cand = none → 64 ≤ (x - p).natAbs → t.wearAt j = { s.wearAt j with cand := some x } ∧ t.reg (THM_WEAR j) = s.reg (THM_WEAR j)) ∧
      (∀ c, (s.wearAt j).cand = some c → (p ≤ c ∧ c ≤ x) ∨ (x ≤ c ∧ c ≤ p) → t.wearAt j = { s.wearAt j with cand := some x } ∧
        t.reg (THM_WEAR j) = s.reg (THM_WEAR j)) ∧
      (∀ c, (s.wearAt j).cand = some c → ¬ ((p ≤ c ∧ c ≤ x) ∨ (x ≤ c ∧ c ≤ p)) → 64 ≤ (c - x).natAbs → (t.wearAt j).cand = some x ∧
        lastTurn (t.wearAt j).residue = some c ∧
        (∀ a b, (s.wearAt j).residue = [a, b, p] → (b - p).natAbs ≤ (a - b).natAbs → (b - p).natAbs ≤ (p - c).natAbs →
          let w := cycleWear b p
          (t.wearAt j).residue = [a, c] ∧
          t.fld (THM_WEAR j) THM_WEAR_CYCLES = satAdd THM_WEAR_CYCLES.w (s.fld (THM_WEAR j) THM_WEAR_CYCLES) 1 ∧
          ∃ e, e ≤ 2 * (w / 4096) + 1 ∧
            t.fld (THM_WEAR j) THM_WEAR_CONSUMED = satAdd THM_WEAR_CONSUMED.w (s.fld (THM_WEAR j) THM_WEAR_CONSUMED) (w - w / 4096 + e))))) ∧
  (∀ s : State, Gives .wearLogWrite s fun t => t.store.wearLog.length = 7 ∧ (∀ j, j < 7 → t.store.wearLog[j]? = some
      { reg := s.reg (THM_WEAR j), residue := (s.wearAt j).residue, cand := (s.wearAt j).cand, dayStart := (s.wearAt j).dayStart, days := (s.wearAt j).days }) ∧
    t.store.wearNarrow = s.fld THM_WEAR_CTL THM_WEAR_CTL_NARROW ∧ t.store.wearTime = s.thm.samples ∧ KeepsRegs [] s t ∧ OnlyRegs { s with store := t.store } t) ∧
  (∀ s : State,
    let j := s.fld THM_WEAR_CTL THM_WEAR_CTL_WORST
    let rate := s.fld (THM_LIFE j) THM_LIFE_RATE * 36525
    let plan := 40000 * 65536 * 100
    let n := s.fld THM_WEAR_CTL THM_WEAR_CTL_NARROW
    let moves := fun (m : Nat) (t : State) => t.fld THM_WEAR_CTL THM_WEAR_CTL_NARROW = m ∧ EventOnly [THM_WEAR_CTL] s t ∧ Logs 0x0A08 s t
    (plan * (100 + s.fld THM_WEAR_CTL THM_WEAR_CTL_MARGIN) < rate * 100 → n < 10 → Gives .dailyNarrow s (moves (n + 1))) ∧
    (plan * (100 + s.fld THM_WEAR_CTL THM_WEAR_CTL_MARGIN) < rate * 100 → n = 10 → Gives .dailyNarrow s (RegsOnly [] s)) ∧
    (rate < plan → 0 < n → Gives .dailyNarrow s (moves (n - 1))) ∧
    (rate < plan → n = 0 → Gives .dailyNarrow s (RegsOnly [] s)) ∧
    (plan ≤ rate → rate * 100 ≤ plan * (100 + s.fld THM_WEAR_CTL THM_WEAR_CTL_MARGIN) → Gives .dailyNarrow s (RegsOnly [] s)))

/-! ### Debug cores, terminals, the JTAG port and BAR0 (chapter 20) -/

/-- Without the host's unlock, writes of CTL, DIR and ACC_DATA only set ATTACH.REFUSED and ACC_DATA reads zero. Under it, HALT of a running core halts it with CAUSE 0, or waits for its reservation; RESUME lets a halted core run with its watchdog at 1,000 µs or more; STEP
halts it again with CAUSE 2; DIR of a running core sets DIR_FAULT, of a halted one keeps its PC. ACC_DATA reads and writes a halted core's registers and space; what does not exist, lies behind the wall or needs a halt sets ACC_ERR. After 256 µs a waiting
core halts with its reservation broken. One comparator that matches sets STATUS.CMP and acts by its ACTION. Terminal words cross, or set OVERRUN. Whether a core holds a reservation is a free value. -/
def Obligations.DebugCores : Prop :=
  (∀ (s : State) (c : CoreNo) (data : Data), (∀ o ∈ [DBG_CORE_CTL c, DBG_CORE_DIR c, DBG_CORE_ACC_DATA c], s.ready o = true) →
    let sp := s.fld (DBG_CORE_ACC_ADDR c) DBG_CORE_ACC_ADDR_SPACE
    let a := s.fld (DBG_CORE_ACC_ADDR c) DBG_CORE_ACC_ADDR_ADDR
    let reg := fun (u : State) (k : Nat) => (u.core c).regs.get (fun _ => 0) k
    let byte := fun (u : State) (k : Nat) => (u.core c).space.get (fun _ => none) ((a + k) % 2 ^ 32)
    let err := fun (t : State) => t.fld (DBG_CORE_STATUS c) DBG_CORE_STATUS_ACC_ERR = 1 ∧ t.cores = s.cores ∧ KeepsRegs [DBG_CORE_ACC_DATA c, DBG_CORE_STATUS c] s t
    (s.hostOpen = false → (∀ i ∈ [Instr.coreHalt c data, .coreResume c data, .coreStep c data, .dirWrite c data, .accDataWrite c data],
        Gives i s fun t => t.fld DBG_ATTACH DBG_ATTACH_REFUSED = 1 ∧ RegsOnly [DBG_ATTACH] s t) ∧
      Gives (.accDataRead c) s (RegsOnly [] (s.answerReg 0))) ∧
    (s.hostOpen = true →
      (s.coreHalted c = false → s.clk.mgmtReset = false → DBG_CORE_CTL_HALT.on data = true → Gives (.coreHalt c data) s fun t =>
        t.fld (DBG_CORE_STATUS c) DBG_CORE_STATUS_CAUSE = 0 ∧
        ((t.coreHalted c = true ∧ t.fldOn (SUP_WDOG c) SUP_WDOG_FROZEN = true ∧ (c.val < 2 → t.sv c = svHalted) ∧ Logs 0x0007 s t ∧
          t.fld (DBG_CORE_STATUS c) DBG_CORE_STATUS_PC = (reg t 32).toNat) ∨
         (t.coreHalted c = false ∧ t.fld (DBG_CORE_STATUS c) DBG_CORE_STATUS_LOCK_WAIT = 1 ∧ (t.core c).haltWait = true ∧ KeepsRegs [DBG_CORE_STATUS c] s t))) ∧
      (s.coreHalted c = false → DBG_CORE_CTL_HALT.on data = false → ∀ i ∈ [Instr.coreResume c data, .coreStep c data], Gives i s (RegsOnly [] s)) ∧
      (s.coreHalted c = true → DBG_CORE_CTL_RESUME.on data = true → Gives (.coreResume c data) s fun t => t.coreHalted c = false ∧
        1000 ≤ t.fld (SUP_WDOG c) SUP_WDOG_REMAIN ∧ t.fldOn (SUP_WDOG c) SUP_WDOG_FROZEN = false ∧ t.cores = s.cores ∧ Logs 0x0008 s t ∧
        KeepsRegs ([DBG_CORE_STATUS c, SUP_WDOG c, SUP_STATUS] ++ eventRegs) s t) ∧
      (s.coreHalted c = true → DBG_CORE_CTL_RESUME.on data = false → DBG_CORE_CTL_STEP.on data = true → Gives (.coreStep c data) s fun t => t.coreHalted c = true ∧
        t.fld (DBG_CORE_STATUS c) DBG_CORE_STATUS_CAUSE = 2 ∧ Logs 0x0007 s t ∧ KeepsRegs ([DBG_CORE_STATUS c, SUP_WDOG c, SUP_STATUS] ++ eventRegs) s t ∧
        ∀ d, d ≠ c.val → t.core d = s.core d) ∧
      (s.coreHalted c = false ∨ s.fldOn (DBG_CORE_STATUS c) DBG_CORE_STATUS_DIR_BUSY = true → Gives (.dirWrite c data) s fun t => t.fld (DBG_CORE_STATUS c) DBG_CORE_STATUS_DIR_FAULT = 1 ∧ RegsOnly [DBG_CORE_STATUS c] s t) ∧
      (s.coreHalted c = true → s.fldOn (DBG_CORE_STATUS c) DBG_CORE_STATUS_DIR_BUSY = false → Gives (.dirWrite c data) s fun t => reg t 32 = reg s 32 ∧
        KeepsRegs [DBG_CORE_DDATA c] s t ∧ ∀ d, d ≠ c.val → t.core d = s.core d) ∧
      (sp = 2 → Gives (.accDataWrite c data) s (RegsOnly [] ((s.setReg (DBG_CORE_ACC_DATA c) data).ringWrite c a data))) ∧
      (sp = 3 ∨ (sp ≠ 2 ∧ s.coreHalted c = false) ∨ (sp = 0 ∧ 34 ≤ a) ∨ (sp = 1 ∧ walled c a 8 = true) →
        Gives (.accDataWrite c data) s err ∧ Gives (.accDataRead c) s fun t => err t ∧ t.host.answer = some (toBytes 8 0)) ∧
      (sp = 0 → a < 34 → s.coreHalted c = true →
        (Gives (.accDataWrite c data) s fun t => reg t a = BitVec.ofNat 32 data.toNat ∧ (∀ k, k ≠ a → reg t k = reg s k) ∧ KeepsRegs [DBG_CORE_ACC_DATA c, DBG_CORE_STATUS c] s t ∧
          (a = 32 → t.fld (DBG_CORE_STATUS c) DBG_CORE_STATUS_PC = data.toNat % 2 ^ 32)) ∧
        Gives (.accDataRead c) s fun t => t.host.answer = some (toBytes 8 (reg s a).toNat) ∧ t.cores = s.cores ∧ KeepsRegs [DBG_CORE_ACC_DATA c] s t) ∧
      (sp = 1 → walled c a 8 = false → s.coreHalted c = true →
        (Gives (.accDataWrite c data) s fun t => (∀ k, k < 8 → byte t k = (toBytes 8 data.toNat)[k]?) ∧ KeepsRegs [DBG_CORE_ACC_DATA c] s t) ∧
        (∀ f : Nat → Byte, (∀ k, k < 8 → byte s k = some (f k)) → Gives (.accDataRead c) s fun t => t.host.answer = some ((List.range 8).map f) ∧ t.cores = s.cores)))) ∧
  (∀ (s : State) (c : CoreNo), ((s.core c).haltWait = false → Gives (.haltReservationTimeout c) s (RegsOnly [] s)) ∧
    ((s.core c).haltWait = true → Gives (.haltReservationTimeout c) s fun t => t.coreHalted c = true ∧ t.fld (DBG_CORE_STATUS c) DBG_CORE_STATUS_LOCK_BROKEN = 1 ∧
      t.fld (DBG_CORE_STATUS c) DBG_CORE_STATUS_CAUSE = s.fld (DBG_CORE_STATUS c) DBG_CORE_STATUS_CAUSE ∧ (t.core c).reservation = false ∧ (t.core c).haltWait = false ∧ Logs 0x0007 s t)) ∧
  (∀ (s : State) (c : CoreNo) (kind : CmpKind) (addr : BitVec 32),
    let hit := fun (k : Nat) => cmpHit (s.reg (DBG_CORE_CMP c k)) kind addr.toNat
    (s.coreHalted c = true ∨ s.clk.mgmtReset = true ∨ (∀ k, k < cmpCount c → hit k = false) → Gives (.coreComparatorMatch c kind addr) s (RegsOnly [] s)) ∧
    (s.coreHalted c = false → s.clk.mgmtReset = false → ∀ k, k < cmpCount c → (∀ j, j < cmpCount c → hit j = decide (j = k)) →
      (s.fld (DBG_CORE_CMP c k) DBG_CORE_CMP_ACTION = 1 → s.unlockScope ≠ 0 → Gives (.coreComparatorMatch c kind addr) s fun t =>
        t.fld (DBG_CORE_STATUS c) DBG_CORE_STATUS_CMP = k ∧ t.fld (DBG_CORE_STATUS c) DBG_CORE_STATUS_CAUSE = 1 ∧
        (t.coreHalted c = true ∨ t.fld (DBG_CORE_STATUS c) DBG_CORE_STATUS_LOCK_WAIT = 1) ∧
        (kind = .fetch → t.coreHalted c = true → t.fld (DBG_CORE_STATUS c) DBG_CORE_STATUS_PC = addr.toNat)) ∧
      (s.fld (DBG_CORE_CMP c k) DBG_CORE_CMP_ACTION ≠ 1 ∨ s.unlockScope = 0 → Gives (.coreComparatorMatch c kind addr) s fun t =>
        t.fld (DBG_CORE_STATUS c) DBG_CORE_STATUS_CMP = k ∧ t.coreHalted c = false ∧ Logs 0x0009 s t ∧ KeepsRegs ([DBG_CORE_STATUS c] ++ eventRegs) s t))) ∧
  (∀ (s : State) (c : SvNo) (data : Data) (word : BitVec 32),
    let st := DBG_CORE_VT_STATUS c
    (s.ready (DBG_CORE_VT_TO c) = true →
      (s.fldOn st DBG_CORE_VT_STATUS_TO_FULL = true → Gives (.vtToWrite c data) s fun t => t.fld st DBG_CORE_VT_STATUS_OVERRUN = 1 ∧ RegsOnly [st] s t) ∧
      (s.fldOn st DBG_CORE_VT_STATUS_TO_FULL = false → Gives (.vtToWrite c data) s fun t => t.fld st DBG_CORE_VT_STATUS_TO_FULL = 1 ∧ KeepsRegs [st] s t ∧
        t.core c = { s.core c with vtTo := BitVec.ofNat 32 data.toNat })) ∧
    (s.coreHalted c = true ∨ s.clk.mgmtReset = true → ∀ i ∈ [Instr.vtToRead c, .vtFromWrite c word], Gives i s (RegsOnly [] s)) ∧
    (s.coreHalted c = false → s.clk.mgmtReset = false →
      (Gives (.vtToRead c) s fun t => t.fld st DBG_CORE_VT_STATUS_TO_FULL = 0 ∧ RegsOnly [st] s t) ∧
      (Gives (.vtFromWrite c word) s fun t => t.fld st DBG_CORE_VT_STATUS_FROM_FULL = 1 ∧ t.core c = { s.core c with vtFrom := word } ∧
        (s.fldOn st DBG_CORE_VT_STATUS_EVT = true → Logs 0x000E s t) ∧ (s.fldOn st DBG_CORE_VT_STATUS_EVT = false → KeepsRegs [st] s t ∧ t.evt = s.evt))) ∧
    (s.ready (DBG_CORE_VT_FROM c) = true → ∀ path : ReadPath, Gives (.vtFromRead c path) s fun t =>
      t.host.answer = some (toBytes 8 (if s.fldOn st DBG_CORE_VT_STATUS_FROM_FULL then (s.core c).vtFrom.toNat else 0)) ∧
      (path = .debug ∨ s.fldOn DBG_PEEK DBG_PEEK_PEEK = true → KeepsRegs [] s t) ∧
      (path = .host → s.fldOn DBG_PEEK DBG_PEEK_PEEK = false → t.fld st DBG_CORE_VT_STATUS_FROM_FULL = 0 ∧ KeepsRegs [st] s t)))

/-- A BAR0_WRITE of another size or alignment raises event 0x000D, but for the halves of the MSI-X table (PCI Express, log entry 10; R392); an aligned one writes a register of no special meaning by its access types, raises 0x000D at a register of RWA fields and leaves an unlisted offset. RCL_READ answers the register and clears its RCL fields, under PEEK or over the
debug port only answers, and answers zeros at another size. EXTEST drives the pins, or acts as BYPASS with event 0x000D where a configured device has no unlock; SAMPLE_PRELOAD loads the boundary register; DEVINFO gives GLB.ID; DBGREG without the unlock answers with ERR outside GLB and SEC; UNLOCK
gathers words, and the full item opens the port or ends with its status; TEST_LOGIC_RESET clears ATTACH.JTAG. -/
def Obligations.HostAndJtagAccess : Prop :=
  (∀ (s : State) (off size : Nat) (data : Data), s.hostReaches = true →
    (off < 2 ^ 26 → ¬ (size = 8 ∧ off % 8 = 0) → ¬ (size = 4 ∧ off % 4 = 0 ∧ 0xA0000 ≤ off ∧ off < 0xA2000) → Gives (.bar0Write off size data) s fun t => EventOnly [] s t ∧ Logs 0x000D s t) ∧
    (off < 2 ^ 26 → off % 8 = 0 → coreOff off = none → off ≠ DBG_ATTACH → s.ready off = true → s.busOp off data = none →
      (regInfo off = none → Gives (.bar0Write off 8 data) s (RegsOnly [] s)) ∧
      (∀ r, regInfo off = some r → r.rwa ≠ 0 → Gives (.bar0Write off 8 data) s fun t => EventOnly [] s t ∧ Logs 0x000D s t) ∧
      (∀ r, regInfo off = some r → r.rwa = 0 → off ∉ shownRegs → Gives (.bar0Write off 8 data) s fun t => t.reg off = plainWrite r (s.reg off) data ∧ RegsOnly [off] s t)) ∧
    (off % 4 = 0 → 0xA0000 ≤ off → off < 0xA2000 → s.blockUp (off / 8 * 8) = true → s.host.pba.get (fun _ => false) ((off - 0xA0000) / 16) = false →
      let k := (off - 0xA0000) / 8
      let old := s.host.msix.get msixReset k
      Gives (.bar0Write off 4 data) s (RegsOnly [] { s with host := { s.host with
        msix := s.host.msix.set msixReset k (maskWrite old (data <<< (off % 8 * 8)) ((2 ^ 32 - 1) * 2 ^ (off % 8 * 8))) } }))) ∧
  (∀ (s : State) (off size : Nat) (path : ReadPath), s.hostReaches = true → off < 2 ^ 26 →
    (readFits off size = false → Gives (.rclRead off size path) s (RegsOnly [] (s.answerHost (some (List.replicate size 0))))) ∧
    (readFits off size = true → let o := off / 8 * 8
      s.ready o = true → coreOff o = none → o ≠ PWR_AON_COUNT → o ≠ SEC_DEBUG → (o < SUP_WDOG 0 ∨ SUP_WDOG 3 ≤ o) →
      let answer := some (readBytes off size (s.busValue o))
      (path = .debug ∨ s.fldOn DBG_PEEK DBG_PEEK_PEEK = true → Gives (.rclRead off size path) s (RegsOnly [] (s.answerHost answer))) ∧
      (path = .host → s.fldOn DBG_PEEK DBG_PEEK_PEEK = false → o ≠ TSU_NOW_NS → (o < MEA_CTL 0 ∨ MEA_CTL 24 ≤ o) → o ∉ shownRegs →
        ∀ r, regInfo o = some r → Gives (.rclRead off size path) s fun t => t.host.answer = answer ∧ KeepsRegs [o] s t ∧
          t.reg o = if r.rcl = 0 then s.reg o else maskWrite (s.reg o) 0 r.rcl))) ∧
  (∀ (s : State) (cells : List Bool),
    (s.pins.cfgDone = false ∨ s.jtagOpen = true →
      Gives (.extest cells) s (RegsOnly [] { s with jtag := { s.jtag with ir := 0x00, driving := true, boundary := cells } })) ∧
    (s.pins.cfgDone = true → s.jtagOpen = false → Gives (.extest cells) s fun t => t.jtag = { s.jtag with ir := 0xFF, driving := false } ∧
      Logs 0x000D s t ∧ KeepsRegs eventRegs s t) ∧
    (Gives (.samplePreload cells) s fun t => t.jtag = { s.jtag with ir := 0x01, driving := false, boundary := cells, tdo := t.jtag.tdo } ∧ KeepsRegs [] s t)) ∧
  (∀ (s : State) (code : BitVec 8),
    (Gives .devinfo s (RegsOnly [] { s with jtag := { s.jtag with ir := 0x02, driving := false, tdo := s.glbId } })) ∧
    (code ∈ [0x00, 0x01, 0x02, 0x10, (0x11 : BitVec 8)] → Gives (.bypass code) s (RegsOnly [] s)) ∧
    (code ∉ [0x00, 0x01, 0x02, 0x10, (0x11 : BitVec 8)] → Gives (.bypass code) s (RegsOnly [] { s with jtag := { s.jtag with ir := code, driving := false } })) ∧
    (Gives .testLogicReset s fun t => t.fld DBG_ATTACH DBG_ATTACH_JTAG = 0 ∧
      RegsOnly [DBG_ATTACH] { s with jtag := { s.jtag with ir := 0xFF, driving := false } } t)) ∧
  (∀ (s : State) (dr : BitVec 88),
    let o := natBits dr.toNat 64 23 * 8
    let data := BitVec.ofNat 64 (natBits dr.toNat 0 64)
    let j := { s.jtag with ir := (0x10 : BitVec 8), driving := false, done := true, err := false }
    (s.jtagOpen = false → jtagReach o = false → Gives (.dbgreg dr) s fun t => t.fld DBG_ATTACH DBG_ATTACH_JTAG = 1 ∧
      RegsOnly [DBG_ATTACH] { s with jtag := { j with err := true } } t) ∧
    (o = DBG_PEEK → natBit dr.toNat 87 = true → s.jtagOpen = true → s.ready DBG_PEEK = true → Gives (.dbgreg dr) s fun t =>
      t.reg DBG_PEEK = plainWrite DBG_PEEK_info (s.reg DBG_PEEK) data ∧ RegsOnly [DBG_ATTACH, DBG_PEEK] { s with jtag := j } t) ∧
    (o = SEC_SERIAL_LO → natBit dr.toNat 87 = false → s.ready SEC_SERIAL_LO = true → Gives (.dbgreg dr) s
      fun t => RegsOnly [DBG_ATTACH] { s with jtag := { j with dr := BitVec.ofNat 64 s.fuses.serial.toNat } } t)) ∧
  (∀ (s : State) (word : BitVec 32),
    let old := if s.jtag.ir = 0x11 then s.jtag else { s.jtag with unlockBuf := [], unlockDone := false, unlockStatus := 0 }
    let b := (old.unlockBuf ++ toBytes 4 word.toNat).take 4224
    let it := unlockItem b
    let scope := it.num 28 1
    let ready := 128 ≤ b.length ∧ 128 + it.num 24 4 ≤ b.length ∧ old.unlockDone = false ∧ s.coreHalted 2 = false ∧ s.clk.mgmtReset = false
    let ends := fun (st : Nat) (t : State) => t.jtag = { old with ir := 0x11, driving := false, unlockBuf := b, unlockDone := true, unlockStatus := st }
    (¬ ready → Gives (.unlock word) s (RegsOnly [] { s with jtag := { old with ir := 0x11, driving := false, unlockBuf := b } })) ∧
    (ready → ∀ st, s.descFault it = some st → Gives (.unlock word) s fun t => ends st t ∧ KeepsRegs [] s t) ∧
    (ready → s.descFault it = none → it.opc = opDebugUnlock →
      (∀ st, s.authFault it = some st → Gives (.unlock word) s fun t => ends st t ∧ KeepsRegs [] s t) ∧
      (s.authFault it = none → let good := Config.debugCert s.fuses.serial s.sec.ownerCert ((b.drop 128).take (it.num 24 4))
        (scope = 0 → Gives (.unlock word) s fun t => ends stSuccess t ∧ t.unlockScope = 0 ∧ t.fld (SEC_SLOT it.slot) SEC_SLOT_LAST = it.counter) ∧
        (scope ≠ 0 → scope < 4 → good = true → Gives (.unlock word) s fun t => ends stSuccess t ∧ t.jtagOpen = natBit scope 0 ∧ t.hostOpen = natBit scope 1 ∧ Logs 0x000A s t) ∧
        (scope ≠ 0 → good = false → Gives (.unlock word) s fun t => ends stRefused t ∧ t.unlockScope = s.unlockScope))) ∧
    (ready → s.descFault it = none → it.opc ≠ opDebugUnlock → Gives (.unlock word) s fun t => ends stRefused t ∧ KeepsRegs [] s t))
end

