-- ==== Sys2Proof/Laws/Bits.lean ====
section
/-!
SUPPORT. The laws of register fields: what a field reads as after it, or another, has been put.
-/
namespace Sys2Proof.Machine

theorem natBits_low (n lo w b : Nat) (h : lo + w ≤ b) : natBits (n % 2 ^ b) lo w = natBits n lo w := by
  unfold natBits
  apply Nat.eq_of_testBit_eq
  intro i
  simp only [Nat.testBit_mod_two_pow, Nat.testBit_div_two_pow]
  by_cases hi : i < w
  · have : i + lo < b := by omega
    simp [hi, this]
  · simp [hi]

theorem natBits_high (n lo w b : Nat) (h : b ≤ lo) : natBits n lo w = natBits (n / 2 ^ b) (lo - b) w := by
  unfold natBits
  rw [Nat.div_div_eq_div_mul, ← Nat.pow_add]
  congr 3
  omega

theorem natBits_lt (n lo w : Nat) : natBits n lo w < 2 ^ w := Nat.mod_lt _ (Nat.two_pow_pos w)

/-- The number that a field put into a register gives. -/
theorem Fld.put_split (f : Fld) (v : Data) (x : Nat) (h : f.lo + f.w ≤ 64) :
    (f.put v x).toNat = 2 ^ f.lo * (2 ^ f.w * (v.toNat / 2 ^ (f.lo + f.w)) + x % 2 ^ f.w) + v.toNat % 2 ^ f.lo := by
  have ha : 0 < 2 ^ f.lo := Nat.two_pow_pos _
  have hb : 0 < 2 ^ f.w := Nat.two_pow_pos _
  have hv := v.isLt
  unfold Fld.put
  simp only [BitVec.toNat_ofNat]
  generalize hn : v.toNat = n at *
  have hx : x % 2 ^ f.w < 2 ^ f.w := Nat.mod_lt _ hb
  have e1 : n = 2 ^ f.lo * (2 ^ f.w * (n / 2 ^ (f.lo + f.w)) + natBits n f.lo f.w) + n % 2 ^ f.lo := by
    unfold natBits
    rw [Nat.pow_add, ← Nat.div_div_eq_div_mul, Nat.div_add_mod, Nat.div_add_mod]
  have hl : n % 2 ^ f.lo < 2 ^ f.lo := Nat.mod_lt _ ha
  generalize hm : natBits n f.lo f.w = m at *
  generalize hh : n / 2 ^ (f.lo + f.w) = q at *
  generalize n % 2 ^ f.lo = l at *
  generalize x % 2 ^ f.w = y at *
  have e2 : n - m * 2 ^ f.lo + y * 2 ^ f.lo = 2 ^ f.lo * (2 ^ f.w * q + y) + l := by
    rw [e1]
    have : 2 ^ f.lo * (2 ^ f.w * q + m) + l = 2 ^ f.lo * (2 ^ f.w * q) + l + m * 2 ^ f.lo := by
      rw [Nat.mul_add, Nat.mul_comm m]; omega
    rw [this, Nat.add_sub_cancel, Nat.mul_add, Nat.mul_comm y]; omega
  rw [e2]
  apply Nat.mod_eq_of_lt
  have hq : q < 2 ^ (64 - (f.lo + f.w)) := by
    rw [← hh]
    apply Nat.div_lt_of_lt_mul
    rw [← Nat.pow_add]
    have : f.lo + f.w + (64 - (f.lo + f.w)) = 64 := by omega
    rw [this]
    exact hv
  have h64 : (2 : Nat) ^ 64 = 2 ^ f.lo * (2 ^ f.w * 2 ^ (64 - (f.lo + f.w))) := by
    rw [← Nat.pow_add, ← Nat.pow_add]
    congr 1
    omega
  rw [h64]
  have h1 : 2 ^ f.w * q + y + 1 ≤ 2 ^ f.w * 2 ^ (64 - (f.lo + f.w)) :=
    calc 2 ^ f.w * q + y + 1 ≤ 2 ^ f.w * q + 2 ^ f.w := by omega
      _ = 2 ^ f.w * (q + 1) := by rw [Nat.mul_add, Nat.mul_one]
      _ ≤ _ := Nat.mul_le_mul_left _ hq
  calc 2 ^ f.lo * (2 ^ f.w * q + y) + l < 2 ^ f.lo * (2 ^ f.w * q + y) + 2 ^ f.lo := by omega
    _ = 2 ^ f.lo * (2 ^ f.w * q + y + 1) := by rw [Nat.mul_add _ _ 1, Nat.mul_one]
    _ ≤ _ := Nat.mul_le_mul_left _ h1

/-- A field reads as what was put, up to its width. -/
theorem Fld.get_put_same (f : Fld) (v : Data) (x : Nat) (h : f.lo + f.w ≤ 64) : f.get (f.put v x) = x % 2 ^ f.w := by
  have ha : 0 < 2 ^ f.lo := Nat.two_pow_pos _
  unfold Fld.get natBits
  rw [Fld.put_split f v x h, Nat.mul_add_div ha, Nat.div_eq_of_lt (Nat.mod_lt _ ha), Nat.add_zero, Nat.mul_add_mod]
  exact Nat.mod_mod _ _

/-- Another field keeps its value. -/
theorem Fld.get_put_ne (f g : Fld) (v : Data) (x : Nat) (h : f.lo + f.w ≤ 64) (hd : g.lo + g.w ≤ f.lo ∨ f.lo + f.w ≤ g.lo) :
    g.get (f.put v x) = g.get v := by
  have ha : 0 < 2 ^ f.lo := Nat.two_pow_pos _
  have hb : 0 < 2 ^ f.w := Nat.two_pow_pos _
  unfold Fld.get
  rcases hd with hd | hd
  · rw [← natBits_low (f.put v x).toNat g.lo g.w f.lo hd, ← natBits_low v.toNat g.lo g.w f.lo hd]
    congr 1
    rw [Fld.put_split f v x h, Nat.mul_add_mod, Nat.mod_mod]
  · rw [natBits_high (f.put v x).toNat g.lo g.w (f.lo + f.w) hd, natBits_high v.toNat g.lo g.w (f.lo + f.w) hd]
    congr 1
    rw [Fld.put_split f v x h, Nat.pow_add, ← Nat.div_div_eq_div_mul, Nat.mul_add_div ha, Nat.div_eq_of_lt (Nat.mod_lt _ ha), Nat.add_zero,
      Nat.mul_add_div hb, Nat.div_eq_of_lt (Nat.mod_lt _ hb), Nat.add_zero]

end Sys2Proof.Machine
end

