-- ==== Sys2Proof/Laws/SMap.lean ====
section
/-!
SUPPORT. The laws of the maps that the state is made of: what a read after a write gives, and that a write keeps the canonical form.
-/
namespace Sys2Proof.Machine

variable {α : Type}

theorem SMap.findCell_insert_same (k : Nat) (v : α) (l : List (Nat × α)) : SMap.findCell k (SMap.insertCell k v l) = some v := by
  induction l with
  | nil => simp [SMap.insertCell, SMap.findCell]
  | cons c r ih =>
    obtain ⟨j, w⟩ := c
    simp only [SMap.insertCell]
    split
    · simp [SMap.findCell]
    · split
      · simp [SMap.findCell]
      · rename_i h
        simp [SMap.findCell, h, ih]

theorem SMap.findCell_insert_ne (k j : Nat) (v : α) (l : List (Nat × α)) (h : j ≠ k) :
    SMap.findCell j (SMap.insertCell k v l) = SMap.findCell j l := by
  induction l with
  | nil => simp [SMap.insertCell, SMap.findCell, Ne.symm h]
  | cons c r ih =>
    obtain ⟨i, w⟩ := c
    simp only [SMap.insertCell]
    split
    · simp [SMap.findCell, Ne.symm h]
    · split
      · rename_i hk
        subst hk
        simp [SMap.findCell, Ne.symm h]
      · simp [SMap.findCell, ih]

theorem SMap.findCell_erase_same (k : Nat) (l : List (Nat × α)) : SMap.findCell k (SMap.eraseCell k l) = none := by
  induction l with
  | nil => rfl
  | cons c r ih =>
    obtain ⟨i, w⟩ := c
    simp only [SMap.eraseCell]
    split
    · exact ih
    · rename_i h
      simp [SMap.findCell, h, ih]

theorem SMap.findCell_erase_ne (k j : Nat) (l : List (Nat × α)) (h : j ≠ k) :
    SMap.findCell j (SMap.eraseCell k l) = SMap.findCell j l := by
  induction l with
  | nil => rfl
  | cons c r ih =>
    obtain ⟨i, w⟩ := c
    simp only [SMap.eraseCell]
    split
    · rename_i hk
      subst hk
      simp [SMap.findCell, Ne.symm h, ih]
    · simp [SMap.findCell, ih]

/-- What was written is read back. -/
@[simp] theorem SMap.get_set_same [DecidableEq α] (m : SMap α) (d : Nat → α) (k : Nat) (v : α) : (m.set d k v).get d k = v := by
  unfold SMap.set SMap.get
  split
  · rename_i h
    simp [SMap.findCell_erase_same, h]
  · simp [SMap.findCell_insert_same]

/-- A write leaves every other key alone. -/
theorem SMap.get_set_ne [DecidableEq α] (m : SMap α) (d : Nat → α) (k j : Nat) (v : α) (h : j ≠ k) :
    (m.set d k v).get d j = m.get d j := by
  unfold SMap.set SMap.get
  split
  · simp [SMap.findCell_erase_ne k j m.cells h]
  · simp [SMap.findCell_insert_ne k j v m.cells h]

/-- A read after a write, either way. -/
theorem SMap.get_set [DecidableEq α] (m : SMap α) (d : Nat → α) (k j : Nat) (v : α) :
    (m.set d k v).get d j = if j = k then v else m.get d j := by
  by_cases h : j = k
  · subst h
    simp
  · simp [h, SMap.get_set_ne]

theorem SMap.mem_insert (k : Nat) (v : α) (l : List (Nat × α)) (c : Nat × α) (h : c ∈ SMap.insertCell k v l) : c = (k, v) ∨ c ∈ l := by
  induction l with
  | nil => simpa [SMap.insertCell] using h
  | cons x r ih =>
    obtain ⟨j, w⟩ := x
    simp only [SMap.insertCell] at h
    split at h
    · simpa using h
    · split at h
      · rcases List.mem_cons.mp h with h | h
        · exact .inl h
        · exact .inr (List.mem_cons_of_mem _ h)
      · rcases List.mem_cons.mp h with h | h
        · exact .inr (by simp [h])
        · rcases ih h with h | h
          · exact .inl h
          · exact .inr (List.mem_cons_of_mem _ h)

theorem SMap.mem_erase (k : Nat) (l : List (Nat × α)) (c : Nat × α) (h : c ∈ SMap.eraseCell k l) : c ∈ l ∧ c.1 ≠ k := by
  induction l with
  | nil => simp [SMap.eraseCell] at h
  | cons x r ih =>
    obtain ⟨j, w⟩ := x
    simp only [SMap.eraseCell] at h
    split at h
    · exact ⟨List.mem_cons_of_mem _ (ih h).1, (ih h).2⟩
    · rename_i hj
      rcases List.mem_cons.mp h with h | h
      · subst h
        exact ⟨by simp, hj⟩
      · exact ⟨List.mem_cons_of_mem _ (ih h).1, (ih h).2⟩

theorem SMap.rising_insert (k : Nat) (v : α) (l : List (Nat × α)) (h : SMap.rising l = true) : SMap.rising (SMap.insertCell k v l) = true := by
  induction l with
  | nil => rfl
  | cons x r ih =>
    obtain ⟨j, w⟩ := x
    simp only [SMap.rising, Bool.and_eq_true, List.all_eq_true, decide_eq_true_eq] at h
    simp only [SMap.insertCell]
    split
    · rename_i hk
      simp only [SMap.rising, Bool.and_eq_true, List.all_eq_true, decide_eq_true_eq, List.mem_cons]
      refine ⟨?_, h.1, h.2⟩
      rintro c (rfl | hc)
      · exact hk
      · exact Nat.lt_trans hk (h.1 c hc)
    · split
      · rename_i hk
        subst hk
        simp only [SMap.rising, Bool.and_eq_true, List.all_eq_true, decide_eq_true_eq]
        exact h
      · simp only [SMap.rising, Bool.and_eq_true, List.all_eq_true, decide_eq_true_eq]
        refine ⟨fun c hc => ?_, ih h.2⟩
        rcases SMap.mem_insert k v r c hc with rfl | hc
        · simp only; omega
        · exact h.1 c hc

theorem SMap.rising_erase (k : Nat) (l : List (Nat × α)) (h : SMap.rising l = true) : SMap.rising (SMap.eraseCell k l) = true := by
  induction l with
  | nil => rfl
  | cons x r ih =>
    obtain ⟨j, w⟩ := x
    simp only [SMap.rising, Bool.and_eq_true, List.all_eq_true, decide_eq_true_eq] at h
    simp only [SMap.eraseCell]
    split
    · exact ih h.2
    · simp only [SMap.rising, Bool.and_eq_true, List.all_eq_true, decide_eq_true_eq]
      exact ⟨fun c hc => h.1 c (SMap.mem_erase k r c hc).1, ih h.2⟩

/-- A write keeps the canonical form: keys strictly rising, and no entry that an unlisted key would read as. -/
theorem SMap.set_wf [DecidableEq α] (m : SMap α) (d : Nat → α) (k : Nat) (v : α) (h : m.wf d = true) : (m.set d k v).wf d = true := by
  simp only [SMap.wf, Bool.and_eq_true, List.all_eq_true, decide_eq_true_eq] at h ⊢
  unfold SMap.set
  split
  · exact ⟨SMap.rising_erase k m.cells h.1, fun c hc => h.2 c (SMap.mem_erase k m.cells c hc).1⟩
  · rename_i hv
    refine ⟨SMap.rising_insert k v m.cells h.1, fun c hc => ?_⟩
    rcases SMap.mem_insert k v m.cells c hc with rfl | hc
    · exact hv
    · exact h.2 c hc

/-- The empty map has it. -/
theorem SMap.empty_wf [DecidableEq α] (d : Nat → α) : ({} : SMap α).wf d = true := rfl

end Sys2Proof.Machine
end

