-- ==== Sys2Proof/Laws/State.lean ====
section
/-!
SUPPORT. What each shared update of the state leaves alone, field by field, and what a register and its fields read as after a write.
-/
namespace Sys2Proof.Machine

/-! ### Registers -/

@[simp] theorem State.reg_setReg_same (s : State) (off : Nat) (v : Data) : (s.setReg off v).reg off = v := SMap.get_set_same _ _ _ _

theorem State.reg_setReg_ne (s : State) (off o : Nat) (v : Data) (h : o ≠ off) : (s.setReg off v).reg o = s.reg o :=
  SMap.get_set_ne _ _ _ _ _ h

theorem State.reg_setReg (s : State) (off o : Nat) (v : Data) : (s.setReg off v).reg o = if o = off then v else s.reg o :=
  SMap.get_set _ _ _ _ _

theorem State.reg_setFld_ne (s : State) (off o : Nat) (f : Fld) (x : Nat) (h : o ≠ off) : (s.setFld off f x).reg o = s.reg o :=
  s.reg_setReg_ne off o _ h

theorem State.reg_setFlds_ne (s : State) (off o : Nat) (l : List (Fld × Nat)) (h : o ≠ off) : (s.setFlds off l).reg o = s.reg o :=
  s.reg_setReg_ne off o _ h

theorem State.fld_setFld_same (s : State) (off : Nat) (f : Fld) (x : Nat) (h : f.lo + f.w ≤ 64) : (s.setFld off f x).fld off f = x % 2 ^ f.w := by
  unfold State.setFld State.fld
  rw [State.reg_setReg_same, Fld.get_put_same f _ x h]

theorem State.fld_setFld_other (s : State) (off : Nat) (f g : Fld) (x : Nat) (h : f.lo + f.w ≤ 64)
    (hd : g.lo + g.w ≤ f.lo ∨ f.lo + f.w ≤ g.lo) : (s.setFld off f x).fld off g = s.fld off g := by
  unfold State.setFld State.fld
  rw [State.reg_setReg_same, Fld.get_put_ne f g _ x h hd]

theorem State.fld_setFld_ne (s : State) (off o : Nat) (f g : Fld) (x : Nat) (h : o ≠ off) : (s.setFld off f x).fld o g = s.fld o g := by
  unfold State.fld
  rw [s.reg_setFld_ne off o f x h]

theorem State.fld_setReg_ne (s : State) (off o : Nat) (v : Data) (g : Fld) (h : o ≠ off) : (s.setReg off v).fld o g = s.fld o g := by
  unfold State.fld
  rw [s.reg_setReg_ne off o v h]

theorem State.fld_setFlds_ne (s : State) (off o : Nat) (l : List (Fld × Nat)) (g : Fld) (h : o ≠ off) :
    (s.setFlds off l).fld o g = s.fld o g := by
  unfold State.fld
  rw [s.reg_setFlds_ne off o l h]

/-- The register file keeps its canonical form. -/
theorem State.setReg_regs_wf (s : State) (off : Nat) (v : Data) (h : s.regs.wf regReset = true) : (s.setReg off v).regs.wf regReset = true :=
  SMap.set_wf _ _ _ _ h

/-! ### What an update leaves alone -/

@[simp] theorem State.setReg_variant (s : State) (off : Nat) (v : Data) : (s.setReg off v).variant = s.variant := rfl
@[simp] theorem State.setReg_time (s : State) (off : Nat) (v : Data) : (s.setReg off v).time = s.time := rfl
@[simp] theorem State.setReg_fab (s : State) (off : Nat) (v : Data) : (s.setReg off v).fab = s.fab := rfl
@[simp] theorem State.setReg_lanes (s : State) (off : Nat) (v : Data) : (s.setReg off v).lanes = s.lanes := rfl
@[simp] theorem State.setReg_gio (s : State) (off : Nat) (v : Data) : (s.setReg off v).gio = s.gio := rfl
@[simp] theorem State.setReg_host (s : State) (off : Nat) (v : Data) : (s.setReg off v).host = s.host := rfl
@[simp] theorem State.setReg_evt (s : State) (off : Nat) (v : Data) : (s.setReg off v).evt = s.evt := rfl
@[simp] theorem State.setReg_rings (s : State) (off : Nat) (v : Data) : (s.setReg off v).rings = s.rings := rfl
@[simp] theorem State.setReg_sched (s : State) (off : Nat) (v : Data) : (s.setReg off v).sched = s.sched := rfl
@[simp] theorem State.setReg_jr (s : State) (off : Nat) (v : Data) : (s.setReg off v).jr = s.jr := rfl
@[simp] theorem State.setReg_clk (s : State) (off : Nat) (v : Data) : (s.setReg off v).clk = s.clk := rfl
@[simp] theorem State.setReg_pwr (s : State) (off : Nat) (v : Data) : (s.setReg off v).pwr = s.pwr := rfl
@[simp] theorem State.setReg_pins (s : State) (off : Nat) (v : Data) : (s.setReg off v).pins = s.pins := rfl
@[simp] theorem State.setReg_sup (s : State) (off : Nat) (v : Data) : (s.setReg off v).sup = s.sup := rfl
@[simp] theorem State.setReg_cores (s : State) (off : Nat) (v : Data) : (s.setReg off v).cores = s.cores := rfl
@[simp] theorem State.setReg_jtag (s : State) (off : Nat) (v : Data) : (s.setReg off v).jtag = s.jtag := rfl
@[simp] theorem State.setReg_sec (s : State) (off : Nat) (v : Data) : (s.setReg off v).sec = s.sec := rfl
@[simp] theorem State.setReg_store (s : State) (off : Nat) (v : Data) : (s.setReg off v).store = s.store := rfl
@[simp] theorem State.setReg_fuses (s : State) (off : Nat) (v : Data) : (s.setReg off v).fuses = s.fuses := rfl
@[simp] theorem State.setReg_thm (s : State) (off : Nat) (v : Data) : (s.setReg off v).thm = s.thm := rfl
@[simp] theorem State.setReg_cap (s : State) (off : Nat) (v : Data) : (s.setReg off v).cap = s.cap := rfl
@[simp] theorem State.setReg_ply (s : State) (off : Nat) (v : Data) : (s.setReg off v).ply = s.ply := rfl
@[simp] theorem State.setReg_eng (s : State) (off : Nat) (v : Data) : (s.setReg off v).eng = s.eng := rfl
@[simp] theorem State.setReg_oas (s : State) (off : Nat) (v : Data) : (s.setReg off v).oas = s.oas := rfl
@[simp] theorem State.setReg_ctl (s : State) (off : Nat) (v : Data) : (s.setReg off v).ctl = s.ctl := rfl
@[simp] theorem State.setReg_mem (s : State) (off : Nat) (v : Data) : (s.setReg off v).mem = s.mem := rfl
@[simp] theorem State.setReg_net (s : State) (off : Nat) (v : Data) : (s.setReg off v).net = s.net := rfl
@[simp] theorem State.setReg_freeCtr (s : State) (off : Nat) (v : Data) : (s.setReg off v).freeCtr = s.freeCtr := rfl
@[simp] theorem State.setReg_pending (s : State) (off : Nat) (v : Data) : (s.setReg off v).pending = s.pending := rfl

@[simp] theorem State.setFld_variant (s : State) (off : Nat) (f : Fld) (x : Nat) : (s.setFld off f x).variant = s.variant := rfl
@[simp] theorem State.setFld_time (s : State) (off : Nat) (f : Fld) (x : Nat) : (s.setFld off f x).time = s.time := rfl
@[simp] theorem State.setFld_fab (s : State) (off : Nat) (f : Fld) (x : Nat) : (s.setFld off f x).fab = s.fab := rfl
@[simp] theorem State.setFld_lanes (s : State) (off : Nat) (f : Fld) (x : Nat) : (s.setFld off f x).lanes = s.lanes := rfl
@[simp] theorem State.setFld_gio (s : State) (off : Nat) (f : Fld) (x : Nat) : (s.setFld off f x).gio = s.gio := rfl
@[simp] theorem State.setFld_host (s : State) (off : Nat) (f : Fld) (x : Nat) : (s.setFld off f x).host = s.host := rfl
@[simp] theorem State.setFld_evt (s : State) (off : Nat) (f : Fld) (x : Nat) : (s.setFld off f x).evt = s.evt := rfl
@[simp] theorem State.setFld_rings (s : State) (off : Nat) (f : Fld) (x : Nat) : (s.setFld off f x).rings = s.rings := rfl
@[simp] theorem State.setFld_sched (s : State) (off : Nat) (f : Fld) (x : Nat) : (s.setFld off f x).sched = s.sched := rfl
@[simp] theorem State.setFld_jr (s : State) (off : Nat) (f : Fld) (x : Nat) : (s.setFld off f x).jr = s.jr := rfl
@[simp] theorem State.setFld_clk (s : State) (off : Nat) (f : Fld) (x : Nat) : (s.setFld off f x).clk = s.clk := rfl
@[simp] theorem State.setFld_pwr (s : State) (off : Nat) (f : Fld) (x : Nat) : (s.setFld off f x).pwr = s.pwr := rfl
@[simp] theorem State.setFld_pins (s : State) (off : Nat) (f : Fld) (x : Nat) : (s.setFld off f x).pins = s.pins := rfl
@[simp] theorem State.setFld_sup (s : State) (off : Nat) (f : Fld) (x : Nat) : (s.setFld off f x).sup = s.sup := rfl
@[simp] theorem State.setFld_cores (s : State) (off : Nat) (f : Fld) (x : Nat) : (s.setFld off f x).cores = s.cores := rfl
@[simp] theorem State.setFld_jtag (s : State) (off : Nat) (f : Fld) (x : Nat) : (s.setFld off f x).jtag = s.jtag := rfl
@[simp] theorem State.setFld_sec (s : State) (off : Nat) (f : Fld) (x : Nat) : (s.setFld off f x).sec = s.sec := rfl
@[simp] theorem State.setFld_store (s : State) (off : Nat) (f : Fld) (x : Nat) : (s.setFld off f x).store = s.store := rfl
@[simp] theorem State.setFld_fuses (s : State) (off : Nat) (f : Fld) (x : Nat) : (s.setFld off f x).fuses = s.fuses := rfl
@[simp] theorem State.setFld_thm (s : State) (off : Nat) (f : Fld) (x : Nat) : (s.setFld off f x).thm = s.thm := rfl
@[simp] theorem State.setFld_cap (s : State) (off : Nat) (f : Fld) (x : Nat) : (s.setFld off f x).cap = s.cap := rfl
@[simp] theorem State.setFld_ply (s : State) (off : Nat) (f : Fld) (x : Nat) : (s.setFld off f x).ply = s.ply := rfl
@[simp] theorem State.setFld_eng (s : State) (off : Nat) (f : Fld) (x : Nat) : (s.setFld off f x).eng = s.eng := rfl
@[simp] theorem State.setFld_oas (s : State) (off : Nat) (f : Fld) (x : Nat) : (s.setFld off f x).oas = s.oas := rfl
@[simp] theorem State.setFld_ctl (s : State) (off : Nat) (f : Fld) (x : Nat) : (s.setFld off f x).ctl = s.ctl := rfl
@[simp] theorem State.setFld_mem (s : State) (off : Nat) (f : Fld) (x : Nat) : (s.setFld off f x).mem = s.mem := rfl
@[simp] theorem State.setFld_net (s : State) (off : Nat) (f : Fld) (x : Nat) : (s.setFld off f x).net = s.net := rfl
@[simp] theorem State.setFld_freeCtr (s : State) (off : Nat) (f : Fld) (x : Nat) : (s.setFld off f x).freeCtr = s.freeCtr := rfl
@[simp] theorem State.setFld_pending (s : State) (off : Nat) (f : Fld) (x : Nat) : (s.setFld off f x).pending = s.pending := rfl

@[simp] theorem State.setFlds_variant (s : State) (off : Nat) (l : List (Fld × Nat)) : (s.setFlds off l).variant = s.variant := rfl
@[simp] theorem State.setFlds_time (s : State) (off : Nat) (l : List (Fld × Nat)) : (s.setFlds off l).time = s.time := rfl
@[simp] theorem State.setFlds_fab (s : State) (off : Nat) (l : List (Fld × Nat)) : (s.setFlds off l).fab = s.fab := rfl
@[simp] theorem State.setFlds_lanes (s : State) (off : Nat) (l : List (Fld × Nat)) : (s.setFlds off l).lanes = s.lanes := rfl
@[simp] theorem State.setFlds_gio (s : State) (off : Nat) (l : List (Fld × Nat)) : (s.setFlds off l).gio = s.gio := rfl
@[simp] theorem State.setFlds_host (s : State) (off : Nat) (l : List (Fld × Nat)) : (s.setFlds off l).host = s.host := rfl
@[simp] theorem State.setFlds_evt (s : State) (off : Nat) (l : List (Fld × Nat)) : (s.setFlds off l).evt = s.evt := rfl
@[simp] theorem State.setFlds_rings (s : State) (off : Nat) (l : List (Fld × Nat)) : (s.setFlds off l).rings = s.rings := rfl
@[simp] theorem State.setFlds_sched (s : State) (off : Nat) (l : List (Fld × Nat)) : (s.setFlds off l).sched = s.sched := rfl
@[simp] theorem State.setFlds_jr (s : State) (off : Nat) (l : List (Fld × Nat)) : (s.setFlds off l).jr = s.jr := rfl
@[simp] theorem State.setFlds_clk (s : State) (off : Nat) (l : List (Fld × Nat)) : (s.setFlds off l).clk = s.clk := rfl
@[simp] theorem State.setFlds_pwr (s : State) (off : Nat) (l : List (Fld × Nat)) : (s.setFlds off l).pwr = s.pwr := rfl
@[simp] theorem State.setFlds_pins (s : State) (off : Nat) (l : List (Fld × Nat)) : (s.setFlds off l).pins = s.pins := rfl
@[simp] theorem State.setFlds_sup (s : State) (off : Nat) (l : List (Fld × Nat)) : (s.setFlds off l).sup = s.sup := rfl
@[simp] theorem State.setFlds_cores (s : State) (off : Nat) (l : List (Fld × Nat)) : (s.setFlds off l).cores = s.cores := rfl
@[simp] theorem State.setFlds_jtag (s : State) (off : Nat) (l : List (Fld × Nat)) : (s.setFlds off l).jtag = s.jtag := rfl
@[simp] theorem State.setFlds_sec (s : State) (off : Nat) (l : List (Fld × Nat)) : (s.setFlds off l).sec = s.sec := rfl
@[simp] theorem State.setFlds_store (s : State) (off : Nat) (l : List (Fld × Nat)) : (s.setFlds off l).store = s.store := rfl
@[simp] theorem State.setFlds_fuses (s : State) (off : Nat) (l : List (Fld × Nat)) : (s.setFlds off l).fuses = s.fuses := rfl
@[simp] theorem State.setFlds_thm (s : State) (off : Nat) (l : List (Fld × Nat)) : (s.setFlds off l).thm = s.thm := rfl
@[simp] theorem State.setFlds_cap (s : State) (off : Nat) (l : List (Fld × Nat)) : (s.setFlds off l).cap = s.cap := rfl
@[simp] theorem State.setFlds_ply (s : State) (off : Nat) (l : List (Fld × Nat)) : (s.setFlds off l).ply = s.ply := rfl
@[simp] theorem State.setFlds_eng (s : State) (off : Nat) (l : List (Fld × Nat)) : (s.setFlds off l).eng = s.eng := rfl
@[simp] theorem State.setFlds_oas (s : State) (off : Nat) (l : List (Fld × Nat)) : (s.setFlds off l).oas = s.oas := rfl
@[simp] theorem State.setFlds_ctl (s : State) (off : Nat) (l : List (Fld × Nat)) : (s.setFlds off l).ctl = s.ctl := rfl
@[simp] theorem State.setFlds_mem (s : State) (off : Nat) (l : List (Fld × Nat)) : (s.setFlds off l).mem = s.mem := rfl
@[simp] theorem State.setFlds_net (s : State) (off : Nat) (l : List (Fld × Nat)) : (s.setFlds off l).net = s.net := rfl
@[simp] theorem State.setFlds_freeCtr (s : State) (off : Nat) (l : List (Fld × Nat)) : (s.setFlds off l).freeCtr = s.freeCtr := rfl
@[simp] theorem State.setFlds_pending (s : State) (off : Nat) (l : List (Fld × Nat)) : (s.setFlds off l).pending = s.pending := rfl

@[simp] theorem State.satFld_variant (s : State) (off : Nat) (f : Fld) (n : Nat) : (s.satFld off f n).variant = s.variant := rfl
@[simp] theorem State.satFld_time (s : State) (off : Nat) (f : Fld) (n : Nat) : (s.satFld off f n).time = s.time := rfl
@[simp] theorem State.satFld_fab (s : State) (off : Nat) (f : Fld) (n : Nat) : (s.satFld off f n).fab = s.fab := rfl
@[simp] theorem State.satFld_lanes (s : State) (off : Nat) (f : Fld) (n : Nat) : (s.satFld off f n).lanes = s.lanes := rfl
@[simp] theorem State.satFld_gio (s : State) (off : Nat) (f : Fld) (n : Nat) : (s.satFld off f n).gio = s.gio := rfl
@[simp] theorem State.satFld_host (s : State) (off : Nat) (f : Fld) (n : Nat) : (s.satFld off f n).host = s.host := rfl
@[simp] theorem State.satFld_evt (s : State) (off : Nat) (f : Fld) (n : Nat) : (s.satFld off f n).evt = s.evt := rfl
@[simp] theorem State.satFld_rings (s : State) (off : Nat) (f : Fld) (n : Nat) : (s.satFld off f n).rings = s.rings := rfl
@[simp] theorem State.satFld_sched (s : State) (off : Nat) (f : Fld) (n : Nat) : (s.satFld off f n).sched = s.sched := rfl
@[simp] theorem State.satFld_jr (s : State) (off : Nat) (f : Fld) (n : Nat) : (s.satFld off f n).jr = s.jr := rfl
@[simp] theorem State.satFld_clk (s : State) (off : Nat) (f : Fld) (n : Nat) : (s.satFld off f n).clk = s.clk := rfl
@[simp] theorem State.satFld_pwr (s : State) (off : Nat) (f : Fld) (n : Nat) : (s.satFld off f n).pwr = s.pwr := rfl
@[simp] theorem State.satFld_pins (s : State) (off : Nat) (f : Fld) (n : Nat) : (s.satFld off f n).pins = s.pins := rfl
@[simp] theorem State.satFld_sup (s : State) (off : Nat) (f : Fld) (n : Nat) : (s.satFld off f n).sup = s.sup := rfl
@[simp] theorem State.satFld_cores (s : State) (off : Nat) (f : Fld) (n : Nat) : (s.satFld off f n).cores = s.cores := rfl
@[simp] theorem State.satFld_jtag (s : State) (off : Nat) (f : Fld) (n : Nat) : (s.satFld off f n).jtag = s.jtag := rfl
@[simp] theorem State.satFld_sec (s : State) (off : Nat) (f : Fld) (n : Nat) : (s.satFld off f n).sec = s.sec := rfl
@[simp] theorem State.satFld_store (s : State) (off : Nat) (f : Fld) (n : Nat) : (s.satFld off f n).store = s.store := rfl
@[simp] theorem State.satFld_fuses (s : State) (off : Nat) (f : Fld) (n : Nat) : (s.satFld off f n).fuses = s.fuses := rfl
@[simp] theorem State.satFld_thm (s : State) (off : Nat) (f : Fld) (n : Nat) : (s.satFld off f n).thm = s.thm := rfl
@[simp] theorem State.satFld_cap (s : State) (off : Nat) (f : Fld) (n : Nat) : (s.satFld off f n).cap = s.cap := rfl
@[simp] theorem State.satFld_ply (s : State) (off : Nat) (f : Fld) (n : Nat) : (s.satFld off f n).ply = s.ply := rfl
@[simp] theorem State.satFld_eng (s : State) (off : Nat) (f : Fld) (n : Nat) : (s.satFld off f n).eng = s.eng := rfl
@[simp] theorem State.satFld_oas (s : State) (off : Nat) (f : Fld) (n : Nat) : (s.satFld off f n).oas = s.oas := rfl
@[simp] theorem State.satFld_ctl (s : State) (off : Nat) (f : Fld) (n : Nat) : (s.satFld off f n).ctl = s.ctl := rfl
@[simp] theorem State.satFld_mem (s : State) (off : Nat) (f : Fld) (n : Nat) : (s.satFld off f n).mem = s.mem := rfl
@[simp] theorem State.satFld_net (s : State) (off : Nat) (f : Fld) (n : Nat) : (s.satFld off f n).net = s.net := rfl
@[simp] theorem State.satFld_freeCtr (s : State) (off : Nat) (f : Fld) (n : Nat) : (s.satFld off f n).freeCtr = s.freeCtr := rfl
@[simp] theorem State.satFld_pending (s : State) (off : Nat) (f : Fld) (n : Nat) : (s.satFld off f n).pending = s.pending := rfl

@[simp] theorem State.wrapFld_variant (s : State) (off : Nat) (f : Fld) (n : Nat) : (s.wrapFld off f n).variant = s.variant := rfl
@[simp] theorem State.wrapFld_time (s : State) (off : Nat) (f : Fld) (n : Nat) : (s.wrapFld off f n).time = s.time := rfl
@[simp] theorem State.wrapFld_fab (s : State) (off : Nat) (f : Fld) (n : Nat) : (s.wrapFld off f n).fab = s.fab := rfl
@[simp] theorem State.wrapFld_lanes (s : State) (off : Nat) (f : Fld) (n : Nat) : (s.wrapFld off f n).lanes = s.lanes := rfl
@[simp] theorem State.wrapFld_gio (s : State) (off : Nat) (f : Fld) (n : Nat) : (s.wrapFld off f n).gio = s.gio := rfl
@[simp] theorem State.wrapFld_host (s : State) (off : Nat) (f : Fld) (n : Nat) : (s.wrapFld off f n).host = s.host := rfl
@[simp] theorem State.wrapFld_evt (s : State) (off : Nat) (f : Fld) (n : Nat) : (s.wrapFld off f n).evt = s.evt := rfl
@[simp] theorem State.wrapFld_rings (s : State) (off : Nat) (f : Fld) (n : Nat) : (s.wrapFld off f n).rings = s.rings := rfl
@[simp] theorem State.wrapFld_sched (s : State) (off : Nat) (f : Fld) (n : Nat) : (s.wrapFld off f n).sched = s.sched := rfl
@[simp] theorem State.wrapFld_jr (s : State) (off : Nat) (f : Fld) (n : Nat) : (s.wrapFld off f n).jr = s.jr := rfl
@[simp] theorem State.wrapFld_clk (s : State) (off : Nat) (f : Fld) (n : Nat) : (s.wrapFld off f n).clk = s.clk := rfl
@[simp] theorem State.wrapFld_pwr (s : State) (off : Nat) (f : Fld) (n : Nat) : (s.wrapFld off f n).pwr = s.pwr := rfl
@[simp] theorem State.wrapFld_pins (s : State) (off : Nat) (f : Fld) (n : Nat) : (s.wrapFld off f n).pins = s.pins := rfl
@[simp] theorem State.wrapFld_sup (s : State) (off : Nat) (f : Fld) (n : Nat) : (s.wrapFld off f n).sup = s.sup := rfl
@[simp] theorem State.wrapFld_cores (s : State) (off : Nat) (f : Fld) (n : Nat) : (s.wrapFld off f n).cores = s.cores := rfl
@[simp] theorem State.wrapFld_jtag (s : State) (off : Nat) (f : Fld) (n : Nat) : (s.wrapFld off f n).jtag = s.jtag := rfl
@[simp] theorem State.wrapFld_sec (s : State) (off : Nat) (f : Fld) (n : Nat) : (s.wrapFld off f n).sec = s.sec := rfl
@[simp] theorem State.wrapFld_store (s : State) (off : Nat) (f : Fld) (n : Nat) : (s.wrapFld off f n).store = s.store := rfl
@[simp] theorem State.wrapFld_fuses (s : State) (off : Nat) (f : Fld) (n : Nat) : (s.wrapFld off f n).fuses = s.fuses := rfl
@[simp] theorem State.wrapFld_thm (s : State) (off : Nat) (f : Fld) (n : Nat) : (s.wrapFld off f n).thm = s.thm := rfl
@[simp] theorem State.wrapFld_cap (s : State) (off : Nat) (f : Fld) (n : Nat) : (s.wrapFld off f n).cap = s.cap := rfl
@[simp] theorem State.wrapFld_ply (s : State) (off : Nat) (f : Fld) (n : Nat) : (s.wrapFld off f n).ply = s.ply := rfl
@[simp] theorem State.wrapFld_eng (s : State) (off : Nat) (f : Fld) (n : Nat) : (s.wrapFld off f n).eng = s.eng := rfl
@[simp] theorem State.wrapFld_oas (s : State) (off : Nat) (f : Fld) (n : Nat) : (s.wrapFld off f n).oas = s.oas := rfl
@[simp] theorem State.wrapFld_ctl (s : State) (off : Nat) (f : Fld) (n : Nat) : (s.wrapFld off f n).ctl = s.ctl := rfl
@[simp] theorem State.wrapFld_mem (s : State) (off : Nat) (f : Fld) (n : Nat) : (s.wrapFld off f n).mem = s.mem := rfl
@[simp] theorem State.wrapFld_net (s : State) (off : Nat) (f : Fld) (n : Nat) : (s.wrapFld off f n).net = s.net := rfl
@[simp] theorem State.wrapFld_freeCtr (s : State) (off : Nat) (f : Fld) (n : Nat) : (s.wrapFld off f n).freeCtr = s.freeCtr := rfl
@[simp] theorem State.wrapFld_pending (s : State) (off : Nat) (f : Fld) (n : Nat) : (s.wrapFld off f n).pending = s.pending := rfl

@[simp] theorem State.resetReg_variant (s : State) (off : Nat) : (s.resetReg off).variant = s.variant := rfl
@[simp] theorem State.resetReg_time (s : State) (off : Nat) : (s.resetReg off).time = s.time := rfl
@[simp] theorem State.resetReg_fab (s : State) (off : Nat) : (s.resetReg off).fab = s.fab := rfl
@[simp] theorem State.resetReg_lanes (s : State) (off : Nat) : (s.resetReg off).lanes = s.lanes := rfl
@[simp] theorem State.resetReg_gio (s : State) (off : Nat) : (s.resetReg off).gio = s.gio := rfl
@[simp] theorem State.resetReg_host (s : State) (off : Nat) : (s.resetReg off).host = s.host := rfl
@[simp] theorem State.resetReg_evt (s : State) (off : Nat) : (s.resetReg off).evt = s.evt := rfl
@[simp] theorem State.resetReg_rings (s : State) (off : Nat) : (s.resetReg off).rings = s.rings := rfl
@[simp] theorem State.resetReg_sched (s : State) (off : Nat) : (s.resetReg off).sched = s.sched := rfl
@[simp] theorem State.resetReg_jr (s : State) (off : Nat) : (s.resetReg off).jr = s.jr := rfl
@[simp] theorem State.resetReg_clk (s : State) (off : Nat) : (s.resetReg off).clk = s.clk := rfl
@[simp] theorem State.resetReg_pwr (s : State) (off : Nat) : (s.resetReg off).pwr = s.pwr := rfl
@[simp] theorem State.resetReg_pins (s : State) (off : Nat) : (s.resetReg off).pins = s.pins := rfl
@[simp] theorem State.resetReg_sup (s : State) (off : Nat) : (s.resetReg off).sup = s.sup := rfl
@[simp] theorem State.resetReg_cores (s : State) (off : Nat) : (s.resetReg off).cores = s.cores := rfl
@[simp] theorem State.resetReg_jtag (s : State) (off : Nat) : (s.resetReg off).jtag = s.jtag := rfl
@[simp] theorem State.resetReg_sec (s : State) (off : Nat) : (s.resetReg off).sec = s.sec := rfl
@[simp] theorem State.resetReg_store (s : State) (off : Nat) : (s.resetReg off).store = s.store := rfl
@[simp] theorem State.resetReg_fuses (s : State) (off : Nat) : (s.resetReg off).fuses = s.fuses := rfl
@[simp] theorem State.resetReg_thm (s : State) (off : Nat) : (s.resetReg off).thm = s.thm := rfl
@[simp] theorem State.resetReg_cap (s : State) (off : Nat) : (s.resetReg off).cap = s.cap := rfl
@[simp] theorem State.resetReg_ply (s : State) (off : Nat) : (s.resetReg off).ply = s.ply := rfl
@[simp] theorem State.resetReg_eng (s : State) (off : Nat) : (s.resetReg off).eng = s.eng := rfl
@[simp] theorem State.resetReg_oas (s : State) (off : Nat) : (s.resetReg off).oas = s.oas := rfl
@[simp] theorem State.resetReg_ctl (s : State) (off : Nat) : (s.resetReg off).ctl = s.ctl := rfl
@[simp] theorem State.resetReg_mem (s : State) (off : Nat) : (s.resetReg off).mem = s.mem := rfl
@[simp] theorem State.resetReg_net (s : State) (off : Nat) : (s.resetReg off).net = s.net := rfl
@[simp] theorem State.resetReg_freeCtr (s : State) (off : Nat) : (s.resetReg off).freeCtr = s.freeCtr := rfl
@[simp] theorem State.resetReg_pending (s : State) (off : Nat) : (s.resetReg off).pending = s.pending := rfl

@[simp] theorem State.spend_variant (s : State) (n : Nat) : (s.spend n).variant = s.variant := rfl
@[simp] theorem State.spend_regs (s : State) (n : Nat) : (s.spend n).regs = s.regs := rfl
@[simp] theorem State.spend_time (s : State) (n : Nat) : (s.spend n).time = s.time := rfl
@[simp] theorem State.spend_fab (s : State) (n : Nat) : (s.spend n).fab = s.fab := rfl
@[simp] theorem State.spend_lanes (s : State) (n : Nat) : (s.spend n).lanes = s.lanes := rfl
@[simp] theorem State.spend_gio (s : State) (n : Nat) : (s.spend n).gio = s.gio := rfl
@[simp] theorem State.spend_host (s : State) (n : Nat) : (s.spend n).host = s.host := rfl
@[simp] theorem State.spend_evt (s : State) (n : Nat) : (s.spend n).evt = s.evt := rfl
@[simp] theorem State.spend_rings (s : State) (n : Nat) : (s.spend n).rings = s.rings := rfl
@[simp] theorem State.spend_sched (s : State) (n : Nat) : (s.spend n).sched = s.sched := rfl
@[simp] theorem State.spend_jr (s : State) (n : Nat) : (s.spend n).jr = s.jr := rfl
@[simp] theorem State.spend_clk (s : State) (n : Nat) : (s.spend n).clk = s.clk := rfl
@[simp] theorem State.spend_pwr (s : State) (n : Nat) : (s.spend n).pwr = s.pwr := rfl
@[simp] theorem State.spend_pins (s : State) (n : Nat) : (s.spend n).pins = s.pins := rfl
@[simp] theorem State.spend_sup (s : State) (n : Nat) : (s.spend n).sup = s.sup := rfl
@[simp] theorem State.spend_cores (s : State) (n : Nat) : (s.spend n).cores = s.cores := rfl
@[simp] theorem State.spend_jtag (s : State) (n : Nat) : (s.spend n).jtag = s.jtag := rfl
@[simp] theorem State.spend_sec (s : State) (n : Nat) : (s.spend n).sec = s.sec := rfl
@[simp] theorem State.spend_store (s : State) (n : Nat) : (s.spend n).store = s.store := rfl
@[simp] theorem State.spend_fuses (s : State) (n : Nat) : (s.spend n).fuses = s.fuses := rfl
@[simp] theorem State.spend_thm (s : State) (n : Nat) : (s.spend n).thm = s.thm := rfl
@[simp] theorem State.spend_cap (s : State) (n : Nat) : (s.spend n).cap = s.cap := rfl
@[simp] theorem State.spend_ply (s : State) (n : Nat) : (s.spend n).ply = s.ply := rfl
@[simp] theorem State.spend_eng (s : State) (n : Nat) : (s.spend n).eng = s.eng := rfl
@[simp] theorem State.spend_oas (s : State) (n : Nat) : (s.spend n).oas = s.oas := rfl
@[simp] theorem State.spend_ctl (s : State) (n : Nat) : (s.spend n).ctl = s.ctl := rfl
@[simp] theorem State.spend_mem (s : State) (n : Nat) : (s.spend n).mem = s.mem := rfl
@[simp] theorem State.spend_net (s : State) (n : Nat) : (s.spend n).net = s.net := rfl
@[simp] theorem State.spend_pending (s : State) (n : Nat) : (s.spend n).pending = s.pending := rfl

@[simp] theorem State.putHost_variant (s : State) (a : Nat) (b : List Byte) : (s.putHost a b).variant = s.variant := rfl
@[simp] theorem State.putHost_regs (s : State) (a : Nat) (b : List Byte) : (s.putHost a b).regs = s.regs := rfl
@[simp] theorem State.putHost_time (s : State) (a : Nat) (b : List Byte) : (s.putHost a b).time = s.time := rfl
@[simp] theorem State.putHost_fab (s : State) (a : Nat) (b : List Byte) : (s.putHost a b).fab = s.fab := rfl
@[simp] theorem State.putHost_lanes (s : State) (a : Nat) (b : List Byte) : (s.putHost a b).lanes = s.lanes := rfl
@[simp] theorem State.putHost_gio (s : State) (a : Nat) (b : List Byte) : (s.putHost a b).gio = s.gio := rfl
@[simp] theorem State.putHost_evt (s : State) (a : Nat) (b : List Byte) : (s.putHost a b).evt = s.evt := rfl
@[simp] theorem State.putHost_rings (s : State) (a : Nat) (b : List Byte) : (s.putHost a b).rings = s.rings := rfl
@[simp] theorem State.putHost_sched (s : State) (a : Nat) (b : List Byte) : (s.putHost a b).sched = s.sched := rfl
@[simp] theorem State.putHost_jr (s : State) (a : Nat) (b : List Byte) : (s.putHost a b).jr = s.jr := rfl
@[simp] theorem State.putHost_clk (s : State) (a : Nat) (b : List Byte) : (s.putHost a b).clk = s.clk := rfl
@[simp] theorem State.putHost_pwr (s : State) (a : Nat) (b : List Byte) : (s.putHost a b).pwr = s.pwr := rfl
@[simp] theorem State.putHost_pins (s : State) (a : Nat) (b : List Byte) : (s.putHost a b).pins = s.pins := rfl
@[simp] theorem State.putHost_sup (s : State) (a : Nat) (b : List Byte) : (s.putHost a b).sup = s.sup := rfl
@[simp] theorem State.putHost_cores (s : State) (a : Nat) (b : List Byte) : (s.putHost a b).cores = s.cores := rfl
@[simp] theorem State.putHost_jtag (s : State) (a : Nat) (b : List Byte) : (s.putHost a b).jtag = s.jtag := rfl
@[simp] theorem State.putHost_sec (s : State) (a : Nat) (b : List Byte) : (s.putHost a b).sec = s.sec := rfl
@[simp] theorem State.putHost_store (s : State) (a : Nat) (b : List Byte) : (s.putHost a b).store = s.store := rfl
@[simp] theorem State.putHost_fuses (s : State) (a : Nat) (b : List Byte) : (s.putHost a b).fuses = s.fuses := rfl
@[simp] theorem State.putHost_thm (s : State) (a : Nat) (b : List Byte) : (s.putHost a b).thm = s.thm := rfl
@[simp] theorem State.putHost_cap (s : State) (a : Nat) (b : List Byte) : (s.putHost a b).cap = s.cap := rfl
@[simp] theorem State.putHost_ply (s : State) (a : Nat) (b : List Byte) : (s.putHost a b).ply = s.ply := rfl
@[simp] theorem State.putHost_eng (s : State) (a : Nat) (b : List Byte) : (s.putHost a b).eng = s.eng := rfl
@[simp] theorem State.putHost_oas (s : State) (a : Nat) (b : List Byte) : (s.putHost a b).oas = s.oas := rfl
@[simp] theorem State.putHost_ctl (s : State) (a : Nat) (b : List Byte) : (s.putHost a b).ctl = s.ctl := rfl
@[simp] theorem State.putHost_mem (s : State) (a : Nat) (b : List Byte) : (s.putHost a b).mem = s.mem := rfl
@[simp] theorem State.putHost_net (s : State) (a : Nat) (b : List Byte) : (s.putHost a b).net = s.net := rfl
@[simp] theorem State.putHost_freeCtr (s : State) (a : Nat) (b : List Byte) : (s.putHost a b).freeCtr = s.freeCtr := rfl
@[simp] theorem State.putHost_pending (s : State) (a : Nat) (b : List Byte) : (s.putHost a b).pending = s.pending := rfl

@[simp] theorem State.hostOwn_variant (s : State) (hw : List (Nat × Byte)) : (s.hostOwn hw).variant = s.variant := rfl
@[simp] theorem State.hostOwn_regs (s : State) (hw : List (Nat × Byte)) : (s.hostOwn hw).regs = s.regs := rfl
@[simp] theorem State.hostOwn_time (s : State) (hw : List (Nat × Byte)) : (s.hostOwn hw).time = s.time := rfl
@[simp] theorem State.hostOwn_fab (s : State) (hw : List (Nat × Byte)) : (s.hostOwn hw).fab = s.fab := rfl
@[simp] theorem State.hostOwn_lanes (s : State) (hw : List (Nat × Byte)) : (s.hostOwn hw).lanes = s.lanes := rfl
@[simp] theorem State.hostOwn_gio (s : State) (hw : List (Nat × Byte)) : (s.hostOwn hw).gio = s.gio := rfl
@[simp] theorem State.hostOwn_evt (s : State) (hw : List (Nat × Byte)) : (s.hostOwn hw).evt = s.evt := rfl
@[simp] theorem State.hostOwn_rings (s : State) (hw : List (Nat × Byte)) : (s.hostOwn hw).rings = s.rings := rfl
@[simp] theorem State.hostOwn_sched (s : State) (hw : List (Nat × Byte)) : (s.hostOwn hw).sched = s.sched := rfl
@[simp] theorem State.hostOwn_jr (s : State) (hw : List (Nat × Byte)) : (s.hostOwn hw).jr = s.jr := rfl
@[simp] theorem State.hostOwn_clk (s : State) (hw : List (Nat × Byte)) : (s.hostOwn hw).clk = s.clk := rfl
@[simp] theorem State.hostOwn_pwr (s : State) (hw : List (Nat × Byte)) : (s.hostOwn hw).pwr = s.pwr := rfl
@[simp] theorem State.hostOwn_pins (s : State) (hw : List (Nat × Byte)) : (s.hostOwn hw).pins = s.pins := rfl
@[simp] theorem State.hostOwn_sup (s : State) (hw : List (Nat × Byte)) : (s.hostOwn hw).sup = s.sup := rfl
@[simp] theorem State.hostOwn_cores (s : State) (hw : List (Nat × Byte)) : (s.hostOwn hw).cores = s.cores := rfl
@[simp] theorem State.hostOwn_jtag (s : State) (hw : List (Nat × Byte)) : (s.hostOwn hw).jtag = s.jtag := rfl
@[simp] theorem State.hostOwn_sec (s : State) (hw : List (Nat × Byte)) : (s.hostOwn hw).sec = s.sec := rfl
@[simp] theorem State.hostOwn_store (s : State) (hw : List (Nat × Byte)) : (s.hostOwn hw).store = s.store := rfl
@[simp] theorem State.hostOwn_fuses (s : State) (hw : List (Nat × Byte)) : (s.hostOwn hw).fuses = s.fuses := rfl
@[simp] theorem State.hostOwn_thm (s : State) (hw : List (Nat × Byte)) : (s.hostOwn hw).thm = s.thm := rfl
@[simp] theorem State.hostOwn_cap (s : State) (hw : List (Nat × Byte)) : (s.hostOwn hw).cap = s.cap := rfl
@[simp] theorem State.hostOwn_ply (s : State) (hw : List (Nat × Byte)) : (s.hostOwn hw).ply = s.ply := rfl
@[simp] theorem State.hostOwn_eng (s : State) (hw : List (Nat × Byte)) : (s.hostOwn hw).eng = s.eng := rfl
@[simp] theorem State.hostOwn_oas (s : State) (hw : List (Nat × Byte)) : (s.hostOwn hw).oas = s.oas := rfl
@[simp] theorem State.hostOwn_ctl (s : State) (hw : List (Nat × Byte)) : (s.hostOwn hw).ctl = s.ctl := rfl
@[simp] theorem State.hostOwn_mem (s : State) (hw : List (Nat × Byte)) : (s.hostOwn hw).mem = s.mem := rfl
@[simp] theorem State.hostOwn_net (s : State) (hw : List (Nat × Byte)) : (s.hostOwn hw).net = s.net := rfl
@[simp] theorem State.hostOwn_freeCtr (s : State) (hw : List (Nat × Byte)) : (s.hostOwn hw).freeCtr = s.freeCtr := rfl
@[simp] theorem State.hostOwn_pending (s : State) (hw : List (Nat × Byte)) : (s.hostOwn hw).pending = s.pending := rfl

@[simp] theorem State.setDom_variant (s : State) (d : Nat) (v : DomSt) : (s.setDom d v).variant = s.variant := rfl
@[simp] theorem State.setDom_regs (s : State) (d : Nat) (v : DomSt) : (s.setDom d v).regs = s.regs := rfl
@[simp] theorem State.setDom_time (s : State) (d : Nat) (v : DomSt) : (s.setDom d v).time = s.time := rfl
@[simp] theorem State.setDom_fab (s : State) (d : Nat) (v : DomSt) : (s.setDom d v).fab = s.fab := rfl
@[simp] theorem State.setDom_lanes (s : State) (d : Nat) (v : DomSt) : (s.setDom d v).lanes = s.lanes := rfl
@[simp] theorem State.setDom_gio (s : State) (d : Nat) (v : DomSt) : (s.setDom d v).gio = s.gio := rfl
@[simp] theorem State.setDom_host (s : State) (d : Nat) (v : DomSt) : (s.setDom d v).host = s.host := rfl
@[simp] theorem State.setDom_evt (s : State) (d : Nat) (v : DomSt) : (s.setDom d v).evt = s.evt := rfl
@[simp] theorem State.setDom_rings (s : State) (d : Nat) (v : DomSt) : (s.setDom d v).rings = s.rings := rfl
@[simp] theorem State.setDom_sched (s : State) (d : Nat) (v : DomSt) : (s.setDom d v).sched = s.sched := rfl
@[simp] theorem State.setDom_jr (s : State) (d : Nat) (v : DomSt) : (s.setDom d v).jr = s.jr := rfl
@[simp] theorem State.setDom_clk (s : State) (d : Nat) (v : DomSt) : (s.setDom d v).clk = s.clk := rfl
@[simp] theorem State.setDom_pins (s : State) (d : Nat) (v : DomSt) : (s.setDom d v).pins = s.pins := rfl
@[simp] theorem State.setDom_sup (s : State) (d : Nat) (v : DomSt) : (s.setDom d v).sup = s.sup := rfl
@[simp] theorem State.setDom_cores (s : State) (d : Nat) (v : DomSt) : (s.setDom d v).cores = s.cores := rfl
@[simp] theorem State.setDom_jtag (s : State) (d : Nat) (v : DomSt) : (s.setDom d v).jtag = s.jtag := rfl
@[simp] theorem State.setDom_sec (s : State) (d : Nat) (v : DomSt) : (s.setDom d v).sec = s.sec := rfl
@[simp] theorem State.setDom_store (s : State) (d : Nat) (v : DomSt) : (s.setDom d v).store = s.store := rfl
@[simp] theorem State.setDom_fuses (s : State) (d : Nat) (v : DomSt) : (s.setDom d v).fuses = s.fuses := rfl
@[simp] theorem State.setDom_thm (s : State) (d : Nat) (v : DomSt) : (s.setDom d v).thm = s.thm := rfl
@[simp] theorem State.setDom_cap (s : State) (d : Nat) (v : DomSt) : (s.setDom d v).cap = s.cap := rfl
@[simp] theorem State.setDom_ply (s : State) (d : Nat) (v : DomSt) : (s.setDom d v).ply = s.ply := rfl
@[simp] theorem State.setDom_eng (s : State) (d : Nat) (v : DomSt) : (s.setDom d v).eng = s.eng := rfl
@[simp] theorem State.setDom_oas (s : State) (d : Nat) (v : DomSt) : (s.setDom d v).oas = s.oas := rfl
@[simp] theorem State.setDom_ctl (s : State) (d : Nat) (v : DomSt) : (s.setDom d v).ctl = s.ctl := rfl
@[simp] theorem State.setDom_mem (s : State) (d : Nat) (v : DomSt) : (s.setDom d v).mem = s.mem := rfl
@[simp] theorem State.setDom_net (s : State) (d : Nat) (v : DomSt) : (s.setDom d v).net = s.net := rfl
@[simp] theorem State.setDom_freeCtr (s : State) (d : Nat) (v : DomSt) : (s.setDom d v).freeCtr = s.freeCtr := rfl
@[simp] theorem State.setDom_pending (s : State) (d : Nat) (v : DomSt) : (s.setDom d v).pending = s.pending := rfl

@[simp] theorem State.answerReg_variant (s : State) (v : Data) : (s.answerReg v).variant = s.variant := rfl
@[simp] theorem State.answerReg_regs (s : State) (v : Data) : (s.answerReg v).regs = s.regs := rfl
@[simp] theorem State.answerReg_time (s : State) (v : Data) : (s.answerReg v).time = s.time := rfl
@[simp] theorem State.answerReg_fab (s : State) (v : Data) : (s.answerReg v).fab = s.fab := rfl
@[simp] theorem State.answerReg_lanes (s : State) (v : Data) : (s.answerReg v).lanes = s.lanes := rfl
@[simp] theorem State.answerReg_gio (s : State) (v : Data) : (s.answerReg v).gio = s.gio := rfl
@[simp] theorem State.answerReg_evt (s : State) (v : Data) : (s.answerReg v).evt = s.evt := rfl
@[simp] theorem State.answerReg_rings (s : State) (v : Data) : (s.answerReg v).rings = s.rings := rfl
@[simp] theorem State.answerReg_sched (s : State) (v : Data) : (s.answerReg v).sched = s.sched := rfl
@[simp] theorem State.answerReg_jr (s : State) (v : Data) : (s.answerReg v).jr = s.jr := rfl
@[simp] theorem State.answerReg_clk (s : State) (v : Data) : (s.answerReg v).clk = s.clk := rfl
@[simp] theorem State.answerReg_pwr (s : State) (v : Data) : (s.answerReg v).pwr = s.pwr := rfl
@[simp] theorem State.answerReg_pins (s : State) (v : Data) : (s.answerReg v).pins = s.pins := rfl
@[simp] theorem State.answerReg_sup (s : State) (v : Data) : (s.answerReg v).sup = s.sup := rfl
@[simp] theorem State.answerReg_cores (s : State) (v : Data) : (s.answerReg v).cores = s.cores := rfl
@[simp] theorem State.answerReg_jtag (s : State) (v : Data) : (s.answerReg v).jtag = s.jtag := rfl
@[simp] theorem State.answerReg_sec (s : State) (v : Data) : (s.answerReg v).sec = s.sec := rfl
@[simp] theorem State.answerReg_store (s : State) (v : Data) : (s.answerReg v).store = s.store := rfl
@[simp] theorem State.answerReg_fuses (s : State) (v : Data) : (s.answerReg v).fuses = s.fuses := rfl
@[simp] theorem State.answerReg_thm (s : State) (v : Data) : (s.answerReg v).thm = s.thm := rfl
@[simp] theorem State.answerReg_cap (s : State) (v : Data) : (s.answerReg v).cap = s.cap := rfl
@[simp] theorem State.answerReg_ply (s : State) (v : Data) : (s.answerReg v).ply = s.ply := rfl
@[simp] theorem State.answerReg_eng (s : State) (v : Data) : (s.answerReg v).eng = s.eng := rfl
@[simp] theorem State.answerReg_oas (s : State) (v : Data) : (s.answerReg v).oas = s.oas := rfl
@[simp] theorem State.answerReg_ctl (s : State) (v : Data) : (s.answerReg v).ctl = s.ctl := rfl
@[simp] theorem State.answerReg_mem (s : State) (v : Data) : (s.answerReg v).mem = s.mem := rfl
@[simp] theorem State.answerReg_net (s : State) (v : Data) : (s.answerReg v).net = s.net := rfl
@[simp] theorem State.answerReg_freeCtr (s : State) (v : Data) : (s.answerReg v).freeCtr = s.freeCtr := rfl
@[simp] theorem State.answerReg_pending (s : State) (v : Data) : (s.answerReg v).pending = s.pending := rfl

@[simp] theorem State.settle_variant (s : State)  : (s.settle).variant = s.variant := rfl
@[simp] theorem State.settle_time (s : State)  : (s.settle).time = s.time := rfl
@[simp] theorem State.settle_fab (s : State)  : (s.settle).fab = s.fab := rfl
@[simp] theorem State.settle_lanes (s : State)  : (s.settle).lanes = s.lanes := rfl
@[simp] theorem State.settle_gio (s : State)  : (s.settle).gio = s.gio := rfl
@[simp] theorem State.settle_host (s : State)  : (s.settle).host = s.host := rfl
@[simp] theorem State.settle_evt (s : State)  : (s.settle).evt = s.evt := rfl
@[simp] theorem State.settle_rings (s : State)  : (s.settle).rings = s.rings := rfl
@[simp] theorem State.settle_sched (s : State)  : (s.settle).sched = s.sched := rfl
@[simp] theorem State.settle_jr (s : State)  : (s.settle).jr = s.jr := rfl
@[simp] theorem State.settle_clk (s : State)  : (s.settle).clk = s.clk := rfl
@[simp] theorem State.settle_pwr (s : State)  : (s.settle).pwr = s.pwr := rfl
@[simp] theorem State.settle_pins (s : State)  : (s.settle).pins = s.pins := rfl
@[simp] theorem State.settle_sup (s : State)  : (s.settle).sup = s.sup := rfl
@[simp] theorem State.settle_cores (s : State)  : (s.settle).cores = s.cores := rfl
@[simp] theorem State.settle_jtag (s : State)  : (s.settle).jtag = s.jtag := rfl
@[simp] theorem State.settle_sec (s : State)  : (s.settle).sec = s.sec := rfl
@[simp] theorem State.settle_store (s : State)  : (s.settle).store = s.store := rfl
@[simp] theorem State.settle_fuses (s : State)  : (s.settle).fuses = s.fuses := rfl
@[simp] theorem State.settle_thm (s : State)  : (s.settle).thm = s.thm := rfl
@[simp] theorem State.settle_cap (s : State)  : (s.settle).cap = s.cap := rfl
@[simp] theorem State.settle_ply (s : State)  : (s.settle).ply = s.ply := rfl
@[simp] theorem State.settle_eng (s : State)  : (s.settle).eng = s.eng := rfl
@[simp] theorem State.settle_oas (s : State)  : (s.settle).oas = s.oas := rfl
@[simp] theorem State.settle_ctl (s : State)  : (s.settle).ctl = s.ctl := rfl
@[simp] theorem State.settle_mem (s : State)  : (s.settle).mem = s.mem := rfl
@[simp] theorem State.settle_net (s : State)  : (s.settle).net = s.net := rfl
@[simp] theorem State.settle_freeCtr (s : State)  : (s.settle).freeCtr = s.freeCtr := rfl
@[simp] theorem State.settle_pending (s : State)  : (s.settle).pending = s.pending := rfl

@[simp] theorem State.hostWrite_variant (s : State) (a : Nat) (b : List Byte) : (s.hostWrite a b).variant = s.variant := by
  unfold State.hostWrite; split; · rfl
  split <;> rfl
@[simp] theorem State.hostWrite_regs (s : State) (a : Nat) (b : List Byte) : (s.hostWrite a b).regs = s.regs := by
  unfold State.hostWrite; split; · rfl
  split <;> rfl
@[simp] theorem State.hostWrite_time (s : State) (a : Nat) (b : List Byte) : (s.hostWrite a b).time = s.time := by
  unfold State.hostWrite; split; · rfl
  split <;> rfl
@[simp] theorem State.hostWrite_fab (s : State) (a : Nat) (b : List Byte) : (s.hostWrite a b).fab = s.fab := by
  unfold State.hostWrite; split; · rfl
  split <;> rfl
@[simp] theorem State.hostWrite_lanes (s : State) (a : Nat) (b : List Byte) : (s.hostWrite a b).lanes = s.lanes := by
  unfold State.hostWrite; split; · rfl
  split <;> rfl
@[simp] theorem State.hostWrite_gio (s : State) (a : Nat) (b : List Byte) : (s.hostWrite a b).gio = s.gio := by
  unfold State.hostWrite; split; · rfl
  split <;> rfl
@[simp] theorem State.hostWrite_evt (s : State) (a : Nat) (b : List Byte) : (s.hostWrite a b).evt = s.evt := by
  unfold State.hostWrite; split; · rfl
  split <;> rfl
@[simp] theorem State.hostWrite_rings (s : State) (a : Nat) (b : List Byte) : (s.hostWrite a b).rings = s.rings := by
  unfold State.hostWrite; split; · rfl
  split <;> rfl
@[simp] theorem State.hostWrite_sched (s : State) (a : Nat) (b : List Byte) : (s.hostWrite a b).sched = s.sched := by
  unfold State.hostWrite; split; · rfl
  split <;> rfl
@[simp] theorem State.hostWrite_jr (s : State) (a : Nat) (b : List Byte) : (s.hostWrite a b).jr = s.jr := by
  unfold State.hostWrite; split; · rfl
  split <;> rfl
@[simp] theorem State.hostWrite_clk (s : State) (a : Nat) (b : List Byte) : (s.hostWrite a b).clk = s.clk := by
  unfold State.hostWrite; split; · rfl
  split <;> rfl
@[simp] theorem State.hostWrite_pwr (s : State) (a : Nat) (b : List Byte) : (s.hostWrite a b).pwr = s.pwr := by
  unfold State.hostWrite; split; · rfl
  split <;> rfl
@[simp] theorem State.hostWrite_pins (s : State) (a : Nat) (b : List Byte) : (s.hostWrite a b).pins = s.pins := by
  unfold State.hostWrite; split; · rfl
  split <;> rfl
@[simp] theorem State.hostWrite_sup (s : State) (a : Nat) (b : List Byte) : (s.hostWrite a b).sup = s.sup := by
  unfold State.hostWrite; split; · rfl
  split <;> rfl
@[simp] theorem State.hostWrite_cores (s : State) (a : Nat) (b : List Byte) : (s.hostWrite a b).cores = s.cores := by
  unfold State.hostWrite; split; · rfl
  split <;> rfl
@[simp] theorem State.hostWrite_jtag (s : State) (a : Nat) (b : List Byte) : (s.hostWrite a b).jtag = s.jtag := by
  unfold State.hostWrite; split; · rfl
  split <;> rfl
@[simp] theorem State.hostWrite_sec (s : State) (a : Nat) (b : List Byte) : (s.hostWrite a b).sec = s.sec := by
  unfold State.hostWrite; split; · rfl
  split <;> rfl
@[simp] theorem State.hostWrite_store (s : State) (a : Nat) (b : List Byte) : (s.hostWrite a b).store = s.store := by
  unfold State.hostWrite; split; · rfl
  split <;> rfl
@[simp] theorem State.hostWrite_fuses (s : State) (a : Nat) (b : List Byte) : (s.hostWrite a b).fuses = s.fuses := by
  unfold State.hostWrite; split; · rfl
  split <;> rfl
@[simp] theorem State.hostWrite_thm (s : State) (a : Nat) (b : List Byte) : (s.hostWrite a b).thm = s.thm := by
  unfold State.hostWrite; split; · rfl
  split <;> rfl
@[simp] theorem State.hostWrite_cap (s : State) (a : Nat) (b : List Byte) : (s.hostWrite a b).cap = s.cap := by
  unfold State.hostWrite; split; · rfl
  split <;> rfl
@[simp] theorem State.hostWrite_ply (s : State) (a : Nat) (b : List Byte) : (s.hostWrite a b).ply = s.ply := by
  unfold State.hostWrite; split; · rfl
  split <;> rfl
@[simp] theorem State.hostWrite_eng (s : State) (a : Nat) (b : List Byte) : (s.hostWrite a b).eng = s.eng := by
  unfold State.hostWrite; split; · rfl
  split <;> rfl
@[simp] theorem State.hostWrite_oas (s : State) (a : Nat) (b : List Byte) : (s.hostWrite a b).oas = s.oas := by
  unfold State.hostWrite; split; · rfl
  split <;> rfl
@[simp] theorem State.hostWrite_ctl (s : State) (a : Nat) (b : List Byte) : (s.hostWrite a b).ctl = s.ctl := by
  unfold State.hostWrite; split; · rfl
  split <;> rfl
@[simp] theorem State.hostWrite_mem (s : State) (a : Nat) (b : List Byte) : (s.hostWrite a b).mem = s.mem := by
  unfold State.hostWrite; split; · rfl
  split <;> rfl
@[simp] theorem State.hostWrite_net (s : State) (a : Nat) (b : List Byte) : (s.hostWrite a b).net = s.net := by
  unfold State.hostWrite; split; · rfl
  split <;> rfl
@[simp] theorem State.hostWrite_freeCtr (s : State) (a : Nat) (b : List Byte) : (s.hostWrite a b).freeCtr = s.freeCtr := by
  unfold State.hostWrite; split; · rfl
  split <;> rfl
@[simp] theorem State.hostWrite_pending (s : State) (a : Nat) (b : List Byte) : (s.hostWrite a b).pending = s.pending := by
  unfold State.hostWrite; split; · rfl
  split <;> rfl

@[simp] theorem State.message_variant (s : State) (v : Nat) : (s.message v).variant = s.variant := by
  unfold State.message; dsimp only; split <;> rfl
@[simp] theorem State.message_regs (s : State) (v : Nat) : (s.message v).regs = s.regs := by
  unfold State.message; dsimp only; split <;> rfl
@[simp] theorem State.message_time (s : State) (v : Nat) : (s.message v).time = s.time := by
  unfold State.message; dsimp only; split <;> rfl
@[simp] theorem State.message_fab (s : State) (v : Nat) : (s.message v).fab = s.fab := by
  unfold State.message; dsimp only; split <;> rfl
@[simp] theorem State.message_lanes (s : State) (v : Nat) : (s.message v).lanes = s.lanes := by
  unfold State.message; dsimp only; split <;> rfl
@[simp] theorem State.message_gio (s : State) (v : Nat) : (s.message v).gio = s.gio := by
  unfold State.message; dsimp only; split <;> rfl
@[simp] theorem State.message_evt (s : State) (v : Nat) : (s.message v).evt = s.evt := by
  unfold State.message; dsimp only; split <;> rfl
@[simp] theorem State.message_rings (s : State) (v : Nat) : (s.message v).rings = s.rings := by
  unfold State.message; dsimp only; split <;> rfl
@[simp] theorem State.message_sched (s : State) (v : Nat) : (s.message v).sched = s.sched := by
  unfold State.message; dsimp only; split <;> rfl
@[simp] theorem State.message_jr (s : State) (v : Nat) : (s.message v).jr = s.jr := by
  unfold State.message; dsimp only; split <;> rfl
@[simp] theorem State.message_clk (s : State) (v : Nat) : (s.message v).clk = s.clk := by
  unfold State.message; dsimp only; split <;> rfl
@[simp] theorem State.message_pwr (s : State) (v : Nat) : (s.message v).pwr = s.pwr := by
  unfold State.message; dsimp only; split <;> rfl
@[simp] theorem State.message_pins (s : State) (v : Nat) : (s.message v).pins = s.pins := by
  unfold State.message; dsimp only; split <;> rfl
@[simp] theorem State.message_sup (s : State) (v : Nat) : (s.message v).sup = s.sup := by
  unfold State.message; dsimp only; split <;> rfl
@[simp] theorem State.message_cores (s : State) (v : Nat) : (s.message v).cores = s.cores := by
  unfold State.message; dsimp only; split <;> rfl
@[simp] theorem State.message_jtag (s : State) (v : Nat) : (s.message v).jtag = s.jtag := by
  unfold State.message; dsimp only; split <;> rfl
@[simp] theorem State.message_sec (s : State) (v : Nat) : (s.message v).sec = s.sec := by
  unfold State.message; dsimp only; split <;> rfl
@[simp] theorem State.message_store (s : State) (v : Nat) : (s.message v).store = s.store := by
  unfold State.message; dsimp only; split <;> rfl
@[simp] theorem State.message_fuses (s : State) (v : Nat) : (s.message v).fuses = s.fuses := by
  unfold State.message; dsimp only; split <;> rfl
@[simp] theorem State.message_thm (s : State) (v : Nat) : (s.message v).thm = s.thm := by
  unfold State.message; dsimp only; split <;> rfl
@[simp] theorem State.message_cap (s : State) (v : Nat) : (s.message v).cap = s.cap := by
  unfold State.message; dsimp only; split <;> rfl
@[simp] theorem State.message_ply (s : State) (v : Nat) : (s.message v).ply = s.ply := by
  unfold State.message; dsimp only; split <;> rfl
@[simp] theorem State.message_eng (s : State) (v : Nat) : (s.message v).eng = s.eng := by
  unfold State.message; dsimp only; split <;> rfl
@[simp] theorem State.message_oas (s : State) (v : Nat) : (s.message v).oas = s.oas := by
  unfold State.message; dsimp only; split <;> rfl
@[simp] theorem State.message_ctl (s : State) (v : Nat) : (s.message v).ctl = s.ctl := by
  unfold State.message; dsimp only; split <;> rfl
@[simp] theorem State.message_mem (s : State) (v : Nat) : (s.message v).mem = s.mem := by
  unfold State.message; dsimp only; split <;> rfl
@[simp] theorem State.message_net (s : State) (v : Nat) : (s.message v).net = s.net := by
  unfold State.message; dsimp only; split <;> rfl
@[simp] theorem State.message_freeCtr (s : State) (v : Nat) : (s.message v).freeCtr = s.freeCtr := by
  unfold State.message; dsimp only; split <;> rfl
@[simp] theorem State.message_pending (s : State) (v : Nat) : (s.message v).pending = s.pending := by
  unfold State.message; dsimp only; split <;> rfl

@[simp] theorem State.signal_variant (s : State) (v : Nat) : (s.signal v).variant = s.variant := by
  unfold State.signal; split; · rfl
  split <;> simp
@[simp] theorem State.signal_regs (s : State) (v : Nat) : (s.signal v).regs = s.regs := by
  unfold State.signal; split; · rfl
  split <;> simp
@[simp] theorem State.signal_time (s : State) (v : Nat) : (s.signal v).time = s.time := by
  unfold State.signal; split; · rfl
  split <;> simp
@[simp] theorem State.signal_fab (s : State) (v : Nat) : (s.signal v).fab = s.fab := by
  unfold State.signal; split; · rfl
  split <;> simp
@[simp] theorem State.signal_lanes (s : State) (v : Nat) : (s.signal v).lanes = s.lanes := by
  unfold State.signal; split; · rfl
  split <;> simp
@[simp] theorem State.signal_gio (s : State) (v : Nat) : (s.signal v).gio = s.gio := by
  unfold State.signal; split; · rfl
  split <;> simp
@[simp] theorem State.signal_evt (s : State) (v : Nat) : (s.signal v).evt = s.evt := by
  unfold State.signal; split; · rfl
  split <;> simp
@[simp] theorem State.signal_rings (s : State) (v : Nat) : (s.signal v).rings = s.rings := by
  unfold State.signal; split; · rfl
  split <;> simp
@[simp] theorem State.signal_sched (s : State) (v : Nat) : (s.signal v).sched = s.sched := by
  unfold State.signal; split; · rfl
  split <;> simp
@[simp] theorem State.signal_jr (s : State) (v : Nat) : (s.signal v).jr = s.jr := by
  unfold State.signal; split; · rfl
  split <;> simp
@[simp] theorem State.signal_clk (s : State) (v : Nat) : (s.signal v).clk = s.clk := by
  unfold State.signal; split; · rfl
  split <;> simp
@[simp] theorem State.signal_pwr (s : State) (v : Nat) : (s.signal v).pwr = s.pwr := by
  unfold State.signal; split; · rfl
  split <;> simp
@[simp] theorem State.signal_pins (s : State) (v : Nat) : (s.signal v).pins = s.pins := by
  unfold State.signal; split; · rfl
  split <;> simp
@[simp] theorem State.signal_sup (s : State) (v : Nat) : (s.signal v).sup = s.sup := by
  unfold State.signal; split; · rfl
  split <;> simp
@[simp] theorem State.signal_cores (s : State) (v : Nat) : (s.signal v).cores = s.cores := by
  unfold State.signal; split; · rfl
  split <;> simp
@[simp] theorem State.signal_jtag (s : State) (v : Nat) : (s.signal v).jtag = s.jtag := by
  unfold State.signal; split; · rfl
  split <;> simp
@[simp] theorem State.signal_sec (s : State) (v : Nat) : (s.signal v).sec = s.sec := by
  unfold State.signal; split; · rfl
  split <;> simp
@[simp] theorem State.signal_store (s : State) (v : Nat) : (s.signal v).store = s.store := by
  unfold State.signal; split; · rfl
  split <;> simp
@[simp] theorem State.signal_fuses (s : State) (v : Nat) : (s.signal v).fuses = s.fuses := by
  unfold State.signal; split; · rfl
  split <;> simp
@[simp] theorem State.signal_thm (s : State) (v : Nat) : (s.signal v).thm = s.thm := by
  unfold State.signal; split; · rfl
  split <;> simp
@[simp] theorem State.signal_cap (s : State) (v : Nat) : (s.signal v).cap = s.cap := by
  unfold State.signal; split; · rfl
  split <;> simp
@[simp] theorem State.signal_ply (s : State) (v : Nat) : (s.signal v).ply = s.ply := by
  unfold State.signal; split; · rfl
  split <;> simp
@[simp] theorem State.signal_eng (s : State) (v : Nat) : (s.signal v).eng = s.eng := by
  unfold State.signal; split; · rfl
  split <;> simp
@[simp] theorem State.signal_oas (s : State) (v : Nat) : (s.signal v).oas = s.oas := by
  unfold State.signal; split; · rfl
  split <;> simp
@[simp] theorem State.signal_ctl (s : State) (v : Nat) : (s.signal v).ctl = s.ctl := by
  unfold State.signal; split; · rfl
  split <;> simp
@[simp] theorem State.signal_mem (s : State) (v : Nat) : (s.signal v).mem = s.mem := by
  unfold State.signal; split; · rfl
  split <;> simp
@[simp] theorem State.signal_net (s : State) (v : Nat) : (s.signal v).net = s.net := by
  unfold State.signal; split; · rfl
  split <;> simp
@[simp] theorem State.signal_freeCtr (s : State) (v : Nat) : (s.signal v).freeCtr = s.freeCtr := by
  unfold State.signal; split; · rfl
  split <;> simp
@[simp] theorem State.signal_pending (s : State) (v : Nat) : (s.signal v).pending = s.pending := by
  unfold State.signal; split; · rfl
  split <;> simp

@[simp] theorem State.raiseRaw_variant (s : State) (c sev die : Nat) (d : BitVec 128) : (s.raiseRaw c sev die d).variant = s.variant := by
  unfold State.raiseRaw; dsimp only; split; · split <;> simp
  rfl
@[simp] theorem State.raiseRaw_time (s : State) (c sev die : Nat) (d : BitVec 128) : (s.raiseRaw c sev die d).time = s.time := by
  unfold State.raiseRaw; dsimp only; split; · split <;> simp
  rfl
@[simp] theorem State.raiseRaw_fab (s : State) (c sev die : Nat) (d : BitVec 128) : (s.raiseRaw c sev die d).fab = s.fab := by
  unfold State.raiseRaw; dsimp only; split; · split <;> simp
  rfl
@[simp] theorem State.raiseRaw_lanes (s : State) (c sev die : Nat) (d : BitVec 128) : (s.raiseRaw c sev die d).lanes = s.lanes := by
  unfold State.raiseRaw; dsimp only; split; · split <;> simp
  rfl
@[simp] theorem State.raiseRaw_gio (s : State) (c sev die : Nat) (d : BitVec 128) : (s.raiseRaw c sev die d).gio = s.gio := by
  unfold State.raiseRaw; dsimp only; split; · split <;> simp
  rfl
@[simp] theorem State.raiseRaw_rings (s : State) (c sev die : Nat) (d : BitVec 128) : (s.raiseRaw c sev die d).rings = s.rings := by
  unfold State.raiseRaw; dsimp only; split; · split <;> simp
  rfl
@[simp] theorem State.raiseRaw_sched (s : State) (c sev die : Nat) (d : BitVec 128) : (s.raiseRaw c sev die d).sched = s.sched := by
  unfold State.raiseRaw; dsimp only; split; · split <;> simp
  rfl
@[simp] theorem State.raiseRaw_jr (s : State) (c sev die : Nat) (d : BitVec 128) : (s.raiseRaw c sev die d).jr = s.jr := by
  unfold State.raiseRaw; dsimp only; split; · split <;> simp
  rfl
@[simp] theorem State.raiseRaw_clk (s : State) (c sev die : Nat) (d : BitVec 128) : (s.raiseRaw c sev die d).clk = s.clk := by
  unfold State.raiseRaw; dsimp only; split; · split <;> simp
  rfl
@[simp] theorem State.raiseRaw_pwr (s : State) (c sev die : Nat) (d : BitVec 128) : (s.raiseRaw c sev die d).pwr = s.pwr := by
  unfold State.raiseRaw; dsimp only; split; · split <;> simp
  rfl
@[simp] theorem State.raiseRaw_pins (s : State) (c sev die : Nat) (d : BitVec 128) : (s.raiseRaw c sev die d).pins = s.pins := by
  unfold State.raiseRaw; dsimp only; split; · split <;> simp
  rfl
@[simp] theorem State.raiseRaw_sup (s : State) (c sev die : Nat) (d : BitVec 128) : (s.raiseRaw c sev die d).sup = s.sup := by
  unfold State.raiseRaw; dsimp only; split; · split <;> simp
  rfl
@[simp] theorem State.raiseRaw_cores (s : State) (c sev die : Nat) (d : BitVec 128) : (s.raiseRaw c sev die d).cores = s.cores := by
  unfold State.raiseRaw; dsimp only; split; · split <;> simp
  rfl
@[simp] theorem State.raiseRaw_jtag (s : State) (c sev die : Nat) (d : BitVec 128) : (s.raiseRaw c sev die d).jtag = s.jtag := by
  unfold State.raiseRaw; dsimp only; split; · split <;> simp
  rfl
@[simp] theorem State.raiseRaw_sec (s : State) (c sev die : Nat) (d : BitVec 128) : (s.raiseRaw c sev die d).sec = s.sec := by
  unfold State.raiseRaw; dsimp only; split; · split <;> simp
  rfl
@[simp] theorem State.raiseRaw_store (s : State) (c sev die : Nat) (d : BitVec 128) : (s.raiseRaw c sev die d).store = s.store := by
  unfold State.raiseRaw; dsimp only; split; · split <;> simp
  rfl
@[simp] theorem State.raiseRaw_fuses (s : State) (c sev die : Nat) (d : BitVec 128) : (s.raiseRaw c sev die d).fuses = s.fuses := by
  unfold State.raiseRaw; dsimp only; split; · split <;> simp
  rfl
@[simp] theorem State.raiseRaw_thm (s : State) (c sev die : Nat) (d : BitVec 128) : (s.raiseRaw c sev die d).thm = s.thm := by
  unfold State.raiseRaw; dsimp only; split; · split <;> simp
  rfl
@[simp] theorem State.raiseRaw_cap (s : State) (c sev die : Nat) (d : BitVec 128) : (s.raiseRaw c sev die d).cap = s.cap := by
  unfold State.raiseRaw; dsimp only; split; · split <;> simp
  rfl
@[simp] theorem State.raiseRaw_ply (s : State) (c sev die : Nat) (d : BitVec 128) : (s.raiseRaw c sev die d).ply = s.ply := by
  unfold State.raiseRaw; dsimp only; split; · split <;> simp
  rfl
@[simp] theorem State.raiseRaw_eng (s : State) (c sev die : Nat) (d : BitVec 128) : (s.raiseRaw c sev die d).eng = s.eng := by
  unfold State.raiseRaw; dsimp only; split; · split <;> simp
  rfl
@[simp] theorem State.raiseRaw_oas (s : State) (c sev die : Nat) (d : BitVec 128) : (s.raiseRaw c sev die d).oas = s.oas := by
  unfold State.raiseRaw; dsimp only; split; · split <;> simp
  rfl
@[simp] theorem State.raiseRaw_ctl (s : State) (c sev die : Nat) (d : BitVec 128) : (s.raiseRaw c sev die d).ctl = s.ctl := by
  unfold State.raiseRaw; dsimp only; split; · split <;> simp
  rfl
@[simp] theorem State.raiseRaw_mem (s : State) (c sev die : Nat) (d : BitVec 128) : (s.raiseRaw c sev die d).mem = s.mem := by
  unfold State.raiseRaw; dsimp only; split; · split <;> simp
  rfl
@[simp] theorem State.raiseRaw_net (s : State) (c sev die : Nat) (d : BitVec 128) : (s.raiseRaw c sev die d).net = s.net := by
  unfold State.raiseRaw; dsimp only; split; · split <;> simp
  rfl
@[simp] theorem State.raiseRaw_freeCtr (s : State) (c sev die : Nat) (d : BitVec 128) : (s.raiseRaw c sev die d).freeCtr = s.freeCtr := by
  unfold State.raiseRaw; dsimp only; split; · split <;> simp
  rfl
@[simp] theorem State.raiseRaw_pending (s : State) (c sev die : Nat) (d : BitVec 128) : (s.raiseRaw c sev die d).pending = s.pending := by
  unfold State.raiseRaw; dsimp only; split; · split <;> simp
  rfl

@[simp] theorem State.raise_variant (s : State) (c i u : Nat) (v : Data) : (s.raise c i u v).variant = s.variant := by
  simp [State.raise]
@[simp] theorem State.raise_time (s : State) (c i u : Nat) (v : Data) : (s.raise c i u v).time = s.time := by
  simp [State.raise]
@[simp] theorem State.raise_fab (s : State) (c i u : Nat) (v : Data) : (s.raise c i u v).fab = s.fab := by
  simp [State.raise]
@[simp] theorem State.raise_lanes (s : State) (c i u : Nat) (v : Data) : (s.raise c i u v).lanes = s.lanes := by
  simp [State.raise]
@[simp] theorem State.raise_gio (s : State) (c i u : Nat) (v : Data) : (s.raise c i u v).gio = s.gio := by
  simp [State.raise]
@[simp] theorem State.raise_rings (s : State) (c i u : Nat) (v : Data) : (s.raise c i u v).rings = s.rings := by
  simp [State.raise]
@[simp] theorem State.raise_sched (s : State) (c i u : Nat) (v : Data) : (s.raise c i u v).sched = s.sched := by
  simp [State.raise]
@[simp] theorem State.raise_jr (s : State) (c i u : Nat) (v : Data) : (s.raise c i u v).jr = s.jr := by
  simp [State.raise]
@[simp] theorem State.raise_clk (s : State) (c i u : Nat) (v : Data) : (s.raise c i u v).clk = s.clk := by
  simp [State.raise]
@[simp] theorem State.raise_pwr (s : State) (c i u : Nat) (v : Data) : (s.raise c i u v).pwr = s.pwr := by
  simp [State.raise]
@[simp] theorem State.raise_pins (s : State) (c i u : Nat) (v : Data) : (s.raise c i u v).pins = s.pins := by
  simp [State.raise]
@[simp] theorem State.raise_sup (s : State) (c i u : Nat) (v : Data) : (s.raise c i u v).sup = s.sup := by
  simp [State.raise]
@[simp] theorem State.raise_cores (s : State) (c i u : Nat) (v : Data) : (s.raise c i u v).cores = s.cores := by
  simp [State.raise]
@[simp] theorem State.raise_jtag (s : State) (c i u : Nat) (v : Data) : (s.raise c i u v).jtag = s.jtag := by
  simp [State.raise]
@[simp] theorem State.raise_sec (s : State) (c i u : Nat) (v : Data) : (s.raise c i u v).sec = s.sec := by
  simp [State.raise]
@[simp] theorem State.raise_store (s : State) (c i u : Nat) (v : Data) : (s.raise c i u v).store = s.store := by
  simp [State.raise]
@[simp] theorem State.raise_fuses (s : State) (c i u : Nat) (v : Data) : (s.raise c i u v).fuses = s.fuses := by
  simp [State.raise]
@[simp] theorem State.raise_thm (s : State) (c i u : Nat) (v : Data) : (s.raise c i u v).thm = s.thm := by
  simp [State.raise]
@[simp] theorem State.raise_cap (s : State) (c i u : Nat) (v : Data) : (s.raise c i u v).cap = s.cap := by
  simp [State.raise]
@[simp] theorem State.raise_ply (s : State) (c i u : Nat) (v : Data) : (s.raise c i u v).ply = s.ply := by
  simp [State.raise]
@[simp] theorem State.raise_eng (s : State) (c i u : Nat) (v : Data) : (s.raise c i u v).eng = s.eng := by
  simp [State.raise]
@[simp] theorem State.raise_oas (s : State) (c i u : Nat) (v : Data) : (s.raise c i u v).oas = s.oas := by
  simp [State.raise]
@[simp] theorem State.raise_ctl (s : State) (c i u : Nat) (v : Data) : (s.raise c i u v).ctl = s.ctl := by
  simp [State.raise]
@[simp] theorem State.raise_mem (s : State) (c i u : Nat) (v : Data) : (s.raise c i u v).mem = s.mem := by
  simp [State.raise]
@[simp] theorem State.raise_net (s : State) (c i u : Nat) (v : Data) : (s.raise c i u v).net = s.net := by
  simp [State.raise]
@[simp] theorem State.raise_freeCtr (s : State) (c i u : Nat) (v : Data) : (s.raise c i u v).freeCtr = s.freeCtr := by
  simp [State.raise]
@[simp] theorem State.raise_pending (s : State) (c i u : Nat) (v : Data) : (s.raise c i u v).pending = s.pending := by
  simp [State.raise]

@[simp] theorem State.raiseReg_variant (s : State) (c i u off : Nat) : (s.raiseReg c i u off).variant = s.variant := by
  simp [State.raiseReg]
@[simp] theorem State.raiseReg_time (s : State) (c i u off : Nat) : (s.raiseReg c i u off).time = s.time := by
  simp [State.raiseReg]
@[simp] theorem State.raiseReg_fab (s : State) (c i u off : Nat) : (s.raiseReg c i u off).fab = s.fab := by
  simp [State.raiseReg]
@[simp] theorem State.raiseReg_lanes (s : State) (c i u off : Nat) : (s.raiseReg c i u off).lanes = s.lanes := by
  simp [State.raiseReg]
@[simp] theorem State.raiseReg_gio (s : State) (c i u off : Nat) : (s.raiseReg c i u off).gio = s.gio := by
  simp [State.raiseReg]
@[simp] theorem State.raiseReg_rings (s : State) (c i u off : Nat) : (s.raiseReg c i u off).rings = s.rings := by
  simp [State.raiseReg]
@[simp] theorem State.raiseReg_sched (s : State) (c i u off : Nat) : (s.raiseReg c i u off).sched = s.sched := by
  simp [State.raiseReg]
@[simp] theorem State.raiseReg_jr (s : State) (c i u off : Nat) : (s.raiseReg c i u off).jr = s.jr := by
  simp [State.raiseReg]
@[simp] theorem State.raiseReg_clk (s : State) (c i u off : Nat) : (s.raiseReg c i u off).clk = s.clk := by
  simp [State.raiseReg]
@[simp] theorem State.raiseReg_pwr (s : State) (c i u off : Nat) : (s.raiseReg c i u off).pwr = s.pwr := by
  simp [State.raiseReg]
@[simp] theorem State.raiseReg_pins (s : State) (c i u off : Nat) : (s.raiseReg c i u off).pins = s.pins := by
  simp [State.raiseReg]
@[simp] theorem State.raiseReg_sup (s : State) (c i u off : Nat) : (s.raiseReg c i u off).sup = s.sup := by
  simp [State.raiseReg]
@[simp] theorem State.raiseReg_cores (s : State) (c i u off : Nat) : (s.raiseReg c i u off).cores = s.cores := by
  simp [State.raiseReg]
@[simp] theorem State.raiseReg_jtag (s : State) (c i u off : Nat) : (s.raiseReg c i u off).jtag = s.jtag := by
  simp [State.raiseReg]
@[simp] theorem State.raiseReg_sec (s : State) (c i u off : Nat) : (s.raiseReg c i u off).sec = s.sec := by
  simp [State.raiseReg]
@[simp] theorem State.raiseReg_store (s : State) (c i u off : Nat) : (s.raiseReg c i u off).store = s.store := by
  simp [State.raiseReg]
@[simp] theorem State.raiseReg_fuses (s : State) (c i u off : Nat) : (s.raiseReg c i u off).fuses = s.fuses := by
  simp [State.raiseReg]
@[simp] theorem State.raiseReg_thm (s : State) (c i u off : Nat) : (s.raiseReg c i u off).thm = s.thm := by
  simp [State.raiseReg]
@[simp] theorem State.raiseReg_cap (s : State) (c i u off : Nat) : (s.raiseReg c i u off).cap = s.cap := by
  simp [State.raiseReg]
@[simp] theorem State.raiseReg_ply (s : State) (c i u off : Nat) : (s.raiseReg c i u off).ply = s.ply := by
  simp [State.raiseReg]
@[simp] theorem State.raiseReg_eng (s : State) (c i u off : Nat) : (s.raiseReg c i u off).eng = s.eng := by
  simp [State.raiseReg]
@[simp] theorem State.raiseReg_oas (s : State) (c i u off : Nat) : (s.raiseReg c i u off).oas = s.oas := by
  simp [State.raiseReg]
@[simp] theorem State.raiseReg_ctl (s : State) (c i u off : Nat) : (s.raiseReg c i u off).ctl = s.ctl := by
  simp [State.raiseReg]
@[simp] theorem State.raiseReg_mem (s : State) (c i u off : Nat) : (s.raiseReg c i u off).mem = s.mem := by
  simp [State.raiseReg]
@[simp] theorem State.raiseReg_net (s : State) (c i u off : Nat) : (s.raiseReg c i u off).net = s.net := by
  simp [State.raiseReg]
@[simp] theorem State.raiseReg_freeCtr (s : State) (c i u off : Nat) : (s.raiseReg c i u off).freeCtr = s.freeCtr := by
  simp [State.raiseReg]
@[simp] theorem State.raiseReg_pending (s : State) (c i u off : Nat) : (s.raiseReg c i u off).pending = s.pending := by
  simp [State.raiseReg]

@[simp] theorem State.raiseIf_variant (s : State) (b : Bool) (c i u off : Nat) : (s.raiseIf b c i u off).variant = s.variant := by
  unfold State.raiseIf; split <;> simp
@[simp] theorem State.raiseIf_time (s : State) (b : Bool) (c i u off : Nat) : (s.raiseIf b c i u off).time = s.time := by
  unfold State.raiseIf; split <;> simp
@[simp] theorem State.raiseIf_fab (s : State) (b : Bool) (c i u off : Nat) : (s.raiseIf b c i u off).fab = s.fab := by
  unfold State.raiseIf; split <;> simp
@[simp] theorem State.raiseIf_lanes (s : State) (b : Bool) (c i u off : Nat) : (s.raiseIf b c i u off).lanes = s.lanes := by
  unfold State.raiseIf; split <;> simp
@[simp] theorem State.raiseIf_gio (s : State) (b : Bool) (c i u off : Nat) : (s.raiseIf b c i u off).gio = s.gio := by
  unfold State.raiseIf; split <;> simp
@[simp] theorem State.raiseIf_rings (s : State) (b : Bool) (c i u off : Nat) : (s.raiseIf b c i u off).rings = s.rings := by
  unfold State.raiseIf; split <;> simp
@[simp] theorem State.raiseIf_sched (s : State) (b : Bool) (c i u off : Nat) : (s.raiseIf b c i u off).sched = s.sched := by
  unfold State.raiseIf; split <;> simp
@[simp] theorem State.raiseIf_jr (s : State) (b : Bool) (c i u off : Nat) : (s.raiseIf b c i u off).jr = s.jr := by
  unfold State.raiseIf; split <;> simp
@[simp] theorem State.raiseIf_clk (s : State) (b : Bool) (c i u off : Nat) : (s.raiseIf b c i u off).clk = s.clk := by
  unfold State.raiseIf; split <;> simp
@[simp] theorem State.raiseIf_pwr (s : State) (b : Bool) (c i u off : Nat) : (s.raiseIf b c i u off).pwr = s.pwr := by
  unfold State.raiseIf; split <;> simp
@[simp] theorem State.raiseIf_pins (s : State) (b : Bool) (c i u off : Nat) : (s.raiseIf b c i u off).pins = s.pins := by
  unfold State.raiseIf; split <;> simp
@[simp] theorem State.raiseIf_sup (s : State) (b : Bool) (c i u off : Nat) : (s.raiseIf b c i u off).sup = s.sup := by
  unfold State.raiseIf; split <;> simp
@[simp] theorem State.raiseIf_cores (s : State) (b : Bool) (c i u off : Nat) : (s.raiseIf b c i u off).cores = s.cores := by
  unfold State.raiseIf; split <;> simp
@[simp] theorem State.raiseIf_jtag (s : State) (b : Bool) (c i u off : Nat) : (s.raiseIf b c i u off).jtag = s.jtag := by
  unfold State.raiseIf; split <;> simp
@[simp] theorem State.raiseIf_sec (s : State) (b : Bool) (c i u off : Nat) : (s.raiseIf b c i u off).sec = s.sec := by
  unfold State.raiseIf; split <;> simp
@[simp] theorem State.raiseIf_store (s : State) (b : Bool) (c i u off : Nat) : (s.raiseIf b c i u off).store = s.store := by
  unfold State.raiseIf; split <;> simp
@[simp] theorem State.raiseIf_fuses (s : State) (b : Bool) (c i u off : Nat) : (s.raiseIf b c i u off).fuses = s.fuses := by
  unfold State.raiseIf; split <;> simp
@[simp] theorem State.raiseIf_thm (s : State) (b : Bool) (c i u off : Nat) : (s.raiseIf b c i u off).thm = s.thm := by
  unfold State.raiseIf; split <;> simp
@[simp] theorem State.raiseIf_cap (s : State) (b : Bool) (c i u off : Nat) : (s.raiseIf b c i u off).cap = s.cap := by
  unfold State.raiseIf; split <;> simp
@[simp] theorem State.raiseIf_ply (s : State) (b : Bool) (c i u off : Nat) : (s.raiseIf b c i u off).ply = s.ply := by
  unfold State.raiseIf; split <;> simp
@[simp] theorem State.raiseIf_eng (s : State) (b : Bool) (c i u off : Nat) : (s.raiseIf b c i u off).eng = s.eng := by
  unfold State.raiseIf; split <;> simp
@[simp] theorem State.raiseIf_oas (s : State) (b : Bool) (c i u off : Nat) : (s.raiseIf b c i u off).oas = s.oas := by
  unfold State.raiseIf; split <;> simp
@[simp] theorem State.raiseIf_ctl (s : State) (b : Bool) (c i u off : Nat) : (s.raiseIf b c i u off).ctl = s.ctl := by
  unfold State.raiseIf; split <;> simp
@[simp] theorem State.raiseIf_mem (s : State) (b : Bool) (c i u off : Nat) : (s.raiseIf b c i u off).mem = s.mem := by
  unfold State.raiseIf; split <;> simp
@[simp] theorem State.raiseIf_net (s : State) (b : Bool) (c i u off : Nat) : (s.raiseIf b c i u off).net = s.net := by
  unfold State.raiseIf; split <;> simp
@[simp] theorem State.raiseIf_freeCtr (s : State) (b : Bool) (c i u off : Nat) : (s.raiseIf b c i u off).freeCtr = s.freeCtr := by
  unfold State.raiseIf; split <;> simp
@[simp] theorem State.raiseIf_pending (s : State) (b : Bool) (c i u off : Nat) : (s.raiseIf b c i u off).pending = s.pending := by
  unfold State.raiseIf; split <;> simp

@[simp] theorem State.writeReg_variant (s : State) (off : Nat) (v : Data) : (s.writeReg off v).variant = s.variant := by
  unfold State.writeReg; split <;> rfl
@[simp] theorem State.writeReg_time (s : State) (off : Nat) (v : Data) : (s.writeReg off v).time = s.time := by
  unfold State.writeReg; split <;> rfl
@[simp] theorem State.writeReg_fab (s : State) (off : Nat) (v : Data) : (s.writeReg off v).fab = s.fab := by
  unfold State.writeReg; split <;> rfl
@[simp] theorem State.writeReg_lanes (s : State) (off : Nat) (v : Data) : (s.writeReg off v).lanes = s.lanes := by
  unfold State.writeReg; split <;> rfl
@[simp] theorem State.writeReg_gio (s : State) (off : Nat) (v : Data) : (s.writeReg off v).gio = s.gio := by
  unfold State.writeReg; split <;> rfl
@[simp] theorem State.writeReg_host (s : State) (off : Nat) (v : Data) : (s.writeReg off v).host = s.host := by
  unfold State.writeReg; split <;> rfl
@[simp] theorem State.writeReg_evt (s : State) (off : Nat) (v : Data) : (s.writeReg off v).evt = s.evt := by
  unfold State.writeReg; split <;> rfl
@[simp] theorem State.writeReg_rings (s : State) (off : Nat) (v : Data) : (s.writeReg off v).rings = s.rings := by
  unfold State.writeReg; split <;> rfl
@[simp] theorem State.writeReg_sched (s : State) (off : Nat) (v : Data) : (s.writeReg off v).sched = s.sched := by
  unfold State.writeReg; split <;> rfl
@[simp] theorem State.writeReg_jr (s : State) (off : Nat) (v : Data) : (s.writeReg off v).jr = s.jr := by
  unfold State.writeReg; split <;> rfl
@[simp] theorem State.writeReg_clk (s : State) (off : Nat) (v : Data) : (s.writeReg off v).clk = s.clk := by
  unfold State.writeReg; split <;> rfl
@[simp] theorem State.writeReg_pwr (s : State) (off : Nat) (v : Data) : (s.writeReg off v).pwr = s.pwr := by
  unfold State.writeReg; split <;> rfl
@[simp] theorem State.writeReg_pins (s : State) (off : Nat) (v : Data) : (s.writeReg off v).pins = s.pins := by
  unfold State.writeReg; split <;> rfl
@[simp] theorem State.writeReg_sup (s : State) (off : Nat) (v : Data) : (s.writeReg off v).sup = s.sup := by
  unfold State.writeReg; split <;> rfl
@[simp] theorem State.writeReg_cores (s : State) (off : Nat) (v : Data) : (s.writeReg off v).cores = s.cores := by
  unfold State.writeReg; split <;> rfl
@[simp] theorem State.writeReg_jtag (s : State) (off : Nat) (v : Data) : (s.writeReg off v).jtag = s.jtag := by
  unfold State.writeReg; split <;> rfl
@[simp] theorem State.writeReg_sec (s : State) (off : Nat) (v : Data) : (s.writeReg off v).sec = s.sec := by
  unfold State.writeReg; split <;> rfl
@[simp] theorem State.writeReg_store (s : State) (off : Nat) (v : Data) : (s.writeReg off v).store = s.store := by
  unfold State.writeReg; split <;> rfl
@[simp] theorem State.writeReg_fuses (s : State) (off : Nat) (v : Data) : (s.writeReg off v).fuses = s.fuses := by
  unfold State.writeReg; split <;> rfl
@[simp] theorem State.writeReg_thm (s : State) (off : Nat) (v : Data) : (s.writeReg off v).thm = s.thm := by
  unfold State.writeReg; split <;> rfl
@[simp] theorem State.writeReg_cap (s : State) (off : Nat) (v : Data) : (s.writeReg off v).cap = s.cap := by
  unfold State.writeReg; split <;> rfl
@[simp] theorem State.writeReg_ply (s : State) (off : Nat) (v : Data) : (s.writeReg off v).ply = s.ply := by
  unfold State.writeReg; split <;> rfl
@[simp] theorem State.writeReg_eng (s : State) (off : Nat) (v : Data) : (s.writeReg off v).eng = s.eng := by
  unfold State.writeReg; split <;> rfl
@[simp] theorem State.writeReg_oas (s : State) (off : Nat) (v : Data) : (s.writeReg off v).oas = s.oas := by
  unfold State.writeReg; split <;> rfl
@[simp] theorem State.writeReg_ctl (s : State) (off : Nat) (v : Data) : (s.writeReg off v).ctl = s.ctl := by
  unfold State.writeReg; split <;> rfl
@[simp] theorem State.writeReg_mem (s : State) (off : Nat) (v : Data) : (s.writeReg off v).mem = s.mem := by
  unfold State.writeReg; split <;> rfl
@[simp] theorem State.writeReg_net (s : State) (off : Nat) (v : Data) : (s.writeReg off v).net = s.net := by
  unfold State.writeReg; split <;> rfl
@[simp] theorem State.writeReg_freeCtr (s : State) (off : Nat) (v : Data) : (s.writeReg off v).freeCtr = s.freeCtr := by
  unfold State.writeReg; split <;> rfl
@[simp] theorem State.writeReg_pending (s : State) (off : Nat) (v : Data) : (s.writeReg off v).pending = s.pending := by
  unfold State.writeReg; split <;> rfl

/-! ### Registers through updates that are not register writes -/

@[simp] theorem State.reg_spend (s : State) (n o : Nat) : (s.spend n).reg o = s.reg o := rfl
@[simp] theorem State.reg_putHost (s : State) (a : Nat) (b : List Byte) (o : Nat) : (s.putHost a b).reg o = s.reg o := rfl
@[simp] theorem State.reg_hostOwn (s : State) (hw : List (Nat × Byte)) (o : Nat) : (s.hostOwn hw).reg o = s.reg o := rfl
@[simp] theorem State.reg_setDom (s : State) (d : Nat) (v : DomSt) (o : Nat) : (s.setDom d v).reg o = s.reg o := rfl
@[simp] theorem State.reg_answerReg (s : State) (v : Data) (o : Nat) : (s.answerReg v).reg o = s.reg o := rfl

@[simp] theorem State.reg_hostWrite (s : State) (a : Nat) (b : List Byte) (o : Nat) : (s.hostWrite a b).reg o = s.reg o := by simp [State.reg]
@[simp] theorem State.reg_message (s : State) (v o : Nat) : (s.message v).reg o = s.reg o := by simp [State.reg]
@[simp] theorem State.reg_signal (s : State) (v o : Nat) : (s.signal v).reg o = s.reg o := by simp [State.reg]

/-- An event changes no register but EVT.TAIL and EVT.LOST. -/
theorem State.reg_raiseRaw (s : State) (c sev die : Nat) (d : BitVec 128) (o : Nat) (h1 : o ≠ EVT_TAIL) (h2 : o ≠ EVT_LOST) :
    (s.raiseRaw c sev die d).reg o = s.reg o := by
  unfold State.raiseRaw
  dsimp only
  split
  · split
    · exact State.reg_setReg_ne _ _ _ _ h2
    · rw [State.reg_signal, State.reg_setReg_ne _ _ _ _ h1]
      exact State.reg_hostWrite _ _ _ _
  · rfl

theorem State.reg_raise (s : State) (c i u : Nat) (v : Data) (o : Nat) (h1 : o ≠ EVT_TAIL) (h2 : o ≠ EVT_LOST) :
    (s.raise c i u v).reg o = s.reg o := s.reg_raiseRaw _ _ _ _ o h1 h2

theorem State.reg_raiseReg (s : State) (c i u off : Nat) (o : Nat) (h1 : o ≠ EVT_TAIL) (h2 : o ≠ EVT_LOST) :
    (s.raiseReg c i u off).reg o = s.reg o := s.reg_raise _ _ _ _ o h1 h2

theorem State.reg_raiseIf (s : State) (b : Bool) (c i u off : Nat) (o : Nat) (h1 : o ≠ EVT_TAIL) (h2 : o ≠ EVT_LOST) :
    (s.raiseIf b c i u off).reg o = s.reg o := by
  unfold State.raiseIf
  split
  · exact s.reg_raiseReg _ _ _ _ o h1 h2
  · rfl

/-- An event takes the next number and enters the event log (R409). -/
theorem State.raiseRaw_evt (s : State) (c sev die : Nat) (d : BitVec 128) :
    (s.raiseRaw c sev die d).evt.next = (s.evt.next + 1) % 2 ^ 32 ∧
    (s.raiseRaw c sev die d).evt.log = { stamp := s.time.stamp, code := c, die := die, sev := sev, seq := s.evt.next % 2 ^ 32, data := d } :: s.evt.log := by
  unfold State.raiseRaw
  dsimp only
  split
  · split <;> simp
  · simp

/-! ### The completion of a command -/

/-- Completing a command changes no register but PWR.STATUS, CFG.STATUS and GLB.STATUS. -/
theorem State.reg_settle (s : State) (o : Nat) (h1 : o ≠ PWR_STATUS) (h2 : o ≠ CFG_STATUS) (h3 : o ≠ GLB_STATUS) :
    s.settle.reg o = s.reg o := by
  unfold State.settle
  dsimp only
  rw [State.reg_setReg_ne _ _ _ _ h3, State.reg_setFlds_ne _ _ _ _ h2, State.reg_setFld_ne _ _ _ _ _ h1]

theorem State.fld_settle (s : State) (o : Nat) (f : Fld) (h1 : o ≠ PWR_STATUS) (h2 : o ≠ CFG_STATUS) (h3 : o ≠ GLB_STATUS) :
    s.settle.fld o f = s.fld o f := by
  unfold State.fld
  rw [s.reg_settle o h1 h2 h3]

theorem done_next (s : State) : done s = .next s.settle := rfl

/-! ### Accesses of registers -/

theorem State.regMeet_ready (s : State) (off : Nat) (w : Option Data) (b : Bool) (h : s.ready off = true) : s.regMeet off w b = (s, .go) := by
  unfold State.ready at h
  unfold State.regMeet
  cases hb : s.blockUp off
  · simp [hb] at h
  · simp only [hb, Bool.true_and] at h
    cases hd : regDomain off with
    | none => simp
    | some d =>
      simp only [hd, Bool.and_eq_true, Bool.not_eq_true', State.isUp, beq_iff_eq] at h
      have hr : ¬ (d ∈ s.pwr.inReset) := by simpa using h.2
      have hm : s.meetDomain d = (s, 0) := by
        unfold State.meetDomain
        simp [h.1, hr]
      simp [hm]

/-- Where it is ready, a write is its operation. -/
theorem State.regWrite_ready (s : State) (off : Nat) (data : Data) (f : State → State) (h : s.ready off = true) :
    s.regWrite off data f = f s := by
  unfold State.regWrite
  rw [s.regMeet_ready off _ _ h]
  simp

/-- Where it is ready, a read is its operation. -/
theorem State.regRead_ready (s : State) (off : Nat) (b : Bool) (f : State → State) (h : s.ready off = true) :
    s.regRead off b f = f s := by
  unfold State.regRead
  rw [s.regMeet_ready off _ _ h]

/-- Where its block does not answer, a write is lost. -/
theorem State.regWrite_lost (s : State) (off : Nat) (data : Data) (f : State → State) (h : s.blockUp off = false) :
    s.regWrite off data f = s := by
  unfold State.regWrite State.regMeet
  simp [h]

end Sys2Proof.Machine
end

