-- ==== Sys2Proof/Laws/Frames.lean ====
section
/-!
SUPPORT. How the frames of commands are put together: each shared update of registers, and each event, keeps what a frame says.
-/
namespace Sys2Proof.Machine

variable {l : List Nat} {s t : State}

theorem KeepsRegs.refl (l : List Nat) (s : State) : KeepsRegs l s s := fun _ _ _ => rfl

theorem KeepsRegs.trans {u : State} (h : KeepsRegs l s t) (k : KeepsRegs l t u) : KeepsRegs l s u :=
  fun o h1 h2 => (k o h1 h2).trans (h o h1 h2)

theorem KeepsRegs.setReg (h : KeepsRegs l s t) (off : Nat) (v : Data) (ho : off ∈ l) : KeepsRegs l s (t.setReg off v) := by
  intro o h1 h2
  rw [State.reg_setReg_ne _ _ _ _ (fun e => h1 (by rw [e]; exact ho))]
  exact h o h1 h2

theorem KeepsRegs.settle (h : KeepsRegs l s t) : KeepsRegs l s t.settle := by
  intro o h1 h2
  have a : o ≠ PWR_STATUS ∧ o ≠ CFG_STATUS ∧ o ≠ GLB_STATUS := by simpa [shownRegs] using h2
  rw [State.reg_settle t o a.1 a.2.1 a.2.2]
  exact h o h1 h2

theorem KeepsRegs.of_regs {u : State} (h : KeepsRegs l s t) (e : u.regs = t.regs) : KeepsRegs l s u := by
  intro o h1 h2
  have : u.reg o = t.reg o := by simp only [State.reg, e]
  rw [this]
  exact h o h1 h2

theorem KeepsRegs.from_regs {u : State} (h : KeepsRegs l s t) (e : u.regs = s.regs) : KeepsRegs l u t := by
  intro o h1 h2
  have : u.reg o = s.reg o := by simp only [State.reg, e]
  rw [this]
  exact h o h1 h2

theorem KeepsRegs.mono {k : List Nat} (h : KeepsRegs l s t) (hs : ∀ o, o ∈ l → o ∈ k) : KeepsRegs k s t :=
  fun o h1 h2 => h o (fun m => h1 (hs o m)) h2

/-! ### Registers alone -/

theorem RegsOnly.refl (l : List Nat) (s : State) : RegsOnly l s s := ⟨rfl, KeepsRegs.refl l s⟩

theorem RegsOnly.setReg (h : RegsOnly l s t) (off : Nat) (v : Data) (ho : off ∈ l) : RegsOnly l s (t.setReg off v) :=
  ⟨h.1, h.2.setReg off v ho⟩

theorem RegsOnly.setFld (h : RegsOnly l s t) (off : Nat) (f : Fld) (x : Nat) (ho : off ∈ l) : RegsOnly l s (t.setFld off f x) :=
  h.setReg off _ ho

theorem RegsOnly.setFlds (h : RegsOnly l s t) (off : Nat) (fs : List (Fld × Nat)) (ho : off ∈ l) : RegsOnly l s (t.setFlds off fs) :=
  h.setReg off _ ho

theorem RegsOnly.writeReg (h : RegsOnly l s t) (off : Nat) (v : Data) (ho : off ∈ l) : RegsOnly l s (t.writeReg off v) := by
  unfold State.writeReg
  split
  · exact h.setReg off _ ho
  · exact h

theorem RegsOnly.settle (h : RegsOnly l s t) : RegsOnly l s t.settle := ⟨h.1, h.2.settle⟩

/-! ### Registers and an event -/

theorem OnlyRegsEvents.trans {u : State} (h : OnlyRegsEvents s t) (k : OnlyRegsEvents t u) : OnlyRegsEvents s u := by
  unfold OnlyRegsEvents at *
  exact Eq.trans (b := { t with regs := s.regs, evt := s.evt, host := s.host })
    (congrArg (fun (x : State) => { x with regs := s.regs, evt := s.evt, host := s.host }) k) h

theorem OnlyRegsEvents.hostWrite (h : OnlyRegsEvents s t) (a : Nat) (b : List Byte) : OnlyRegsEvents s (t.hostWrite a b) := by
  unfold State.hostWrite State.putHost
  split
  · exact h
  · split
    · exact h
    · exact h

theorem OnlyRegsEvents.signal (h : OnlyRegsEvents s t) (v : Nat) : OnlyRegsEvents s (t.signal v) := by
  unfold State.signal State.message State.putHost
  split
  · exact h
  · split
    · dsimp only
      split
      · exact h
      · exact h
    · exact h

theorem OnlyRegsEvents.setReg (h : OnlyRegsEvents s t) (off : Nat) (v : Data) : OnlyRegsEvents s (t.setReg off v) := h

theorem OnlyRegsEvents.setEvt (h : OnlyRegsEvents s t) (e : EvtSt) : OnlyRegsEvents s { t with evt := e } := h

theorem OnlyRegsEvents.raiseRaw (h : OnlyRegsEvents s t) (c sev die : Nat) (d : BitVec 128) : OnlyRegsEvents s (t.raiseRaw c sev die d) := by
  unfold State.raiseRaw
  dsimp only
  split
  · split
    · exact ((h.setEvt _).setReg _ _).setEvt _
    · exact (((h.setEvt _).hostWrite _ _).setEvt _ |>.setReg _ _).signal _
  · exact h.setEvt _

theorem RegsOnly.toEvent (h : RegsOnly l s t) : EventOnly l s t := by
  refine ⟨?_, h.2.mono (by simp +contextual)⟩
  exact congrArg (fun (x : State) => { x with evt := s.evt, host := s.host }) h.1

theorem EventOnly.refl (l : List Nat) (s : State) : EventOnly l s s := ⟨rfl, KeepsRegs.refl _ s⟩

theorem EventOnly.setReg (h : EventOnly l s t) (off : Nat) (v : Data) (ho : off ∈ l) : EventOnly l s (t.setReg off v) :=
  ⟨h.1, h.2.setReg off v (List.mem_append_left _ ho)⟩

theorem EventOnly.setFld (h : EventOnly l s t) (off : Nat) (f : Fld) (x : Nat) (ho : off ∈ l) : EventOnly l s (t.setFld off f x) :=
  h.setReg off _ ho

theorem EventOnly.setFlds (h : EventOnly l s t) (off : Nat) (fs : List (Fld × Nat)) (ho : off ∈ l) : EventOnly l s (t.setFlds off fs) :=
  h.setReg off _ ho

theorem EventOnly.settle (h : EventOnly l s t) : EventOnly l s t.settle := ⟨h.1, h.2.settle⟩

theorem EventOnly.raiseRaw (h : EventOnly l s t) (c sev die : Nat) (d : BitVec 128) : EventOnly l s (t.raiseRaw c sev die d) := by
  refine ⟨h.1.raiseRaw c sev die d, fun o h1 h2 => ?_⟩
  have a : o ≠ EVT_TAIL ∧ o ≠ EVT_LOST := by
    have := fun m => h1 (List.mem_append_right l m)
    simpa [eventRegs] using this
  rw [State.reg_raiseRaw t c sev die d o a.1 a.2]
  exact h.2 o h1 h2

theorem EventOnly.raise (h : EventOnly l s t) (c i u : Nat) (v : Data) : EventOnly l s (t.raise c i u v) := h.raiseRaw _ _ _ _
theorem EventOnly.raiseReg (h : EventOnly l s t) (c i u off : Nat) : EventOnly l s (t.raiseReg c i u off) := h.raiseRaw _ _ _ _

theorem logs_raiseRaw (c sev die : Nat) (d : BitVec 128) (h : t.evt.log = s.evt.log) : Logs c s (t.raiseRaw c sev die d) :=
  ⟨_, (t.raiseRaw_evt c sev die d).2.trans (by rw [h]), rfl⟩
theorem logs_raise (c i u : Nat) (v : Data) (h : t.evt.log = s.evt.log) : Logs c s (t.raise c i u v) := logs_raiseRaw _ _ _ _ h
theorem logs_raiseReg (c i u off : Nat) (h : t.evt.log = s.evt.log) : Logs c s (t.raiseReg c i u off) := logs_raiseRaw _ _ _ _ h
theorem Logs.settle {c : Nat} (h : Logs c s t) : Logs c s t.settle := h

/-! ### Fields through events and several puts -/

theorem State.fld_raise_ne (s : State) (c i u : Nat) (v : Data) (o : Nat) (f : Fld) (h1 : o ≠ EVT_TAIL) (h2 : o ≠ EVT_LOST) :
    (s.raise c i u v).fld o f = s.fld o f := by
  unfold State.fld
  rw [s.reg_raise c i u v o h1 h2]

theorem State.fld_raiseReg_ne (s : State) (c i u off o : Nat) (f : Fld) (h1 : o ≠ EVT_TAIL) (h2 : o ≠ EVT_LOST) :
    (s.raiseReg c i u off).fld o f = s.fld o f := s.fld_raise_ne _ _ _ _ o f h1 h2

theorem State.fld_setFlds_same (s : State) (off : Nat) (fs : List (Fld × Nat)) (g : Fld) :
    (s.setFlds off fs).fld off g = g.get (fs.foldl (fun v p => p.1.put v p.2) (s.reg off)) := by
  unfold State.setFlds State.fld
  rw [State.reg_setReg_same]

/-! ### Completion -/

/-- A completed command gives what its state, brought in step, has. -/
theorem gives_done {i : Instr} {s t : State} {P : State → Prop} (h : exec i s = done t) (hp : P t.settle) : Gives i s P :=
  ⟨t.settle, h, hp⟩

end Sys2Proof.Machine
end

