-- ==== Sys2Proof/Laws/PerInstr.lean ====
section
/-!
SUPPORT. What holds of every command as syntax, one lemma per command.
-/
namespace Sys2Proof.Laws.RegTarget
open Sys2Proof.Machine

/-- The register that a command writes, where it is a write of one, lies on a boundary of 8 bytes inside the register map of 64 MiB. -/
def Statement (i : Instr) : Prop := ∀ o, i.regOff = some o → o % 8 = 0 ∧ o < 2 ^ 26

theorem of_none {i : Instr} (h : i.regOff = none) : Statement i := by
  intro o ho
  rw [h] at ho
  cases ho

theorem of_some {i : Instr} {o : Nat} (h : i.regOff = some o) (ha : o % 8 = 0 ∧ o < 2 ^ 26) : Statement i := by
  intro x hx
  rw [h] at hx
  cases hx
  exact ha

theorem sqTail (r : RingNo) (tail : Data) (hw : HostWrites) (failAt : Option Nat) : Statement (.sqTail r tail hw failAt) := of_none rfl
theorem cqHead (r : RingNo) (head : Data) : Statement (.cqHead r head) := of_none rfl
theorem acceptResume (r : RingNo) (hw : HostWrites) (failAt : Option Nat) : Statement (.acceptResume r hw failAt) := of_none rfl
theorem spillReturn (r : RingNo) (copyBad : Bool) (failAt : Option Nat) : Statement (.spillReturn r copyBad failAt) := of_none rfl
theorem tagAssign (src : Option RingNo) : Statement (.tagAssign src) := of_none rfl
theorem counterCeilingWrite (slot : SlotNo) (ok : Bool) : Statement (.counterCeilingWrite slot ok) := of_none rfl
theorem sandglassRelease (l : ListNo) : Statement (.sandglassRelease l) := of_none rfl
theorem itemDispatch (ex : Executor) : Statement (.itemDispatch ex) := of_none rfl
theorem journalReadComplete (ex : Executor) (res : HostRead) : Statement (.journalReadComplete ex res) := of_none rfl
theorem itemFinish (ex : Executor) : Statement (.itemFinish ex) := of_none rfl
theorem completionRelease (r : RingNo) : Statement (.completionRelease r) := of_none rfl
theorem completionConfirm (r : RingNo) : Statement (.completionConfirm r) := of_none rfl
theorem moderationExpiry (r : RingNo) : Statement (.moderationExpiry r) := of_none rfl
theorem ringEnable (r : RingNo) (data : Data) (hw : HostWrites) : Statement (.ringEnable r data hw) := of_some (o := 0x81000 + 0x10 * r.val) rfl (by omega)
theorem controlBlockCheck (r : RingNo) (res : HostRead) : Statement (.controlBlockCheck r res) := of_none rfl
theorem ringDisable (r : RingNo) (data : Data) : Statement (.ringDisable r data) := of_some (o := 0x81000 + 0x10 * r.val) rfl (by omega)
theorem journalRegisterWrite (data : Data) : Statement (.journalRegisterWrite data) := of_some (o := 0x80000) rfl (by omega)
theorem bar4Access (off : Nat) (acc : MemAcc) : Statement (.bar4Access off acc) := of_none rfl
theorem bar0Write (off : Nat) (size : Nat) (data : Data) : Statement (.bar0Write off size data) := of_none rfl
theorem rclRead (off : Nat) (size : Nat) (path : ReadPath) : Statement (.rclRead off size path) := of_none rfl
theorem evtBaseWrite (data : Data) : Statement (.evtBaseWrite data) := of_some (o := 0x480000) rfl (by omega)
theorem evtHeadWrite (data : Data) : Statement (.evtHeadWrite data) := of_some (o := 0x480010) rfl (by omega)
theorem ejectFall : Statement (.ejectFall) := of_none rfl
theorem departureReadComplete (res : HostRead) : Statement (.departureReadComplete res) := of_none rfl
theorem ejectRise : Statement (.ejectRise) := of_none rfl
theorem surpriseRemoval : Statement (.surpriseRemoval) := of_none rfl
theorem linkReturn : Statement (.linkReturn) := of_none rfl
theorem nop : Statement (.nop) := of_none rfl
theorem dma (e : DmaNo) (hostFail : Option Nat) : Statement (.dma e hostFail) := of_none rfl
theorem play (p : PlayerNo) : Statement (.play p) := of_none rfl
theorem ergSwitch (i : ErgNo) : Statement (.ergSwitch i) := of_none rfl
theorem task (i : ErgNo) : Statement (.task i) := of_none rfl
theorem taskDelivery (i : ErgNo) : Statement (.taskDelivery i) := of_none rfl
theorem taskDoneWord (i : ErgNo) : Statement (.taskDoneWord i) := of_none rfl
theorem engineLoad (e : EngNo) : Statement (.engineLoad e) := of_none rfl
theorem engineRun (e : EngNo) : Statement (.engineRun e) := of_none rfl
theorem captureCmd : Statement (.captureCmd) := of_none rfl
theorem cancel : Statement (.cancel) := of_none rfl
theorem readback (hostFail : Bool) : Statement (.readback hostFail) := of_none rfl
theorem attest (hostFail : Bool) : Statement (.attest hostFail) := of_none rfl
theorem imageLoad (hostFail : Bool) : Statement (.imageLoad hostFail) := of_none rfl
theorem imageFrame (res : HostRead) (storeOk : Bool) : Statement (.imageFrame res storeOk) := of_none rfl
theorem ergReserve : Statement (.ergReserve) := of_none rfl
theorem keyDomain (hostFail : Bool) : Statement (.keyDomain hostFail) := of_none rfl
theorem keyStrictWindow : Statement (.keyStrictWindow) := of_none rfl
theorem keyOasisRights : Statement (.keyOasisRights) := of_none rfl
theorem keySlotKey (hostFail : Bool) : Statement (.keySlotKey hostFail) := of_none rfl
theorem keySlotErase : Statement (.keySlotErase) := of_none rfl
theorem driftStart (hostFail : Bool) : Statement (.driftStart hostFail) := of_none rfl
theorem firmwareUpdate (hostFail : Bool) (storeOk : Bool) : Statement (.firmwareUpdate hostFail storeOk) := of_none rfl
theorem stackRepairLane : Statement (.stackRepairLane) := of_none rfl
theorem stackRepairOasis : Statement (.stackRepairOasis) := of_none rfl
theorem stackRepairDram : Statement (.stackRepairDram) := of_none rfl
theorem eraseImageSlots : Statement (.eraseImageSlots) := of_none rfl
theorem eraseKeyDomains : Statement (.eraseKeyDomains) := of_none rfl
theorem eraseOases : Statement (.eraseOases) := of_none rfl
theorem eraseSlots : Statement (.eraseSlots) := of_none rfl
theorem debugUnlock (hostFail : Bool) : Statement (.debugUnlock hostFail) := of_none rfl
theorem debugUnlockExpiry : Statement (.debugUnlockExpiry) := of_none rfl
theorem ownerTransfer (hostFail : Bool) : Statement (.ownerTransfer hostFail) := of_none rfl
theorem reconciliation (pageRead : HostRead) (badRings : List RingNo) : Statement (.reconciliation pageRead badRings) := of_none rfl
theorem fabricCycle (inp : FabricIn) : Statement (.fabricCycle inp) := of_none rfl
theorem ctxGo (i : ErgNo) (data : Data) : Statement (.ctxGo i data) := of_some (o := 0x1C0000 + 0x40 * i.val) rfl (by omega)
theorem switchEdge (i : ErgNo) : Statement (.switchEdge i) := of_none rfl
theorem settleEnd (i : ErgNo) : Statement (.settleEnd i) := of_none rfl
theorem isoForceSet (i : ErgNo) (data : Data) : Statement (.isoForceSet i data) := of_some (o := 0x1C0018 + 0x40 * i.val) rfl (by omega)
theorem isoForceClear (i : ErgNo) (data : Data) : Statement (.isoForceClear i data) := of_some (o := 0x1C0018 + 0x40 * i.val) rfl (by omega)
theorem isoRelease (i : ErgNo) (data : Data) : Statement (.isoRelease i data) := of_some (o := 0x1C0018 + 0x40 * i.val) rfl (by omega)
theorem illopClear (data : Data) : Statement (.illopClear data) := of_some (o := 0x1CE008) rfl (by omega)
theorem bmPerrClear (data : Data) : Statement (.bmPerrClear data) := of_some (o := 0x1CE000) rfl (by omega)
theorem dirPerrClear (data : Data) : Statement (.dirPerrClear data) := of_some (o := 0x1CE010) rfl (by omega)
theorem snapPlaneReserve (i : ErgNo) (data : Data) : Statement (.snapPlaneReserve i data) := of_some (o := 0x1C0020 + 0x40 * i.val) rfl (by omega)
theorem snapPlaneRelease (i : ErgNo) (data : Data) : Statement (.snapPlaneRelease i data) := of_some (o := 0x1C0020 + 0x40 * i.val) rfl (by omega)
theorem snapFree (i : ErgNo) (data : Data) : Statement (.snapFree i data) := of_some (o := 0x1C0020 + 0x40 * i.val) rfl (by omega)
theorem snapGo (data : Data) : Statement (.snapGo data) := of_some (o := 0x1CE100) rfl (by omega)
theorem snapshotEdge : Statement (.snapshotEdge) := of_none rfl
theorem ergActivation : Statement (.ergActivation) := of_none rfl
theorem planeScrubWord (i : ErgNo) (plane : Option PlaneNo) (dune : Fin 16) (part : Fin 32) (word : Fin 320) (flips : List (Fin 72)) : Statement (.planeScrubWord i plane dune part word flips) := of_none rfl
theorem powerUpLoad (dies : BitVec 7) : Statement (.powerUpLoad dies) := of_none rfl
theorem laneCfgWrite (n : LaneNo) (data : Data) : Statement (.laneCfgWrite n data) := of_some (o := 0x340000 + 0x800 * n.val) rfl (by omega)
theorem rxEnable (n : LaneNo) (data : Data) : Statement (.rxEnable n data) := of_some (o := 0x340000 + 0x800 * n.val) rfl (by omega)
theorem txEnable (n : LaneNo) (data : Data) : Statement (.txEnable n data) := of_some (o := 0x340000 + 0x800 * n.val) rfl (by omega)
theorem rxDisable (n : LaneNo) (data : Data) : Statement (.rxDisable n data) := of_some (o := 0x340000 + 0x800 * n.val) rfl (by omega)
theorem txDisable (n : LaneNo) (data : Data) : Statement (.txDisable n data) := of_some (o := 0x340000 + 0x800 * n.val) rfl (by omega)
theorem lanePortWrite (n : LaneNo) (data : Data) : Statement (.lanePortWrite n data) := of_some (o := 0x340010 + 0x800 * n.val) rfl (by omega)
theorem signalDetect (n : LaneNo) : Statement (.signalDetect n) := of_none rfl
theorem rxLock (n : LaneNo) : Statement (.rxLock n) := of_none rfl
theorem txPllLock (n : LaneNo) : Statement (.txPllLock n) := of_none rfl
theorem alignmentGained (n : LaneNo) : Statement (.alignmentGained n) := of_none rfl
theorem alignmentLost (n : LaneNo) : Statement (.alignmentLost n) := of_none rfl
theorem signalLost (n : LaneNo) (present : Bool) : Statement (.signalLost n present) := of_none rfl
theorem marginGo (n : LaneNo) (data : Data) : Statement (.marginGo n data) := of_some (o := 0x340048 + 0x800 * n.val) rfl (by omega)
theorem marginPointEnd (n : LaneNo) (errors : BitVec 41) : Statement (.marginPointEnd n errors) := of_none rfl
theorem fecLatch (q : QuadNo) (data : Data) : Statement (.fecLatch q data) := of_some (o := 0x380000 + 0x100 * q.val) rfl (by omega)
theorem fecClear (q : QuadNo) (data : Data) : Statement (.fecClear q data) := of_some (o := 0x380000 + 0x100 * q.val) rfl (by omega)
theorem dawnMatch (n : LaneNo) (peak : Nat) (mv : List Int) : Statement (.dawnMatch n peak mv) := of_none rfl
theorem gioCfgWrite (k : PinNo) (data : Data) : Statement (.gioCfgWrite k data) := of_some (o := 0x440000 + 0x8 * k.val) rfl (by omega)
theorem recordBeat (q : QueueNo) : Statement (.recordBeat q) := of_none rfl
theorem postCountExpiry (q : QueueNo) : Statement (.postCountExpiry q) := of_none rfl
theorem queueEnable (q : QueueNo) (data : Data) : Statement (.queueEnable q data) := of_some (o := 0x3E0000 + 0x80 * q.val) rfl (by omega)
theorem queueDisable (q : QueueNo) (data : Data) : Statement (.queueDisable q data) := of_some (o := 0x3E0000 + 0x80 * q.val) rfl (by omega)
theorem queueConfigWrite (q : QueueNo) (reg : QueueReg) (data : Data) : Statement (.queueConfigWrite q reg data) :=
  match reg with
  | .ctl => of_some (o := 0x3E0000 + 0x80 * q.val) rfl (by omega)
  | .ring => of_some (o := 0x3E0008 + 0x80 * q.val) rfl (by omega)
  | .port => of_some (o := 0x3E0010 + 0x80 * q.val) rfl (by omega)
  | .drain => of_some (o := 0x3E0018 + 0x80 * q.val) rfl (by omega)
theorem queueRdWrite (q : QueueNo) (data : Data) : Statement (.queueRdWrite q data) := of_some (o := 0x3E0030 + 0x80 * q.val) rfl (by omega)
theorem cmdDropRem (q : QueueNo) : Statement (.cmdDropRem q) := of_some (o := 0x3E0038 + 0x80 * q.val) rfl (by omega)
theorem cmdStart (q : QueueNo) : Statement (.cmdStart q) := of_some (o := 0x3E0038 + 0x80 * q.val) rfl (by omega)
theorem cmdStop (q : QueueNo) : Statement (.cmdStop q) := of_some (o := 0x3E0038 + 0x80 * q.val) rfl (by omega)
theorem cmdFreeze (q : QueueNo) : Statement (.cmdFreeze q) := of_some (o := 0x3E0038 + 0x80 * q.val) rfl (by omega)
theorem cmdRearm (q : QueueNo) : Statement (.cmdRearm q) := of_some (o := 0x3E0038 + 0x80 * q.val) rfl (by omega)
theorem drainBurst (q : QueueNo) : Statement (.drainBurst q) := of_none rfl
theorem drainWriteAck (q : QueueNo) : Statement (.drainWriteAck q) := of_none rfl
theorem drainWriteError (q : QueueNo) : Statement (.drainWriteError q) := of_none rfl
theorem tailTimerExpiry (q : QueueNo) : Statement (.tailTimerExpiry q) := of_none rfl
theorem regionCfgWrite (g : RegionNo) (data : Data) : Statement (.regionCfgWrite g data) := of_some (o := 0x3E8000 + 0x40 * g.val) rfl (by omega)
theorem regionRdWrite (g : RegionNo) (data : Data) : Statement (.regionRdWrite g data) := of_some (o := 0x3E8010 + 0x40 * g.val) rfl (by omega)
theorem sequencerRun (data : Data) : Statement (.sequencerRun data) := of_some (o := 0x3EA000) rfl (by omega)
theorem swtrig (data : Data) : Statement (.swtrig data) := of_some (o := 0x3EA000) rfl (by omega)
theorem seqCounterExpiry (c : Fin 4) : Statement (.seqCounterExpiry c) := of_none rfl
theorem seqTimerExpiry (c : Fin 4) : Statement (.seqTimerExpiry c) := of_none rfl
theorem queueAction (layer : LayerNo) : Statement (.queueAction layer) := of_none rfl
theorem playerCfgWrite (p : PlayerNo) (reg : PlayerReg) (data : Data) : Statement (.playerCfgWrite p reg data) :=
  match reg with
  | .cfg => of_some (o := 0xE0000 + 0x100 * p.val) rfl (by omega)
  | .feed => of_some (o := 0xE0008 + 0x100 * p.val) rfl (by omega)
  | .fabric => of_some (o := 0xE0010 + 0x100 * p.val) rfl (by omega)
theorem primeReached (p : PlayerNo) : Statement (.primeReached p) := of_none rfl
theorem startTimeReached (p : PlayerNo) : Statement (.startTimeReached p) := of_none rfl
theorem playerFrameEnd (p : PlayerNo) : Statement (.playerFrameEnd p) := of_none rfl
theorem journalLimitRead (p : PlayerNo) (res : HostRead) : Statement (.journalLimitRead p res) := of_none rfl
theorem playerReadError (p : PlayerNo) (status : RingStatus) : Statement (.playerReadError p status) := of_none rfl
theorem laneRunLost (p : PlayerNo) : Statement (.laneRunLost p) := of_none rfl
theorem timeSet (data : Data) : Statement (.timeSet data) := of_some (o := 0x3A0000) rfl (by omega)
theorem reEpoch (data : Data) : Statement (.reEpoch data) := of_some (o := 0x3A0000) rfl (by omega)
theorem syncInPulse (tick : Fin 40) : Statement (.syncInPulse tick) := of_none rfl
theorem syncLoadApply : Statement (.syncLoadApply) := of_none rfl
theorem syncOutPulse : Statement (.syncOutPulse) := of_none rfl
theorem compareFire (k : Fin 4) : Statement (.compareFire k) := of_none rfl
theorem stampWrap : Statement (.stampWrap) := of_none rfl
theorem nowRead (path : ReadPath) : Statement (.nowRead path) := of_none rfl
theorem bridgeEnd (data : Data) : Statement (.bridgeEnd data) := of_some (o := 0x3A0108) rfl (by omega)
theorem bridgeHoldExpiry : Statement (.bridgeHoldExpiry) := of_none rfl
theorem engineNop (e : EngNo) : Statement (.engineNop e) := of_none rfl
theorem mac (e : EngNo) : Statement (.mac e) := of_none rfl
theorem adda (e : EngNo) : Statement (.adda e) := of_none rfl
theorem accop (e : EngNo) : Statement (.accop e) := of_none rfl
theorem nar (e : EngNo) : Statement (.nar e) := of_none rfl
theorem engineCmp (e : EngNo) : Statement (.engineCmp e) := of_none rfl
theorem hist (e : EngNo) : Statement (.hist e) := of_none rfl
theorem divs (e : EngNo) : Statement (.divs e) := of_none rfl
theorem marg (e : EngNo) : Statement (.marg e) := of_none rfl
theorem engineMarginEnd (e : EngNo) (lane : Fin 16) (errors : BitVec 41) : Statement (.engineMarginEnd e lane errors) := of_none rfl
theorem cntr (e : EngNo) : Statement (.cntr e) := of_none rfl
theorem setx (e : EngNo) : Statement (.setx e) := of_none rfl
theorem addx (e : EngNo) : Statement (.addx e) := of_none rfl
theorem loop (e : EngNo) : Statement (.loop e) := of_none rfl
theorem jmp (e : EngNo) : Statement (.jmp e) := of_none rfl
theorem ldm (e : EngNo) : Statement (.ldm e) := of_none rfl
theorem stm (e : EngNo) : Statement (.stm e) := of_none rfl
theorem engineTransferLine (e : EngNo) (status : RingStatus) : Statement (.engineTransferLine e status) := of_none rfl
theorem setb (e : EngNo) : Statement (.setb e) := of_none rfl
theorem wait (e : EngNo) : Statement (.wait e) := of_none rfl
theorem trig (e : EngNo) : Statement (.trig e) := of_none rfl
theorem evt (e : EngNo) : Statement (.evt e) := of_none rfl
theorem halt (e : EngNo) : Statement (.halt e) := of_none rfl
theorem engineEnable (e : EngNo) (data : Data) : Statement (.engineEnable e data) := of_some (o := 0x3C0000 + 0x100 * e.val) rfl (by omega)
theorem engineStep (e : EngNo) (data : Data) : Statement (.engineStep e data) := of_some (o := 0x3C0000 + 0x100 * e.val) rfl (by omega)
theorem engineResume (e : EngNo) (data : Data) : Statement (.engineResume e data) := of_some (o := 0x3C0000 + 0x100 * e.val) rfl (by omega)
theorem engineAbort (e : EngNo) (data : Data) : Statement (.engineAbort e data) := of_some (o := 0x3C0000 + 0x100 * e.val) rfl (by omega)
theorem engineClear (e : EngNo) (data : Data) : Statement (.engineClear e data) := of_some (o := 0x3C0000 + 0x100 * e.val) rfl (by omega)
theorem engineMapWrite (e : EngNo) (m : Fin 2) (data : Data) : Statement (.engineMapWrite e m data) := of_some (o := 0x3C0010 + 0x100 * e.val + 0x8 * m.val) rfl (by omega)
theorem progDataAccess (e : EngNo) (acc : RegAcc) : Statement (.progDataAccess e acc) :=
  match acc with
  | .read _ => of_none rfl
  | .write _ => of_some (o := 0x3C0028 + 0x100 * e.val) rfl (by omega)
theorem memDataAccess (e : EngNo) (acc : RegAcc) : Statement (.memDataAccess e acc) :=
  match acc with
  | .read _ => of_none rfl
  | .write _ => of_some (o := 0x3C0038 + 0x100 * e.val) rfl (by omega)
theorem oasisPortCommand (i : GroupNo) : Statement (.oasisPortCommand i) := of_none rfl
theorem oasisPortResponse (i : GroupNo) : Statement (.oasisPortResponse i) := of_none rfl
theorem oasisRingAccess (i : GroupNo) (req : ReqId) (off : Nat) (acc : MemAcc) : Statement (.oasisRingAccess i req off acc) := of_none rfl
theorem oasisWriteback (i : GroupNo) (clean : Bool) : Statement (.oasisWriteback i clean) := of_none rfl
theorem oasisSelfTest (layer : LayerNo) (bad : List Nat) : Statement (.oasisSelfTest layer bad) := of_none rfl
theorem oasisSelfTestEnd (layer : LayerNo) : Statement (.oasisSelfTestEnd layer) := of_none rfl
theorem oasisTestStateWrite (i : GroupNo) (data : Data) : Statement (.oasisTestStateWrite i data) := of_some (o := 0x240000 + 0x40 * i.val) rfl (by omega)
theorem oasisTestWrite (data : Data) : Statement (.oasisTestWrite data) := of_some (o := 0x242098) rfl (by omega)
theorem oasisTestRead (data : Data) : Statement (.oasisTestRead data) := of_some (o := 0x242098) rfl (by omega)
theorem oasisFportWrite (i : GroupNo) (data : Data) : Statement (.oasisFportWrite i data) := of_some (o := 0x240008 + 0x40 * i.val) rfl (by omega)
theorem confClear (data : Data) : Statement (.confClear data) := of_some (o := 0x242020) rfl (by omega)
theorem dramRequest (p : CtlNo) (failReads : ReadErrs) : Statement (.dramRequest p failReads) := of_none rfl
theorem throttleHoldExpiry (p : CtlNo) (req : ReqId) (bank : Nat) : Statement (.throttleHoldExpiry p req bank) := of_none rfl
theorem activationCounterClear (p : CtlNo) : Statement (.activationCounterClear p) := of_none rfl
theorem dramWriteback (p : CtlNo) (clean : Bool) : Statement (.dramWriteback p clean) := of_none rfl
theorem patrolScrubLine (p : CtlNo) (failReads : ReadErrs) : Statement (.patrolScrubLine p failReads) := of_none rfl
theorem refresh (p : CtlNo) (bank : Nat) (own : Bool) : Statement (.refresh p bank own) := of_none rfl
theorem refreshReportPoll (p : CtlNo) (ch : Fin 4) (rate : BitVec 5) : Statement (.refreshReportPoll p ch rate) := of_none rfl
theorem retrainPeriodic (p : CtlNo) (ch : Fin 4) : Statement (.retrainPeriodic p ch) := of_none rfl
theorem cmdRetrain (p : CtlNo) (data : Data) : Statement (.cmdRetrain p data) := of_some (o := 0x280058 + 0x1000 * p.val) rfl (by omega)
theorem retrainEnd (p : CtlNo) (ch : Fin 4) (ok : Bool) : Statement (.retrainEnd p ch ok) := of_none rfl
theorem trainingEnd (p : CtlNo) (failed : BitVec 4) : Statement (.trainingEnd p failed) := of_none rfl
theorem clearingEnd (p : CtlNo) : Statement (.clearingEnd p) := of_none rfl
theorem clrCnt (p : CtlNo) (data : Data) : Statement (.clrCnt p data) := of_some (o := 0x280058 + 0x1000 * p.val) rfl (by omega)
theorem windowCfgWrite (w : WinNo) (data : Data) : Statement (.windowCfgWrite w data) := of_some (o := 0x2A0000 + 0x10 * w.val) rfl (by omega)
theorem windowMaskWrite (w : WinNo) (data : Data) : Statement (.windowMaskWrite w data) := of_some (o := 0x2A0008 + 0x10 * w.val) rfl (by omega)
theorem presetWrite (p : CtlNo) (data : Data) : Statement (.presetWrite p data) := of_some (o := 0x280000 + 0x1000 * p.val) rfl (by omega)
theorem requestTranslate (req : ReqId) (addr : Nat) (acc : MemAcc) : Statement (.requestTranslate req addr acc) := of_none rfl
theorem driftLine (failReads : ReadErrs) : Statement (.driftLine failReads) := of_none rfl
theorem driftCheckpointConfirm : Statement (.driftCheckpointConfirm) := of_none rfl
theorem driftCheckpointRetry : Statement (.driftCheckpointRetry) := of_none rfl
theorem driftPause (data : Data) : Statement (.driftPause data) := of_some (o := 0x300600) rfl (by omega)
theorem laneDeclaredFailing (x : Crossing) (lane : Fin 76) : Statement (.laneDeclaredFailing x lane) := of_none rfl
theorem spareSwapEnd (x : Crossing) (agree : Bool) : Statement (.spareSwapEnd x agree) := of_none rfl
theorem repairRecordWrite : Statement (.repairRecordWrite) := of_none rfl
theorem riserTransfer (x : RiserNo) (dest : Fin 7) (seq : BitVec 10) (body : List (BitVec 8)) (crc : BitVec 16) : Statement (.riserTransfer x dest seq body crc) := of_none rfl
theorem riserAck (x : RiserNo) (seq : BitVec 10) : Statement (.riserAck x seq) := of_none rfl
theorem riserReplayTimeout (x : RiserNo) : Statement (.riserReplayTimeout x) := of_none rfl
theorem sensorRead (readings : List SensorIn) : Statement (.sensorRead readings) := of_none rfl
theorem thermalDormant (k : SensorNo) (page : HostRead) : Statement (.thermalDormant k page) := of_none rfl
theorem shadeWindow : Statement (.shadeWindow) := of_none rfl
theorem interventionEscalate (i : ErgNo) : Statement (.interventionEscalate i) := of_none rfl
theorem interventionEnd (i : ErgNo) : Statement (.interventionEnd i) := of_none rfl
theorem thmCtlWrite (data : Data) : Statement (.thmCtlWrite data) := of_some (o := 0x400000) rfl (by omega)
theorem wearSample : Statement (.wearSample) := of_none rfl
theorem wearLogWrite : Statement (.wearLogWrite) := of_none rfl
theorem dailyNarrow : Statement (.dailyNarrow) := of_none rfl
theorem flitInject (ring : Fin 6) (stop : Fin 48) (hdr : BitVec 128) (body : List (BitVec 8)) (class0Slot : Bool) : Statement (.flitInject ring stop hdr body class0Slot) := of_none rfl
theorem packetEject (ring : Fin 6) (stop : Fin 48) : Statement (.packetEject ring stop) := of_none rfl
theorem reservePacket (hdr : BitVec 128) : Statement (.reservePacket hdr) := of_none rfl
theorem grantPacket (hdr : BitVec 128) : Statement (.grantPacket hdr) := of_none rfl
theorem ringResponse (hdr : BitVec 128) : Statement (.ringResponse hdr) := of_none rfl
theorem tableSwitch (data : Data) : Statement (.tableSwitch data) := of_some (o := 0x100008) rfl (by omega)
theorem drainMarkerReturn (ring : Fin 6) : Statement (.drainMarkerReturn ring) := of_none rfl
theorem tblDataWrite (data : Data) : Statement (.tblDataWrite data) := of_some (o := 0x100018) rfl (by omega)
theorem wakeOnAccessTimeout (dom : DomNo) : Statement (.wakeOnAccessTimeout dom) := of_none rfl
theorem traceEnable (data : Data) : Statement (.traceEnable data) := of_some (o := 0x141008) rfl (by omega)
theorem probeClear (data : Data) : Statement (.probeClear data) := of_some (o := 0x141000) rfl (by omega)
theorem refinLost : Statement (.refinLost) := of_none rfl
theorem refinPresent : Statement (.refinPresent) := of_none rfl
theorem rootLock (aon : Data) : Statement (.rootLock aon) := of_none rfl
theorem rootWaitEvent : Statement (.rootWaitEvent) := of_none rfl
theorem crystalLost : Statement (.crystalLost) := of_none rfl
theorem crystalQualified : Statement (.crystalQualified) := of_none rfl
theorem ioscReady : Statement (.ioscReady) := of_none rfl
theorem ioscLost : Statement (.ioscLost) := of_none rfl
theorem gateWrite (data : Data) : Statement (.gateWrite data) := of_some (o := 0x10010) rfl (by omega)
theorem fmeterGo (data : Data) : Statement (.fmeterGo data) := of_some (o := 0x10018) rfl (by omega)
theorem fmeterDone (count : BitVec 48) : Statement (.fmeterDone count) := of_none rfl
theorem powerOnReset : Statement (.powerOnReset) := of_none rfl
theorem warmReset (data : Data) : Statement (.warmReset data) := of_some (o := 0x30000) rfl (by omega)
theorem functionLevelReset : Statement (.functionLevelReset) := of_none rfl
theorem perst : Statement (.perst) := of_none rfl
theorem domainReset (data : Data) : Statement (.domainReset data) := of_some (o := 0x30008) rfl (by omega)
theorem domainResetRelease (dom : DomNo) : Statement (.domainResetRelease dom) := of_none rfl
theorem reqActive (data : Data) : Statement (.reqActive data) := of_some (o := 0x20000) rfl (by omega)
theorem reqQuiet (data : Data) : Statement (.reqQuiet data) := of_some (o := 0x20000) rfl (by omega)
theorem reqRest (data : Data) : Statement (.reqRest data) := of_some (o := 0x20000) rfl (by omega)
theorem reqDormant (data : Data) : Statement (.reqDormant data) := of_some (o := 0x20000) rfl (by omega)
theorem rootStop (aon : Data) (level : Option WakeSrc) : Statement (.rootStop aon level) := of_none rfl
theorem wakeSourceLevel (src : WakeSrc) : Statement (.wakeSourceLevel src) := of_none rfl
theorem wakeSourceEdge (src : WakeSrc) (inWindow : Bool) : Statement (.wakeSourceEdge src inWindow) := of_none rfl
theorem wakeTimerMatch : Statement (.wakeTimerMatch) := of_none rfl
theorem wakeFromRest (aon : Data) : Statement (.wakeFromRest aon) := of_none rfl
theorem wakeFromDormant (aon : Data) (padKept : Bool) : Statement (.wakeFromDormant aon padKept) := of_none rfl
theorem domainPowerDown (data : Data) : Statement (.domainPowerDown data) := of_some (o := 0x20038) rfl (by omega)
theorem domainPowerUp (data : Data) : Statement (.domainPowerUp data) := of_some (o := 0x20038) rfl (by omega)
theorem powerLoss (aux : Bool) : Statement (.powerLoss aux) := of_none rfl
theorem mainUndervoltage : Statement (.mainUndervoltage) := of_none rfl
theorem overcurrent : Statement (.overcurrent) := of_none rfl
theorem passSwitchClose : Statement (.passSwitchClose) := of_none rfl
theorem softStartEnd : Statement (.softStartEnd) := of_none rfl
theorem heartbeat (dst : SvNo) : Statement (.heartbeat dst) := of_none rfl
theorem heartbeatTimeout (who : SvNo) : Statement (.heartbeatTimeout who) := of_none rfl
theorem supervisorSelfCheckEnd (c : SvNo) (pass : Bool) : Statement (.supervisorSelfCheckEnd c pass) := of_none rfl
theorem watchdogExpiry (c : CoreNo) : Statement (.watchdogExpiry c) := of_none rfl
theorem recoveryNeed (kind : BitVec 8) (target : Data) : Statement (.recoveryNeed kind target) := of_none rfl
theorem coreHalt (c : CoreNo) (data : Data) : Statement (.coreHalt c data) := of_some (o := 0x60100 + 0x200 * c.val) rfl (by omega)
theorem coreResume (c : CoreNo) (data : Data) : Statement (.coreResume c data) := of_some (o := 0x60100 + 0x200 * c.val) rfl (by omega)
theorem coreStep (c : CoreNo) (data : Data) : Statement (.coreStep c data) := of_some (o := 0x60100 + 0x200 * c.val) rfl (by omega)
theorem haltReservationTimeout (c : CoreNo) : Statement (.haltReservationTimeout c) := of_none rfl
theorem coreComparatorMatch (c : CoreNo) (kind : CmpKind) (addr : BitVec 32) : Statement (.coreComparatorMatch c kind addr) := of_none rfl
theorem dirWrite (c : CoreNo) (data : Data) : Statement (.dirWrite c data) := of_some (o := 0x60110 + 0x200 * c.val) rfl (by omega)
theorem accDataWrite (c : CoreNo) (data : Data) : Statement (.accDataWrite c data) := of_some (o := 0x60128 + 0x200 * c.val) rfl (by omega)
theorem accDataRead (c : CoreNo) : Statement (.accDataRead c) := of_none rfl
theorem vtToWrite (c : SvNo) (data : Data) : Statement (.vtToWrite c data) := of_some (o := 0x60180 + 0x200 * c.val) rfl (by omega)
theorem vtFromWrite (c : SvNo) (word : BitVec 32) : Statement (.vtFromWrite c word) := of_none rfl
theorem vtFromRead (c : SvNo) (path : ReadPath) : Statement (.vtFromRead c path) := of_none rfl
theorem extest (cells : List Bool) : Statement (.extest cells) := of_none rfl
theorem samplePreload (cells : List Bool) : Statement (.samplePreload cells) := of_none rfl
theorem devinfo : Statement (.devinfo) := of_none rfl
theorem dbgreg (dr : BitVec 88) : Statement (.dbgreg dr) := of_none rfl
theorem unlock (word : BitVec 32) : Statement (.unlock word) := of_none rfl
theorem bypass (code : BitVec 8) : Statement (.bypass code) := of_none rfl
theorem hostLinkDown : Statement (.hostLinkDown) := of_none rfl
theorem domainWakeEnd (dom : DomNo) : Statement (.domainWakeEnd dom) := of_none rfl
theorem ioscReadyTimeout : Statement (.ioscReadyTimeout) := of_none rfl
theorem watchdogRestart (c : CoreNo) (period : BitVec 24) : Statement (.watchdogRestart c period) := of_none rfl
theorem vtToRead (c : SvNo) : Statement (.vtToRead c) := of_none rfl
theorem mainLostInDormant : Statement (.mainLostInDormant) := of_none rfl
theorem laneTakesGrain (p : PlayerNo) : Statement (.laneTakesGrain p) := of_none rfl
theorem laneRateWrite (n : LaneNo) (data : Data) : Statement (.laneRateWrite n data) := of_some (o := 0x340008 + 0x800 * n.val) rfl (by omega)
theorem laneAlignCtlWrite (n : LaneNo) (data : Data) : Statement (.laneAlignCtlWrite n data) := of_some (o := 0x340040 + 0x800 * n.val) rfl (by omega)
theorem sandglassCfgWrite (l : ListNo) (data : Data) : Statement (.sandglassCfgWrite l data) := of_some (o := 0xE4000 + 0x40 * l.val) rfl (by omega)
theorem syncInWrite (reg : SyncReg) (data : Data) : Statement (.syncInWrite reg data) :=
  match reg with
  | .syncIn => of_some (o := 0x3A0048) rfl (by omega)
  | .loadNs => of_some (o := 0x3A0050) rfl (by omega)
  | .loadSec => of_some (o := 0x3A0058) rfl (by omega)
theorem syncOutWrite (data : Data) : Statement (.syncOutWrite data) := of_some (o := 0x3A0068) rfl (by omega)
theorem cmpCtlWrite (k : Fin 4) (data : Data) : Statement (.cmpCtlWrite k data) := of_some (o := 0x3A0080 + 0x20 * k.val) rfl (by omega)
theorem schSpillStoreWrite (reg : SchReg) (data : Data) : Statement (.schSpillStoreWrite reg data) :=
  match reg with
  | .spill => of_some (o := 0xC0008) rfl (by omega)
  | .store => of_some (o := 0xC0000) rfl (by omega)
theorem tpChWrite (i : ErgNo) (data : Data) : Statement (.tpChWrite i data) := of_some (o := 0xC1000 + 0x8 * i.val) rfl (by omega)
theorem evtCfgWrite (data : Data) : Statement (.evtCfgWrite data) := of_some (o := 0x480008) rfl (by omega)
theorem testLogicReset : Statement (.testLogicReset) := of_none rfl

end Sys2Proof.Laws.RegTarget
end

