-- ==== Sys2Proof/Tests/Slice0.lean ====
section
/-!
SUPPORT. Our own tests: for each statement a theorem that shows states and operands which meet its hypotheses together, clause by clause, at
boundary values where a clause has a range; an ill-formed command for each check of WellFormed; and small tests of one step each, whose
expected values are worked out from the spec by hand.
-/
namespace Sys2Proof.Tests
open Sys2Proof Sys2Proof.Machine

set_option Elab.async false

/-! ### Small states -/

/-- A device at work: the root has locked and runs, the counts have started, the management class is out of reset. -/
def up : State :=
  { State.reset with
    clk := { State.reset.clk with refin := true, rootEver := true, rootRun := true, iosc := .ready, xtal := true, xtalWas := true, mgmtReset := false }
    time := { State.reset.time with run := true } }

/-- A state with register fields set. -/
def flds (s : State) (l : List (Nat × Fld × Nat)) : State := l.foldl (fun s x => s.setFld x.1 x.2.1 x.2.2) s

/-- An item with an opcode, and numbers in the bytes of its descriptor, each as (byte, number). -/
def item (opc : Nat) (l : List (Nat × Nat)) : Item :=
  { ring := 0, wsn := 0, desc := BitVec.ofNat 512 (opc + (l.map (fun x => 256 ^ x.1 * x.2)).sum) }

/-- What an executor performs: an effective item, so many steps on. -/
def doing (it : Item) (step : Nat) : Running := { item := it, phase := .effective, step := step }

/-- A state in which an executor performs an item. -/
def busy (s : State) (k : Nat) (c : Running) : State := s.setCur k (some c)

/-- A device at work whose oases have all been cleared. -/
def cleared : State := (List.range 128).foldl (fun s i => s.setFld (OAS_G_STATUS i) OAS_G_STATUS_CLEARING 0) up

/-- A device at work whose controller 0 is READY, with a window and a key domain of 64 MiB over it and every right in it. -/
def ram : State :=
  ((flds up [(DRMC_WIN_CFG 0, DRMC_WIN_CFG_VALID, 1), (DRMC_WIN_CFG 0, DRMC_WIN_CFG_SIZE, 64), (CRY_DOM_CFG 0, CRY_DOM_CFG_VALID, 1),
      (CRY_DOM_CFG 0, CRY_DOM_CFG_BLANK_OK, 1), (CRY_DOM_CFG 0, CRY_DOM_CFG_SIZE, 64), (DRMC_STATUS 0, DRMC_STATUS_STATE, ctlReady),
      (CRY_DOM_KEY 0, CRY_DOM_KEY_KEY_VALID, 1)]).setReg (DRMC_WIN_MASK 0) 1).setReg (CRY_DOM_RIGHTS 0 0) (BitVec.ofNat 64 (2 ^ 64 - 1))
    |>.setReg (CRY_DOM_RIGHTS 0 1) (BitVec.ofNat 64 (2 ^ 64 - 1))

/-! ### What the statements assume can be met: the block, time, clocks and the host link -/

theorem wit_LostWrites : Instr.regOff (.timeSet 0) = some TSU_CTL ∧ State.reset.blockUp TSU_CTL = false := by decide

theorem wit_TimeSets : up.ready TSU_CTL = true ∧ (TSU_CTL_SET.on (TSU_CTL_SET.put 0 1) = true ∧ TSU_CTL_EPOCH.on (TSU_CTL_SET.put 0 1) = false)
    ∧ (flds up [(TSU_SET_NS, TSU_SET_NS_NS, 999999999)]).fld TSU_SET_NS TSU_SET_NS_NS < 1000000000
    ∧ 1000000000 ≤ (flds up [(TSU_SET_NS, TSU_SET_NS_NS, 1000000000)]).fld TSU_SET_NS TSU_SET_NS_NS
    ∧ (TSU_CTL_EPOCH.on (TSU_CTL_EPOCH.put 0 1) = true ∧ TSU_CTL_SET.on (TSU_CTL_EPOCH.put 0 1) = false)
    ∧ up.queuesOff = true ∧ (flds up [(CAP_Q_STATUS 255, CAP_Q_STATUS_STATE, 1)]).queuesOff = false := by decide +kernel

theorem wit_SyncInPulses : up.clk.rootRun = true ∧ up.time.run = true ∧ up.fldOn TSU_SYNC_IN TSU_SYNC_IN_ARM = false
    ∧ (flds up [(TSU_SYNC_IN, TSU_SYNC_IN_ARM, 1), (TSU_SYNC_IN, TSU_SYNC_IN_LOAD, 1)]).fldOn TSU_SYNC_IN TSU_SYNC_IN_LOAD = true
    ∧ (flds up [(TSU_SYNC_IN, TSU_SYNC_IN_ARM, 1)]).fldOn TSU_SYNC_IN TSU_SYNC_IN_EPOCH = false
    ∧ (flds up [(TSU_SYNC_IN, TSU_SYNC_IN_ARM, 1)]).fldOn TSU_SYNC_IN TSU_SYNC_IN_ARM = true
    ∧ ({ up with time := { up.time with sync := [{ left := 0, load := some 0, stamp := none }, { left := 1, load := none, stamp := some 0 }] } } : State).time.sync
        = [{ left := 0, load := some 0, stamp := none }, { left := 1, load := none, stamp := some 0 }]
    ∧ up.ready TSU_SYNC_IN = true ∧ up.ready TSU_SYNC_LOAD_NS = true ∧ up.ready TSU_SYNC_LOAD_SEC = true := by decide

/-- An output enabled at time 0, with a period in ns. -/
def cmpAt (k period : Nat) : State :=
  let s := up.setReg (outCtl k) (BitVec.ofNat 64 (2 ^ 63 + period * 2 ^ 32))
  { s with time := { s.time with outs := 2 ^ k } }

theorem wit_TimedOutputs : (cmpAt 3 0).outTime 3 = some 0 ∧ natBit (cmpAt 3 0).time.outs 3 = true ∧ natBit (cmpAt 0 1000).time.outs 0 = true ∧ natBit (cmpAt 4 0).time.outs 4 = true
    ∧ natBits ((cmpAt 3 0).reg (TSU_CMP_CTL 3)).toNat 32 30 = 0 ∧ natBits ((cmpAt 0 1000).reg (TSU_CMP_CTL 0)).toNat 32 30 ≠ 0
    ∧ (cmpAt 0 1000).outTime 0 = some 0 ∧ (cmpAt 4 0).outTime 4 = some 0
    ∧ up.ready TSU_SYNC_OUT = true ∧ (∀ k : Fin 4, up.ready (TSU_CMP_CTL k) = true)
    ∧ (∀ p ∈ [1, 999], natBits (plainWrite TSU_SYNC_OUT_info (up.reg TSU_SYNC_OUT) (BitVec.ofNat 64 (p * 2 ^ 32))).toNat 32 30 = p)
    ∧ (∀ p ∈ [0, 1000], natBits (plainWrite TSU_CMP_CTL_info (up.reg (TSU_CMP_CTL 0)) (BitVec.ofNat 64 (p * 2 ^ 32))).toNat 32 30 = p)
    ∧ (∀ p ∈ [1, 999], natBits (plainWrite TSU_CMP_CTL_info (up.reg (TSU_CMP_CTL 0)) (BitVec.ofNat 64 (p * 2 ^ 32))).toNat 32 30 = p)
    ∧ (∀ p ∈ [0, 1000], natBits (plainWrite TSU_SYNC_OUT_info (up.reg TSU_SYNC_OUT) (BitVec.ofNat 64 (p * 2 ^ 32))).toNat 32 30 = p) := by decide

theorem wit_CountsAdvance : (up.clk.rootRun = true ∧ up.time.sync = [] ∧ up.time.setDue = none ∧ up.time.epochDue = false ∧ up.time.run = true)
    ∧ (let s : State := { up with time := { up.time with run := false } }; s.clk.rootRun = true ∧ s.time.sync = [] ∧ s.time.run = false)
    ∧ ({ up with time := { up.time with wrapDue := true } } : State).time.wrapDue = true
    ∧ up.ready TSU_NOW_NS = true ∧ up.fldOn DBG_PEEK DBG_PEEK_PEEK = false ∧ up.ready TSU_BRIDGE = true ∧ TSU_BRIDGE_END.on (TSU_BRIDGE_END.put 0 1) = true
    ∧ (flds up [(TSU_BRIDGE, TSU_BRIDGE_HOLD, 1)]).fld TSU_BRIDGE TSU_BRIDGE_HOLD ≠ 0 := by decide

theorem wit_RootAndReference : (State.reset.awake = true ∧ State.reset.clk.rootRun = false ∧ State.reset.clk.rootEver = false ∧ State.reset.time.bridgeDue = false)
    ∧ up.clk.refin = true ∧ up.clk.rootRun = true
    ∧ (let s : State := { up with clk := { up.clk with refin := false }, time := { up.time with hold := some 7 } }
       s.clk.refin = false ∧ s.time.hold.isSome = true ∧ s.clk.rootRun = true)
    ∧ (let s : State := { up with time := { up.time with hold := some 7 } }; s.clk.refin = true ∧ s.time.hold.isSome = true ∧ s.awake = true) := by decide

theorem wit_ManagementClock : (up.clk.xtal = true ∧ up.clk.iosc = .ready)
    ∧ (State.reset.clk.xtal = false ∧ State.reset.clk.xtalWas = false ∧ State.reset.pwr.powered = true)
    ∧ (let s : State := { up with clk := { up.clk with iosc := .lost } }; s.clk.iosc ≠ .ready ∧ s.awake = true ∧ s.clk.mgmtReset = false)
    ∧ (let s : State := { up with clk := { up.clk with iosc := .starting, mgmtReset := true } }
       s.clk.iosc ≠ .ready ∧ s.awake = true ∧ s.clk.ioscWait = false ∧ s.clk.iosc = .starting)
    ∧ (let s := flds up [(CLK_STATUS, CLK_STATUS_MGMT_SRC, 1)]; s.clk.iosc = .ready ∧ s.fldOn CLK_STATUS CLK_STATUS_MGMT_SRC = true)
    ∧ (let s : State := { up with clk := { up.clk with ioscWait := true, iosc := .starting } }; s.clk.ioscWait = true ∧ s.clk.iosc = .starting) := by decide

theorem wit_GatesAndMeter : up.ready CLK_GATE = true ∧ up.ready CLK_FMETER_CTL = true ∧ up.meterBusy = false
    ∧ up.gateRefusal 0 true = none ∧ (up.gateRefusal 0 false).isSome = true ∧ up.gateRefusal 255 true = some 4
    ∧ (let data := CLK_FMETER_CTL_REF.put (CLK_FMETER_CTL_GO.put 0 1) 1
       let u := up.writeReg CLK_FMETER_CTL data
       CLK_FMETER_CTL_GO.on data = true ∧ u.fld CLK_FMETER_CTL CLK_FMETER_CTL_REF = 1 ∧ u.fld CLK_FMETER_CTL CLK_FMETER_CTL_MEAS = 0
         ∧ u.sourceLost 1 = false ∧ u.sourceLost 0 = false)
    ∧ (let s := flds up [(CLK_FMETER_RES, CLK_FMETER_RES_BUSY, 1), (CLK_FMETER_CTL, CLK_FMETER_CTL_REF, 1)]
       s.meterBusy = true ∧ s.sourceLost (s.fld CLK_FMETER_CTL CLK_FMETER_CTL_REF) = false
         ∧ s.sourceLost (s.fld CLK_FMETER_CTL CLK_FMETER_CTL_MEAS) = false) := by decide

theorem wit_EventRingRegisters : up.ready EVT_BASE = true ∧ up.ready EVT_HEAD = true ∧ up.ready EVT_CFG = true ∧ up.fldOn EVT_BASE EVT_BASE_EN = false
    ∧ (flds up [(EVT_BASE, EVT_BASE_EN, 1)]).fldOn EVT_BASE EVT_BASE_EN = true ∧ EVT_BASE_EN.on (EVT_BASE_EN.put 0 1) = true
    ∧ (up.reg EVT_TAIL).toNat < (1 : Data).toNat
    ∧ (let s := up.setReg EVT_TAIL 3; (s.reg EVT_HEAD).toNat ≤ (3 : Data).toNat ∧ (3 : Data).toNat ≤ (s.reg EVT_TAIL).toNat) := by decide

theorem wit_LinkAndSlot : up.hostReaches = true ∧ 2 ^ 36 - 1 < 2 ^ up.host.bar4 ∧ 2 ^ 31 - 1 < 2 ^ up.host.bar4 ∧ (ram.dramAcc 0 (ram.bar4Base + 8) (.read 8)).2.1 = 0
    ∧ (let s := (flds cleared [(QIF_BAR4_WIN, QIF_BAR4_WIN_SPACE, 1)]).setReg (CRY_OAS_RIGHTS 0) 3
       s.fldOn QIF_BAR4_WIN QIF_BAR4_WIN_SPACE = true ∧ s.hostReaches = true ∧ (s.oasAcc 64 0 8 (.write [1])).2.1 = 0) ∧ (flds up [(QIF_STATUS, QIF_STATUS_STATE, 4)]).qif = 4 ∧ accWrites (.read 8) = false
    ∧ accWrites (.write [0]) = true ∧ up.qif ≠ 4 ∧ up.fldOn QIF_BAR4_WIN QIF_BAR4_WIN_SPACE = false
    ∧ (let s : State := { up with host := { up.host with linkUp := false } }; s.host.linkUp = false ∧ s.host.present = true ∧ s.host.held = [])
    ∧ (up.pins.eject = false ∧ up.pwr.powered = true ∧ up.qif ≠ 3 ∧ up.qif ≠ 1 ∧ up.sup.kind = 0 ∧ up.pwr.st ≠ .rest ∧ up.pwr.st ≠ .dormant)
    ∧ (let s : State := { up with pwr := { up.pwr with st := .rest } }; s.pins.eject = false ∧ s.qif ≠ 3 ∧ s.pwr.st = .rest)
    ∧ (let s : State := { up with jr := { up.jr with departing := some 7 } }; s.jr.departing = some 7 ∧ s.host.linkUp = true ∧ s.host.present = true) := by decide +kernel

/-! ### Lanes, players and capture -/

theorem wit_ram : (ram.plainAcc 0 0 (.read 64)).2.1 = 0 ∧ (ram.plainAcc 0 0 (.write (List.replicate 64 0xAA))).2.1 = 0 := by decide +kernel

/-- Lane 47 bound and ready to be enabled, its pads released, with the lowest rate. -/
def laneReady : State :=
  flds { up with pins := { up.pins with cfgDone := true } } [(LANE_RATE 47, LANE_RATE_RX_KBD, 1000000), (LANE_RATE 47, LANE_RATE_TX_KBD, 1000000),
    (LANE_PORT 47, LANE_PORT_RX_BOUND, 1), (LANE_EQ_KEY 47 0, LANE_EQ_KEY_VALID, 1), (LANE_EQ_KEY 47 0, LANE_EQ_KEY_MAX_KBD, 1000000),
    (LANE_CFG 47, LANE_CFG_TX_SRC, 1)]

/-- LANE.PORT with fields set. -/
def portWith (s : State) (n : Nat) (l : List (Fld × Nat)) : Data := l.foldl (fun d f => f.1.put d f.2) (s.reg (LANE_PORT n))

theorem wit_LaneConfiguration_1 : (let s := laneReady; s.rxState 47 = rxDisabled ∧ s.txState 47 = txDisabled ∧ s.ready (LANE_CFG 47) = true
      ∧ s.ready (LANE_RATE 47) = true ∧ s.ready (LANE_ALIGN_CTL 47) = true ∧ s.padsOn 47 = true ∧ (s.player 47).cur = none)
    ∧ (let s := laneReady
       let was := s.reg (LANE_CFG 47)
       let rx := plainWrite LANE_CFG_info was (LANE_CFG_RX_EN.put was 1)
       let tx := plainWrite LANE_CFG_info was (LANE_CFG_TX_EN.put was 1)
       LANE_CFG_RX_EN.on was = false ∧ LANE_CFG_TX_EN.on was = false
         ∧ (LANE_CFG_RX_EN.on rx = true ∧ LANE_CFG_TX_EN.on rx = false ∧ (s.setReg (LANE_CFG 47) rx).rxFault 47 = none)
         ∧ (LANE_CFG_TX_EN.on tx = true ∧ LANE_CFG_RX_EN.on tx = false ∧ (s.setReg (LANE_CFG 47) tx).txFault 47 = none)
         ∧ (LANE_CFG_RX_EN.on (plainWrite LANE_CFG_info rx 0) = false ∧ LANE_CFG_TX_EN.on (plainWrite LANE_CFG_info tx 0) = false
            ∧ (s.lane 47).margin = none)) := by decide +kernel

theorem wit_LaneConfiguration_2 : (let new := plainWrite LANE_PORT_info (up.reg (LANE_PORT 0)) (LANE_PORT_TX_LEAD.put 0 4)
       up.ready (LANE_PORT 0) = true ∧ LANE_PORT_RX_BOUND.on (up.reg (LANE_PORT 0)) = false ∧ LANE_PORT_TX_BOUND.on (up.reg (LANE_PORT 0)) = false
         ∧ LANE_PORT_RX_BOUND.on new = false ∧ LANE_PORT_TX_BOUND.on new = false ∧ 4 ≤ LANE_PORT_TX_LEAD.get new)
    ∧ (let s := laneReady
       let was := s.reg (LANE_PORT 47)
       let new := plainWrite LANE_PORT_info was (portWith s 47 [(LANE_PORT_RX_CH, 54)])
       (was ^^^ new) &&& BitVec.ofNat 64 lanePortMasks.2 = 0 ∧ (was ^^^ new) &&& BitVec.ofNat 64 lanePortMasks.1 ≠ 0 ∧ 4 ≤ LANE_PORT_TX_LEAD.get new
         ∧ LANE_PORT_RX_BOUND.on new = true
         ∧ s.bindRefused (.laneRx 47) (LANE_PORT_RX_WELL.get new) (LANE_PORT_RX_CH.get new) 9 (rxClaims 47 new) 1 (if LANE_PORT_RX_TOP.on new then 6 else 3) = false)
    ∧ (let s := laneReady
       let was := s.reg (LANE_PORT 47)
       let new := plainWrite LANE_PORT_info was (portWith s 47 [(LANE_PORT_TX_CH, 53), (LANE_PORT_TX_BOUND, 1)])
       (was ^^^ new) &&& BitVec.ofNat 64 lanePortMasks.1 = 0 ∧ (was ^^^ new) &&& BitVec.ofNat 64 lanePortMasks.2 ≠ 0 ∧ 4 ≤ LANE_PORT_TX_LEAD.get new
         ∧ LANE_PORT_TX_BOUND.on new = true
         ∧ s.bindRefused (.laneTx 47) (LANE_PORT_TX_WELL.get new) (LANE_PORT_TX_CH.get new) 10 (txClaims 47 new) 1 (if LANE_PORT_TX_TOP.on new then 6 else 3) = false) := by
  decide +kernel

/-- A lane's receive and transmit state set. -/
def laneAt (n rx tx : Nat) : State := flds up [(LANE_STATUS n, LANE_STATUS_RX_STATE, rx), (LANE_STATUS n, LANE_STATUS_TX_STATE, tx)]

/-- 64 samples of a peak of 600 mV that are the wake pattern of lane 5. -/
def dawnMv : List Int :=
  (List.range 64).map fun k => -600 + 400 * (natBits ((up.reg (LANE_WAKE_PAT0 5)).toNat + 2 ^ 64 * (up.reg (LANE_WAKE_PAT1 5)).toNat) (2 * k) 2 : Nat)

theorem wit_LaneStates : (up.detects 5 = true ∧ ({ up with pwr := { up.pwr with st := .dormant } } : State).detects 5 = false)
    ∧ (let s := flds (laneAt 5 rxAcquire 0) [(LANE_STATUS 5, LANE_STATUS_SIGDET, 1)]; s.rxState 5 = rxAcquire ∧ s.fldOn (LANE_STATUS 5) LANE_STATUS_SIGDET = true)
    ∧ (let s := flds (laneAt 5 0 txStarting) [(LANE_CFG 5, LANE_CFG_TX_IDLE, 1)]
       s.txState 5 = txStarting ∧ s.fldOn (LANE_CFG 5) LANE_CFG_TX_IDLE = true ∧ (s.player 5).cur = none)
    ∧ (let s := laneAt 5 0 txStarting
       s.txState 5 = txStarting ∧ s.fldOn (LANE_CFG 5) LANE_CFG_TX_IDLE = false ∧ (s.player 5).cur = none ∧ s.ctlIdle 5 = false
         ∧ s.playerIdles 5 = false ∧ s.pwr.st ≠ .quiet)
    ∧ (let s := (flds (laneAt 5 rxLocked 0) [(LANE_CFG 5, LANE_CFG_RX_MODE, 3)]).setLane 5 { fr := { sync := true } }
       s.rxState 5 = rxLocked ∧ s.framed 5 = true ∧ (s.lane 5).fr.sync = true ∧ rxLocked ≤ s.rxState 5 ∧ s.detects 5 = true ∧ (s.lane 5).margin = none)
    ∧ (let s := (laneAt 5 rxAligned 0).setLane 5 { fr := { lost := true } }; s.rxState 5 = rxAligned ∧ (s.lane 5).fr.lost = true)
    ∧ (let s := flds up [(LANE_WAKE 5, LANE_WAKE_EN, 1)]; s.fldOn (LANE_WAKE 5) LANE_WAKE_EN = true ∧ s.isDawn 5 600 dawnMv = true) := by decide +kernel

theorem wit_MarginFecGio : (let s := laneAt 5 rxLocked 0
      s.ready (LANE_MARGIN 5) = true ∧ LANE_MARGIN_GO.on (LANE_MARGIN_GO.put 0 1) = true ∧ s.fldOn (LANE_MARGIN 5) LANE_MARGIN_OWNED = false
        ∧ s.fldOn (LANE_MARGIN 5) LANE_MARGIN_BUSY = false ∧ rxLocked ≤ s.rxState 5)
    ∧ (let s := laneAt 5 rxAcquire 0
       s.ready (LANE_MARGIN 5) = true ∧ s.fldOn (LANE_MARGIN 5) LANE_MARGIN_OWNED = false ∧ s.fldOn (LANE_MARGIN 5) LANE_MARGIN_BUSY = false
         ∧ s.rxState 5 < rxLocked)
    ∧ ((up.setLane 5 { margin := some { owner := none, dwell := 10 } }).lane 5).margin = some { owner := none, dwell := 10 }
    ∧ up.ready (FEC_CTL 11) = true ∧ FEC_CTL_LATCH.on (FEC_CTL_LATCH.put 0 1) = true ∧ FEC_CTL_CLEAR.on (FEC_CTL_LATCH.put 0 1) = false
    ∧ FEC_CTL_CLEAR.on (FEC_CTL_CLEAR.put 0 1) = true
    ∧ (let new := plainWrite GIO_CFG_info (up.reg (GIO_CFG 3)) 0
       up.ready (GIO_CFG 3) = true ∧ gioDiff new = false ∧ gioDiff (up.reg (GIO_CFG 2)) = false
         ∧ (gioClaims 3 new).any (fun a => up.fab.claims.any (fun b => b.who != .gio 3 && claimsMeet a b)) = false) := by decide +kernel

/-- A play item with one data grain in the buffer, and the player's state. -/
def playing (st : Nat) (x : PlayItem) : State := (flds up [(SCH_PLY_STATUS 3, SCH_PLY_STATUS_STATE, st), (SCH_PLY_CFG 3, SCH_PLY_CFG_EN, 1),
  (LANE_CFG 3, LANE_CFG_TX_SRC, 1), (LANE_CFG 3, LANE_CFG_TX_EN, 1), (LANE_STATUS 3, LANE_STATUS_TX_STATE, txRun)]).setPlayer 3 { cur := some x }
def grain : BufGrain := .data 5 0 true none
def play0 : PlayItem := { item := item opPlay [(32, 2 ^ 63)], fetched := true, buf := [grain, grain] }

theorem wit_PlayerItems_1 : (let c := doing (item opPlay []) 0
      let s := busy (flds up [(SCH_PLY_CFG 3, SCH_PLY_CFG_EN, 1)]) (keyPlayer 3) c
      s.curOp (keyPlayer 3) opPlay = some c ∧ (s.player 3).cur = none ∧ s.plyState 3 ≠ pyFault ∧ s.fldOn (SCH_PLY_CFG 3) SCH_PLY_CFG_EN = true
        ∧ (s.playItem 3 c).failed = false ∧ (s.playItem 3 c).limit = 0 ∧ (s.playItem 3 c).limitAsked = none)
    ∧ (let s := busy up (keyPlayer 3) (doing (item opPlay []) 0)
       s.curOp (keyPlayer 3) opPlay = some (doing (item opPlay []) 0) ∧ (s.player 3).cur = none ∧ s.fldOn (SCH_PLY_CFG 3) SCH_PLY_CFG_EN = false)
    ∧ (let x := { play0 with item := item opPlay [] }
       let s := playing pyPriming x
       let r := State.fetchTo 3 (s.primeLevel 3) fetchFuel s x
       (s.player 3).cur = some x ∧ s.plyState 3 = pyPriming ∧ x.primed = false ∧ r.2.fetched = true ∧ r.2.buf = [grain, grain] ∧ r.2.limit = 0
         ∧ r.2.limitAsked = none ∧ r.2.waits = false ∧ (r.1.setPlay 3 { r.2 with primed := true }).plyLaneOk 3 = true ∧ r.1.mayIssue = true
         ∧ x.fetched = true ∧ x.buf = [grain, grain] ∧ x.limit = 0 ∧ x.limitAsked = none ∧ x.waits = false ∧ s.plyLaneOk 3 = true ∧ s.mayIssue = true) := by
  decide +kernel

theorem wit_PlayerItems_2 : (let x := { play0 with limitAsked := some 1 }
       let s := playing pyPlaying x
       (s.player 3).cur = some x ∧ x.limitAsked = some 1 ∧ s.host.linkUp = true ∧ s.plyState 3 = pyPlaying)
    ∧ (let x := { play0 with limit := 1 }
       let s := playing pyArmed x
       (s.player 3).cur = some x ∧ s.plyState 3 = pyArmed ∧ x.waits = true ∧ s.plyLaneOk 3 = true ∧ x.sent + x.cut < x.limit
         ∧ s.plyFabric 3 = false ∧ txIdle ≤ s.txState 3 ∧ x.item.startAt < s.time.dev + edgeUnits)
    ∧ (let x := { play0 with limit := 1 }
       let s := flds (playing pyArmed x) [(SCH_PLY_FABRIC 3, SCH_PLY_FABRIC_BOUND, 1), (SCH_PLY_CFG 3, SCH_PLY_CFG_OUT, 1)]
       (s.player 3).cur = some x ∧ s.plyState 3 = pyArmed ∧ x.waits = true ∧ s.plyLaneOk 3 = true ∧ s.plyFabric 3 = true ∧ x.item.startAt ≤ s.time.dev)
    ∧ (let s := up.setPlayer 3 { cur := some play0, endDue := true }
       (s.player 3).cur = some play0 ∧ (s.player 3).endDue = true ∧ (s.player 3).ejected = false ∧ (s.player 3).ending = none ∧ play0.buf = [grain, grain]) := by
  decide +kernel

theorem wit_PlayerCasesAndSetup_1 : (let x := { play0 with inFrame := true, begun := true }
      let s := playing pyPlaying x
      s.txState 3 = txRun ∧ s.cfgOf 3 LANE_CFG_TX_SRC = 1 ∧ s.plyFabric 3 = false ∧ s.time.run = true ∧ s.plyState 3 = pyPlaying
        ∧ (s.player 3).cur = some x ∧ (s.player 3).endDue = false ∧ x.buf = [grain, grain])
    ∧ (let s := playing pyPlaying play0; (s.player 3).cur = some play0 ∧ (s.player 3).endDue = false ∧ play0.inFrame = false ∧ s.plyFabric 3 = false
        ∧ (s.player 3).ejected = false ∧ (s.player 3).ending = none ∧ s.plyState 3 = pyPlaying ∧ RingStatus.uncorrectable ≠ RingStatus.success) := by
  decide +kernel

theorem wit_PlayerCasesAndSetup_2 : (up.ready (SCH_PLY_CFG 3) = true ∧ up.ready (SCH_PLY_FEED 3) = true ∧ up.ready (SCH_PLY_FABRIC 3) = true ∧ up.plyState 3 = pyOff)
    ∧ SCH_PLY_CFG_EN.on (plainWrite SCH_PLY_CFG_info (up.reg (SCH_PLY_CFG 3)) (SCH_PLY_CFG_EN.put 0 1)) = true
    ∧ (let s := flds up [(SCH_PLY_STATUS 3, SCH_PLY_STATUS_STATE, pyIdle), (SCH_PLY_CFG 3, SCH_PLY_CFG_EN, 1)]
       s.ready (SCH_PLY_CFG 3) = true ∧ s.plyState 3 ≠ pyOff ∧ s.plyHolds 3 = false
         ∧ plainWrite SCH_PLY_CFG_info (s.reg (SCH_PLY_CFG 3)) (SCH_PLY_CFG_EN.put (s.reg (SCH_PLY_CFG 3)) 0) = SCH_PLY_CFG_EN.put (s.reg (SCH_PLY_CFG 3)) 0)
    ∧ (let new := plainWrite SCH_PLY_FEED_info (up.reg (SCH_PLY_FEED 3)) (SCH_PLY_FEED_GROUP.put (SCH_PLY_FEED_BOUND.put 0 1) 1)
       SCH_PLY_FEED_BOUND.on new = true ∧ 64 * SCH_PLY_FEED_LAYER.get new + SCH_PLY_FEED_GROUP.get new ≠ up.storeGroup
         ∧ up.bindRefused (.playerFeed 3) (SCH_PLY_FEED_GROUP.get new) (SCH_PLY_FEED_CH.get new) (2 ^ SCH_PLY_FEED_WIDTH.get new) (feedClaims 3 new) 1
             (if SCH_PLY_FEED_LAYER.on new then 4 else 1) = false)
    ∧ SCH_PLY_FEED_BOUND.on (plainWrite SCH_PLY_FEED_info (up.reg (SCH_PLY_FEED 3)) 0) = false
    ∧ (let new := plainWrite SCH_PLY_FABRIC_info (up.reg (SCH_PLY_FABRIC 3)) (SCH_PLY_FABRIC_WELL.put (SCH_PLY_FABRIC_BOUND.put 0 1) 2)
       SCH_PLY_FABRIC_BOUND.on new = true ∧ up.bindRefused (.playerFabric 3) (SCH_PLY_FABRIC_WELL.get new) (SCH_PLY_FABRIC_CH.get new) 11
         (chanClaims (.playerFabric 3) (SCH_PLY_FABRIC_WELL.get new) (SCH_PLY_FABRIC_CH.get new) 9 1 3) 1 3 = false ∧ SCH_PLY_FABRIC_TOP.on new = false)
    ∧ SCH_PLY_FABRIC_BOUND.on (plainWrite SCH_PLY_FABRIC_info (up.reg (SCH_PLY_FABRIC 3)) 0) = false
    ∧ (playing pyIdle play0).plyState 3 ≠ pyOff := by decide +kernel

/-- A queue of group 1 of M-A with a ring of 128 KiB, in a state and a mode. -/
def queueAt (st mode : Nat) : State := flds up [(CAP_Q_STATUS 255, CAP_Q_STATUS_STATE, st), (CAP_Q_CTL 255, CAP_Q_CTL_MODE, mode),
  (CAP_Q_RING 255, CAP_Q_RING_SIZE, 2), (CAP_Q_RING 255, CAP_Q_RING_GROUP, 1), (CAP_Q_CTL 255, CAP_Q_CTL_POST, 1)]

theorem wit_QueueSetupAndCommands_1 : (let s := queueAt qOff 0
      let new := plainWrite CAP_Q_CTL_info (s.reg (CAP_Q_CTL 255)) (CAP_Q_CTL_EN.put 0 1)
      let u := s.setReg (CAP_Q_CTL 255) (CAP_Q_CTL_EN.put new (CAP_Q_CTL_EN.get (s.reg (CAP_Q_CTL 255))))
      s.queueState 255 = qOff ∧ s.ready (CAP_Q_RING 255) = true ∧ s.ready (CAP_Q_PORT 255) = true ∧ s.ready (CAP_Q_DRAIN 255) = true
        ∧ s.ready (CAP_Q_CTL 255) = true ∧ CAP_Q_CTL_MODE.get new ≠ 3 ∧ CAP_Q_CTL_EN.on new = true ∧ u.queueFault 255 = none ∧ u.queueMode 255 ≠ 2)
    ∧ (let s := flds up [(CAP_Q_RING 0, CAP_Q_RING_SIZE, 1)]
       let new := plainWrite CAP_Q_CTL_info (s.reg (CAP_Q_CTL 0)) (CAP_Q_CTL_EN.put 0 1)
       let u := s.setReg (CAP_Q_CTL 0) (CAP_Q_CTL_EN.put new (CAP_Q_CTL_EN.get (s.reg (CAP_Q_CTL 0))))
       CAP_Q_CTL_EN.on new = true ∧ CAP_Q_CTL_MODE.get new ≠ 3 ∧ u.queueFault 0 = some 1)
    ∧ CAP_Q_CTL_EN.on (plainWrite CAP_Q_CTL_info (up.reg (CAP_Q_CTL 0)) 0) = false := by decide +kernel

theorem wit_QueueSetupAndCommands_2 : (let s := (queueAt qRun 0).setCapQ 255 { wr := 64, recs := [{ pos := 0, len := 64, isData := true }] }
      let c := s.capQ 255
      let v := CAP_Q_RD_OFFSET.get (CAP_Q_RD_OFFSET.put 0 64) / 16 * 16
      let n := max 1 (s.ringSize 255)
      s.ready (CAP_Q_RD 255) = true ∧ s.queueState 255 ≠ qOff ∧ s.queueMode 255 ≠ 2 ∧ v < n ∧ (v + n - c.rd % n) % n ≤ c.wr - c.rd
        ∧ s.ready (CAP_Q_CMD 255) = true ∧ s.cap.seq.actions = [] ∧ c.actAt ≠ s.time.fck + 1 ∧ c.recs = [{ pos := 0, len := 64, isData := true }])
    ∧ ((queueAt qStopped 2).queueMode 255 = 2 ∧ (queueAt qStopped 2).queueState 255 = qStopped)
    ∧ ((queueAt qRun 2).queueMode 255 = 2 ∧ (queueAt qRun 2).queueState 255 = qRun)
    ∧ ((queueAt qRun 1).queueMode 255 = 1 ∧ (queueAt qRun 1).fld (CAP_Q_CTL 255) CAP_Q_CTL_POST ≠ 0)
    ∧ (let s := flds (queueAt qRun 1) [(CAP_Q_CTL 255, CAP_Q_CTL_POST, 0)]
       s.queueMode 255 = 1 ∧ s.queueState 255 = qRun ∧ s.fld (CAP_Q_CTL 255) CAP_Q_CTL_POST = 0 ∧ (s.capQ 255).open_ = none)
    ∧ (queueAt qFrozen 1).queueState 255 = qFrozen := by decide

/-- Word 8 of the port of queue 255 driven with VALID. -/
def beatWords : SMap (List ChanVal) := SMap.set {} (fun _ => []) (chanKey 1 8 3 false) (List.replicate 16 { v := 1, far := 1 })

theorem wit_RecordsAndDrains_1 : (let o : OpenRec := { stamp := 0, source := 0, user := false, err := false, mark := {} }
      let s := (flds { queueAt qRun 0 with fab := { up.fab with chan := beatWords } } [(CAP_Q_PORT 255, CAP_Q_PORT_BOUND, 1)]).setCapQ 255 { open_ := some o }
      s.cap.seq.actions = [] ∧ s.time.run = true ∧ s.nodeRuns 5 5 = true ∧ s.fldOn (CAP_Q_PORT 255) CAP_Q_PORT_BOUND = true ∧ s.queueCh 255 + 10 ≤ 63
        ∧ (s.capQ 255).beatAt ≠ s.time.fck + 1 ∧ s.queueState 255 = qRun ∧ s.queueMode 255 = 0 ∧ (s.capQ 255).open_ = some o
        ∧ natBit (s.portWord 255 8) 0 = true ∧ natBit (s.portWord 255 8) 10 = false ∧ natBit (s.portWord 255 8) 16 = false
        ∧ natBit (s.portWord 255 8) 17 = false ∧ o.bytes.length + 32 ≤ s.sliceLimit 255 ∧ s.queueFits 255 32 = true)
    ∧ (let s := queueAt qPost 1; s.queueState 255 = qPost ∧ (s.capQ 255).post = 0 ∧ (s.capQ 255).open_ = none) := by decide

theorem wit_RecordsAndDrains_2 : (let a : QAction := { atA := 0, atB := 0, queues := BitVec.ofNat 256 (2 ^ 255), freeze := false, start := true, stop := false, trec := none }
      let q := queueAt qStopped 2
      let s : State := { q with cap := { q.cap with seq := { q.cap.seq with actions := [a] } } }
      s.cap.seq.actions = [a] ∧ (List.range 256).filter (fun q => a.queues.getLsbD q && s.queueLayer q == 0) = [255] ∧ a.freeze = false ∧ a.start = true ∧ a.stop = false ∧ a.trec = none ∧ a.doneA = false ∧ a.atA ≤ s.time.fck
        ∧ s.queueMode 255 = 2 ∧ s.queueState 255 = qStopped) := by decide +kernel

/-- A drain queue with one committed record of so many bytes, its group cleared, its region CONTINUOUS. -/
def drainOf (n : Nat) : State := (flds (queueAt qRun 2) [(CAP_REGION_CFG 0, CAP_REGION_CFG_MODE, 1), (CAP_Q_CTL 255, CAP_Q_CTL_BURST, 0),
  (OAS_G_STATUS 1, OAS_G_STATUS_CLEARING, 0)]).setCapQ 255 { wr := n, recs := [{ pos := 0, len := n, isData := true }] }

theorem wit_RecordsAndDrains_3 : (let s := drainOf 256
      s.drainReady 255 = true ∧ s.burstOf 255 ≤ s.undrained 255 ∧ s.burstOf 255 ≤ s.regionRoom (s.queueRegion 255) (s.burstOf 255)) := by decide +kernel

theorem wit_RecordsAndDrains_4 : (let s := drainOf 32
      let pad := recordBytes 255 s.time.stamp 0xFFFF (64 * 3) (s.capQ 255).seq (List.replicate (48 - 32 % 64) 0) none noMark
      s.drainReady 255 = true ∧ 0 < s.undrained 255 ∧ s.undrained 255 < s.burstOf 255 ∧ s.undrained 255 = 32
        ∧ 32 + pad.length ≤ s.regionRoom (s.queueRegion 255) (32 + pad.length))
    ∧ (let s := (queueAt qRun 2).setCapQ 255 { burst := some { taken := 64, bytes := [], padded := false, status := 0 } }
       (s.capQ 255).burst = some { taken := 64, bytes := [], padded := false, status := 0 } ∧ (s.capQ 255).burst.isSome = true)
    ∧ (up.ready (CAP_REGION_CFG 63) = true ∧ (up.region 63).queue = none ∧ ((up.setRegion 63 { queue := some 1 }).region 63).queue.isSome = true)
    ∧ (let s := (flds up [(CAP_REGION_CFG 63, CAP_REGION_CFG_MODE, 2), (CAP_REGION_CFG 63, CAP_REGION_CFG_SIZE, 1)]).setRegion 63 { written := 64, whole := 64 }
       let v := CAP_REGION_RD_OFFSET.get (CAP_REGION_RD_OFFSET.put 0 64) / 64 * 64
       let size := max 1 (regionBytes (s.reg (CAP_REGION_CFG 63)))
       let rd := s.fld (CAP_REGION_RD 63) CAP_REGION_RD_OFFSET
       s.ready (CAP_REGION_RD 63) = true ∧ CAP_REGION_CFG_MODE.get (s.reg (CAP_REGION_CFG 63)) = 2 ∧ v < size
         ∧ (s.region 63).rdPos % size = rd ∧ (s.region 63).rdPos + (v + size - rd) % size ≤ (s.region 63).whole)
    ∧ CAP_REGION_CFG_MODE.get (up.reg (CAP_REGION_CFG 63)) ≠ 2 := by decide +kernel

theorem wit_SequencerCommands : (let new := plainWrite CAP_SEQ_CTL_info (up.reg CAP_SEQ_CTL) (CAP_SEQ_CTL_RUN.put (CAP_SEQ_CTL_SWTRIG.put 0 1) 1)
      up.ready CAP_SEQ_CTL = true ∧ (up.actBind (up.reg CAP_SEQ_CTL) new).2 = new ∧ CAP_SEQ_CTL_RUN.on new = true ∧ CAP_SEQ_CTL_RUN.on (up.reg CAP_SEQ_CTL) = false)
    ∧ (let new := plainWrite CAP_SEQ_CTL_info (up.reg CAP_SEQ_CTL) (CAP_SEQ_CTL_SWTRIG.put 0 1)
       CAP_SEQ_CTL_SWTRIG.on (CAP_SEQ_CTL_SWTRIG.put 0 1) = true ∧ (up.actBind (up.reg CAP_SEQ_CTL) new).2 = new ∧ CAP_SEQ_CTL_RUN.on new = false)
    ∧ (up.seqReached 3 = true ∧ natBit up.seq.expired 3 = false ∧ up.seqReached 7 = true ∧ natBit up.seq.expired 7 = false) := by decide

/-! ### Ergs, wells and images -/

theorem wit_ErgSwitchesAndIsolation : (let data := FAB_ERG_CTX_TARGET.put (FAB_ERG_CTX_GO.put 0 1) 7
      up.ready (FAB_ERG_CTX 127) = true ∧ FAB_ERG_CTX_GO.on data = true ∧ up.ergReserved 127 = false
        ∧ (up.writeReg (FAB_ERG_CTX 127) data).isTwin 127 = false ∧ up.activeWrite 127 = false)
    ∧ ((up.setErg 127 { due := some { src := .register, target := 7, left := 0 } }).erg 127).due = some { src := .register, target := 7, left := 0 }
    ∧ ((up.setErg 127 { settle := .count 0 }).erg 127).settle = .count 0
    ∧ up.ready (FAB_ERG_ISO 127) = true ∧ FAB_ERG_ISO_FORCE.on (FAB_ERG_ISO_FORCE.put 0 1) = true ∧ FAB_ERG_ISO_RELEASE.on (FAB_ERG_ISO_FORCE.put 0 1) = false
    ∧ (flds up [(FAB_ERG_ISO 127, FAB_ERG_ISO_FORCE, 1)]).forced 127 = true ∧ FAB_ERG_ISO_RELEASE.on (FAB_ERG_ISO_RELEASE.put 0 1) = true
    ∧ FAB_ERG_ISO_RELEASE.on 0 = false ∧ FAB_ERG_ISO_FORCE.on 0 = false
    ∧ up.ready FAB_ILLOP = true ∧ FAB_ILLOP_VALID.on (FAB_ILLOP_VALID.put 0 1) = true ∧ up.ready FAB_BM_PERR = true
    ∧ FAB_BM_PERR_VALID.on (FAB_BM_PERR_VALID.put 0 1) = true ∧ up.ready FAB_DIR_PERR = true ∧ FAB_DIR_PERR_VALID.on (FAB_DIR_PERR_VALID.put 0 1) = true := by
  decide +kernel

/-- Plane 7 of erg 127 reserved for snapshots, in a state. -/
def snapAt (st full : Nat) : State :=
  (flds up [(FAB_ERG_SNAP 127, FAB_ERG_SNAP_RESERVE, 1), (FAB_ERG_SNAP 127, FAB_ERG_SNAP_PLANE, 7), (FAB_ERG_SNAP 127, FAB_ERG_SNAP_FULL, full)]).setPlaneState 127 7 st

theorem wit_Snapshots : (let data := FAB_ERG_SNAP_PLANE.put (FAB_ERG_SNAP_RESERVE.put 0 1) 7
      up.ready (FAB_ERG_SNAP 127) = true ∧ FAB_ERG_SNAP_FULL.on data = false
        ∧ up.fldOn (FAB_ERG_SNAP 127) FAB_ERG_SNAP_RESERVE = false ∧ FAB_ERG_SNAP_RESERVE.on data = true
        ∧ up.planeState 127 (FAB_ERG_SNAP_PLANE.get data) = plEmpty ∧ (up.setPlaneState 127 7 plInvalid).planeState 127 7 = plInvalid)
    ∧ (let s := snapAt plSnapFree 0; s.fldOn (FAB_ERG_SNAP 127) FAB_ERG_SNAP_RESERVE = true
        ∧ s.planeState 127 (s.fld (FAB_ERG_SNAP 127) FAB_ERG_SNAP_PLANE) = plSnapFree ∧ FAB_ERG_SNAP_FULL.on 0 = false
        ∧ FAB_ERG_SNAP_RESERVE.on 0 = false)
    ∧ (let s := snapAt plSnapFull 1
       let data := FAB_ERG_SNAP_FULL.put (s.reg (FAB_ERG_SNAP 127)) 1
       FAB_ERG_SNAP_FULL.on data = true ∧ s.fldOn (FAB_ERG_SNAP 127) FAB_ERG_SNAP_FULL = true ∧ FAB_ERG_SNAP_RESERVE.on data = true
         ∧ s.fldOn (FAB_ERG_SNAP 127) FAB_ERG_SNAP_RESERVE = true ∧ FAB_ERG_SNAP_PLANE.get data = s.fld (FAB_ERG_SNAP 127) FAB_ERG_SNAP_PLANE)
    ∧ (up.ready FAB_SNAP_CTL = true ∧ FAB_SNAP_CTL_GO.on (FAB_SNAP_CTL_GO.put 0 1) = true ∧ up.fab.snap = none)
    ∧ (let s : State := { up with fab := { up.fab with snap := some (0, true) } }; s.fab.snap = some (0, true)) := by decide +kernel

theorem wit_WellsAndRisers : (let x : Crossing := { well := 63, bundle := 17, bond := 6 }
      let key := crossKey x.well x.bundle x.bond
      (up.cross key).state < crExposed ∧ (up.cross key).swap = none ∧ (up.cross key).hasFailed 71 = false ∧ up.dirLanes key = [] ∧ (71 : Fin 76).val < 72 ∧ (up.cross key).freeSpare = some 0
        ∧ (let s := up.setCross key { up.cross key with xdata := WELL_XDATA_SPARE_USED.put 0 15 }
           (s.cross key).state < crExposed ∧ (s.cross key).swap = none ∧ (s.cross key).freeSpare = none
            ∧ (s.cross key).hasFailed 71 = false ∧ s.dirLanes key = [])
        ∧ (let s := up.setCross key { swap := some (71, 3) }; (s.cross key).swap = some (71, 3) ∧ (s.cross key).waiting = []))
    ∧ (let x : RiserNo := { well := 63, bond := 6, up := true }
       let r := up.riser (riserKey x)
       (0 : BitVec 10).toNat = r.nextSend ∧ (0 : BitVec 10).toNat = r.expected ∧ r.replay.length < 64
         ∧ crc16 (toBytes 2 0 ++ [1, 2]) = (BitVec.ofNat 16 (crc16 (toBytes 2 0 ++ [1, 2]))).toNat ∧ up.pwr.inReset.contains (riserFar x) = false)
    ∧ (let x : RiserNo := { well := 63, bond := 6, up := true }
       let s := up.setRiser (riserKey x) { nextSend := 1, expected := 1, replay := [(0, [])] }
       let back := ((s.riser (riserKey x)).expected + 1024 - (0 : BitVec 10).toNat) % 1024
       1 ≤ back ∧ back ≤ 512) := by decide +kernel

/-- A file of 4 KiB in slot A whose manifest names 16 plane frames and asks for no erg's activation, with a signature block of 100 bytes. -/
def man : List Byte :=
  toBytes 4 0x4D495859 ++ toBytes 4 1 ++ toBytes 12 0x59 ++ toBytes 8 1 ++ toBytes 4 0 ++ toBytes 4 16 ++ toBytes 4 0 ++ toBytes 4 100 ++ List.replicate 212 0
def imgFile : List Byte := man ++ List.replicate 3840 0
def bootState : State :=
  let s := flds up [(CFG_SLOT_INFO 0, CFG_SLOT_INFO_STATE, slValid)]
  { s with store := { s.store with bootDue := true, wakeDue := false, slots := s.store.slots.set (fun _ => []) 0 imgFile } }

/-- With an image whose signatures are good, which an opaque constant decides, a power-up load passes its first stage with frames to come. -/
theorem wit_PowerUpAndActivation (good : Config.imageSigned man (List.replicate 100 0) [] false = true) :
    let s := bootState
    let u := ({ s with store := { s.store with bootDue := false, wakeDue := false } }.applyRepair).attestStack 0x7F
    s.store.bootDue = true ∧ s.store.wakeDue = false ∧ s.pins.cfgDone = false ∧ u.fld CFG_POLICY CFG_POLICY_PREFERRED = 0 ∧ u.slotState 0 = slValid
      ∧ ∃ v ld, u.stageOne (bootLoad u 0 false) false = (v, .passed ld) ∧ manCount ld.manifest ≠ 0 := by
  intro s u
  refine ⟨by decide +kernel, by decide +kernel, by decide +kernel, by decide +kernel, by decide +kernel, u, { bootLoad u 0 false with manifest := man ++ List.replicate 100 0, sigLen := 100 }, ?_, by decide +kernel⟩
  have h1 : ¬ (bootLoad u 0 false).len < manBytes := by decide +kernel
  have h2 : u.loadRead (bootLoad u 0 false).src 0 manBytes false = (u, .bytes man) := by
    have : ((u.store.slots.get (fun _ => []) 0).drop 0).take manBytes = man := by decide +kernel
    simp only [bootLoad, State.loadRead, this]
  have h3 : u.manifestFault man ((bootLoad u 0 false).target != 0) = none := by decide +kernel
  have h4 : ¬ (bootLoad u 0 false).len < manBytes + manSigLen man := by decide +kernel
  have h5 : u.loadRead (bootLoad u 0 false).src manBytes (manSigLen man) false = (u, .bytes (List.replicate 100 0)) := by
    have : ((u.store.slots.get (fun _ => []) 0).drop manBytes).take (manSigLen man) = List.replicate 100 0 := by decide +kernel
    simp only [bootLoad, State.loadRead, this]
  have h6 : u.namesFault (bootLoad u 0 false) man (u.fileNames (bootLoad u 0 false).src man) = none := by decide +kernel
  have h7 : u.sec.ownerCert = [] := by decide +kernel
  have h8 : u.fldOn SEC_STATUS SEC_STATUS_OWNER_ONLY = false := by decide +kernel
  simp only [State.stageOne, h1, h2, h3, h4, h5, h6, h7, h8, good, if_false, if_true]
  rfl

theorem wit_PowerUpAndActivation_2 : (let s : State := { bootState with pins := { up.pins with cfgDone := true } }
      s.store.bootDue = true ∧ s.clk.mgmtReset = false ∧ s.clk.rootRun = true ∧ s.store.wakeDue = false ∧ s.pins.cfgDone = true ∧ (0x3F : BitVec 7).toNat ≠ 0x7F)
    ∧ (let ld : LoadSt := { src := .slot 0, len := 4096, manifest := man, powerUp := true, activating := true }
       let s : State := { cleared with store := { up.store with load := some ld } }
       s.store.load = some ld ∧ ld.activating = true ∧ s.clk.rootRun = true ∧ (∀ i : ErgNo, s.oasClearing i = false) ∧ (s.loadItem ld).isSome = true
         ∧ ld.wake = false ∧ ld.powerUp = true) := by decide +kernel

/-- The same image in host memory, and an item that loads it into the planes. -/
def hostImg : State :=
  let s := busy up keyConfig (doing (item opImageLoad [(28, 4096)]) 0)
  { s with host := { s.host with mem := putBytes {} 0 (man.take 44) }, store := { s.store with bootDue := false } }

theorem wit_ImageLoads (good : Config.imageSigned man (List.replicate 100 0) [] false = true) :
    let s := hostImg
    let c := doing (item opImageLoad [(28, 4096)]) 0
    s.store.load = none ∧ s.store.bootDue = false ∧ s.secStill = false ∧ s.curOp keyConfig opImageLoad = some c ∧ s.attestFailed = false ∧ c.step < 3 ∧ c.item.num 25 1 = 0
      ∧ c.item.num 24 1 % 4 = 0
      ∧ ∃ u ld, s.stageOne { src := .host (c.item.num 16 8), len := c.item.num 28 4, target := 0, flags := c.item.num 26 1, ergs := BitVec.ofNat 128 (c.item.num 32 16) } false
          = (u, .passed ld) ∧ manCount ld.manifest ≠ 0 := by
  intro s c
  let ld : LoadSt := { src := .host (c.item.num 16 8), len := c.item.num 28 4, target := 0, flags := c.item.num 26 1, ergs := BitVec.ofNat 128 (c.item.num 32 16) }
  refine ⟨by decide +kernel, by decide +kernel, by decide +kernel, by decide +kernel, by decide +kernel, by decide +kernel, by decide +kernel, by decide +kernel, s,
    { ld with manifest := man ++ List.replicate 100 0, sigLen := 100 }, ?_, by decide +kernel⟩
  have h0 : s.mayIssue = true := by decide +kernel
  have h9 : s.host.linkUp = true := by decide +kernel
  have h1 : ¬ ld.len < manBytes := by decide +kernel
  have h2 : s.loadRead ld.src 0 manBytes false = (s, .bytes man) := by
    have : s.hostBytes (c.item.num 16 8 + 0) manBytes = man := by decide +kernel
    simp only [ld, State.loadRead, State.readSource, h0, h9, this]
    rfl
  have h3 : s.manifestFault man (ld.target != 0) = none := by decide +kernel
  have h4 : ¬ ld.len < manBytes + manSigLen man := by decide +kernel
  have h5 : s.loadRead ld.src manBytes (manSigLen man) false = (s, .bytes (List.replicate 100 0)) := by
    have : s.hostBytes (c.item.num 16 8 + manBytes) (manSigLen man) = List.replicate 100 0 := by decide +kernel
    simp only [ld, State.loadRead, State.readSource, h0, h9, this]
    rfl
  have h6 : s.namesFault ld man (s.fileNames ld.src man) = none := by decide +kernel
  have h7 : s.sec.ownerCert = [] := by decide +kernel
  have h8 : s.fldOn SEC_STATUS SEC_STATUS_OWNER_ONLY = false := by decide +kernel
  change s.stageOne ld false = _
  simp only [State.stageOne, h1, h2, h3, h4, h5, h6, h7, h8, good, if_false, if_true]
  rfl

/-- A load item after an attestation that one die failed. -/
def unattested : State := flds (busy { up with store := { up.store with bootDue := false } } keyConfig (doing (item opImageLoad []) 0))
  [(SEC_STATUS, SEC_STATUS_ATTEST_DONE, 1), (SEC_STATUS, SEC_STATUS_ATTEST, 0x3F)]

theorem wit_ImageLoads_attest : unattested.store.load = none ∧ unattested.store.bootDue = false ∧ unattested.secStill = false
    ∧ (unattested.curOp keyConfig opImageLoad).isSome = true ∧ unattested.attestFailed = true := by decide +kernel

/-- A frame of dune 0 for context 0: its kind, its number and how many frames the file has; its payload is zero. -/
def frameBody (mem n count : Nat) : List Byte :=
  (toBytes 20 0x59).set 12 1 ++ [BitVec.ofNat 8 (0x80 * mem), 0, 0, 0] ++ toBytes 4 n ++ toBytes 4 count ++ List.replicate 2560 0
def frameOf (mem n count : Nat) : List Byte := frameBody mem n count ++ toBytes 4 (crc32c (frameBody mem n count))

theorem crc32c_lt (b : List Byte) : crc32c b < 2 ^ 32 := by
  have step : ∀ (l : List Nat) (c : Nat), c < 2 ^ 32 → l.foldl (fun c _ => if c % 2 = 1 then (c / 2) ^^^ 0x82F63B78 else c / 2) c < 2 ^ 32 := by
    intro l
    induction l with
    | nil => exact fun c h => h
    | cons x r ih =>
      intro c h
      refine ih _ ?_
      show (if c % 2 = 1 then (c / 2) ^^^ 0x82F63B78 else c / 2) < 2 ^ 32
      split
      · exact Nat.xor_lt_two_pow (by omega) (by omega)
      · omega
  have all : ∀ (l : List Byte) (c : Nat), c < 2 ^ 32 → l.foldl crc32cStep c < 2 ^ 32 := by
    intro l
    induction l with
    | nil => exact fun c h => h
    | cons x r ih => exact fun c h => ih _ (step _ _ (Nat.xor_lt_two_pow h (by have := x.isLt; omega)))
  exact Nat.xor_lt_two_pow (all b _ (by decide)) (by decide)

theorem frameOf_parts (mem n count : Nat) : (frameOf mem n count).take 2592 = frameBody mem n count
    ∧ (frameOf mem n count).drop 2592 = toBytes 4 (crc32c (frameBody mem n count)) ∧ (frameOf mem n count).length = 2596 := by
  have h20 : (toBytes 20 0x59).length = 20 := by decide
  have h4 : ∀ x, (toBytes 4 x).length = 4 := fun x => rfl
  have hl : (frameBody mem n count).length = 2592 := by
    simp only [frameBody, List.length_append, List.length_set, List.length_replicate, List.length_cons, List.length_nil, h20, h4]
  refine ⟨?_, ?_, ?_⟩
  · rw [frameOf, ← hl, List.take_left]
  · rw [frameOf, ← hl, List.drop_left]
  · rw [frameOf, List.length_append, hl, h4]

theorem frameOf_crc (mem n count : Nat) : crc32c ((frameOf mem n count).take 2592) = fileNum (frameOf mem n count) 2592 4 := by
  have h := crc32c_lt (frameBody mem n count)
  have e : ∀ x < 2 ^ 32, ofBytes (toBytes 4 x) = x := by
    intro x hx
    simp only [toBytes, ofBytes, BitVec.toNat_ofNat]
    omega
  have k : ∀ x, (toBytes 4 x).take 4 = toBytes 4 x := fun x => rfl
  rw [fileNum, (frameOf_parts mem n count).1, (frameOf_parts mem n count).2.1, k, e _ h]

/-- A load at frame n of that image, whose frames stand in slot A, with its item. -/
def frameLoad (target n : Nat) (carried : List Nat) : LoadSt :=
  { src := .slot 0, len := 2 ^ 20, target := target, manifest := if n < 16 then man else man.set 36 1, sigLen := 100, next := n, carried := carried, lastKey := 1 }
def frameState (ld : LoadSt) (file : List Byte) : State :=
  let s := busy up keyConfig (doing (item opImageLoad []) 0)
  { s with store := { s.store with load := some ld, slots := s.store.slots.set (fun _ => []) 0 file } }

theorem frameRead (n mem count : Nat) (ld : LoadSt) (h : ld.src = .slot 0) :
    (frameState ld (List.replicate (frameOff 100 n) 0 ++ frameOf mem n count)).loadRead ld.src (frameOff 100 n) frameBytes false
      = (frameState ld (List.replicate (frameOff 100 n) 0 ++ frameOf mem n count), .bytes (frameOf mem n count)) := by
  have hl : (frameOf mem n count).length = frameBytes := (frameOf_parts mem n count).2.2
  have hd : (List.replicate (frameOff 100 n) (0 : Byte) ++ frameOf mem n count).drop (frameOff 100 n) = frameOf mem n count :=
    List.drop_left' (by rw [List.length_replicate])
  have ht : (frameOf mem n count).take frameBytes = frameOf mem n count := by rw [← hl, List.take_length]
  have hs : ∀ file, (frameState ld file).store.slots.get (fun _ => []) 0 = file := fun file => SMap.get_set_same _ _ _ _
  simp only [State.loadRead, h, hs, hd, ht]

theorem framePayload_frameOf (mem n count : Nat) : framePayload (frameOf mem n count) = 0 := by
  have h : ((frameOf mem n count).drop 32).take 2560 = List.replicate 2560 0 := by
    rw [frameOf, frameBody, List.append_assoc (_ ++ _), List.drop_left' (i := 32) (by simp only [List.length_append, List.length_set]; rfl), List.take_left' List.length_replicate]
  have z : ∀ k, ofBytes (List.replicate k (0 : Byte)) = 0 := by
    intro k
    induction k with
    | zero => rfl
    | succ k ih => rw [List.replicate_succ, ofBytes, ih]; rfl
  rw [framePayload, fileNum, h, z]
  rfl

/-- A frame that passes: into a slot, the second frame of a plane, a memory frame; and one that is short. -/
theorem wit_ImageFrames :
    (frameLoad 1 0 []).frameFault (frameOf 0 0 16) = none ∧ (frameLoad 0 1 [0]).frameFault (frameOf 0 1 16) = none
    ∧ (frameLoad 0 16 [0]).frameFault (frameOf 1 16 17) = none ∧ (frameLoad 0 1 [0]).frameFault [] = some 6 := by
  refine ⟨?_, ?_, ?_, by decide +kernel⟩
  · simp only [LoadSt.frameFault, framePayload_frameOf, frameOf_crc, (frameOf_parts 0 0 16).2.2, ne_eq, not_true_eq_false, if_false]
    decide +kernel
  · simp only [LoadSt.frameFault, framePayload_frameOf, frameOf_crc, (frameOf_parts 0 1 16).2.2, ne_eq, not_true_eq_false, if_false]
    decide +kernel
  · simp only [LoadSt.frameFault, framePayload_frameOf, frameOf_crc, (frameOf_parts 1 16 17).2.2, ne_eq, not_true_eq_false, if_false]
    decide +kernel

theorem wit_ImageFrames_state : (let ld := frameLoad 0 1 [0]
      let s := frameState ld (List.replicate (frameOff 100 1) 0 ++ frameOf 0 1 16)
      s.store.load = some ld ∧ ld.activating = false ∧ frameOff ld.sigLen ld.next + frameBytes ≤ ld.len ∧ ld.next + 1 ≠ manCount ld.manifest ∧ ld.takes 0 = true
        ∧ s.cfgDieReset 0 = false ∧ frameIsMem (frameOf 0 1 16) = false ∧ s.frameRefusal ld (frameOf 0 1 16) = none ∧ ld.powerUp = false ∧ ld.wake = false
        ∧ s.loadItem ld = some (some (item opImageLoad [])))
    ∧ (frameLoad 0 16 [0]).takes 0 = true ∧ frameIsMem (frameOf 1 16 17) = true ∧ (frameLoad 1 0 []).target ≠ 0
    ∧ up.mapStale 0 (fileNum (frameLoad 1 0 []).manifest 28 4) 0 = false := by
  refine ⟨⟨rfl, rfl, by decide, by decide +kernel, by decide, by decide +kernel, by decide +kernel, ?_, rfl, rfl, by decide +kernel⟩, by decide, by decide +kernel, by decide, by decide +kernel⟩
  simp only [State.frameRefusal, framePayload_frameOf]
  decide +kernel

theorem wit_ReadbackReserveScrub : (let c := doing (item opReadback [(6, 127), (16, 7), (32, 41536)]) 0
      let s := (busy up keyConfig c).setPlaneState 127 7 plFresh
      s.curOp keyConfig opReadback = some c ∧ c.item.unit % 128 = 127 ∧ s.cfgDieReset 127 = false ∧ natBit (c.item.num 16 1) 3 = false ∧ 41536 ≤ c.item.num 32 4
        ∧ s.planeState 127 (c.item.num 16 1 % 8) = plFresh ∧ s.mayIssue = true)
    ∧ (item opReadback [(6, 127), (16, 7), (32, 41535)]).num 32 4 < 41536
    ∧ (let c := doing (item opErgReserve [(16, 2 ^ 127), (32, 1)]) 0; (busy up keyConfig c).curOp keyConfig opErgReserve = some c ∧ natBit (c.item.num 16 16) 127 = true
        ∧ natBit (c.item.num 16 16) 0 = false)
    ∧ (up.cfgDieReset 127 = false ∧ up.planeState 127 7 ≠ plLoading ∧ up.ergActive 127 ≠ some 7 ∧ up.planeState 127 7 ≠ plSnapFree
        ∧ oasDecode (oasEncode (natBits (up.planeWords 127 7 15).toNat (64 * 319) 64) ^^^ BitVec.ofNat 72 (2 ^ 71)) = .corrected (oasEncode 0)
        ∧ oasDecode (oasEncode (natBits (up.planeWords 127 7 15).toNat (64 * 319) 64) ^^^ BitVec.ofNat 72 (2 ^ 71 + 2 ^ 70)) = .bad) := by decide +kernel

/-! ### Work items, task ports, the scheduler and the queues -/

/-- An item that finished with a status, in the reorder store under its tag. -/
def waits (s : State) (it : Item) (st : Nat) : State :=
  { s with sched := { s.sched with reorder := s.sched.reorder.set (fun _ => none) it.tag (some { item := it, res := { status := st } }) } }

/-- The scheduler performs a CANCEL of the item of ring 0 with WSN 5, which its order names. -/
def cancels (step : Nat) : State := (busy up keyScheduler (doing (item opCancel [(24, 5)]) step)).setRing 0 { order := [(5, 1)] }
def five (opc : Nat) : Item := { item opc [] with wsn := 5, tag := 9 }

theorem wit_WorkItems : (busy up keyScheduler (doing (item opNop []) 0)).curOp keyScheduler opNop = some (doing (item opNop []) 0)
    ∧ (let c := doing (item opCancel [(24, 5)]) 1
       let s := waits (cancels 1) (five opNop) stStaleMap
       s.curOp keyScheduler opCancel = some c ∧ c.item.isAt 0 5 = false ∧ c.step < 2 ∧ s.finishedOf 0 5 = some { item := five opNop, res := { status := stStaleMap } })
    ∧ ((cancels 0).finishedOf 0 5 = none ∧ ((cancels 0).setRing 0 {}).finishedOf 0 5 = none ∧ ((((cancels 0).setRing 0 {}).ring 0).order.any (fun x => x.1 == 5)) = false
        ∧ (((cancels 0).ring 0).order.any (fun x => x.1 == 5)) = true)
    ∧ (let x := doing (five opImageLoad) 0
       (busy (cancels 0) keyConfig x).performerOf 0 5 = some (keyConfig, x) ∧ opcodeCritical x.item.opc = true)
    ∧ (let s : State := { cancels 0 with sched := { (cancels 0).sched with ready := [five opNop] } }
       s.performerOf 0 5 = none ∧ (s.dropTagged 0 5).isSome = true)
    ∧ (let c := doing (item opDma [(16, 4096), (24, 64), (32, 64)]) 0
       let s := busy up (keyDma 15) c
       s.curOp (keyDma 15) opDma = some c ∧ c.cancel = false ∧ c.item.num 36 1 % 4 = 0 ∧ s.host.linkUp = true ∧ s.mayIssue = true ∧ 0 < c.item.num 32 4
         ∧ c.item.num 24 8 % 64 + c.item.num 32 4 ≤ 64 ∧ (State.dmaCopy 15 0 0 4096 64 64 64 none 3 0 s).2.2 ≠ memWait)
    ∧ (let c := doing (item opCaptureCmd [(6, 255), (16, 4)]) 0
       (busy up keyCapture c).curOp keyCapture opCaptureCmd = some c) := by decide +kernel

theorem wit_TaskPorts : (let c := doing (item opErgSwitch [(6, 127), (16, 7)]) 0
      let s := busy up (keyTask 127) c
      s.curOp (keyTask 127) opErgSwitch = some c ∧ s.isTwin 127 = false ∧ s.fldOn (FAB_ERG_STATUS 127) FAB_ERG_STATUS_ACTIVE_WRITE = false
        ∧ c.step = 0 ∧ s.ergReserved 127 = false)
    ∧ (let c := doing (item opErgSwitch []) 0
       let s := flds (busy up (keyTask 126) c) [(FAB_ERG_STATUS 126, FAB_ERG_STATUS_RESERVED, 1)]
       s.curOp (keyTask 126) opErgSwitch = some c ∧ c.step = 0 ∧ s.ergReserved 126 = true ∧ c.item.auth = false)
    ∧ (let c := doing (item opTask []) 0; (busy up (keyTask 0) c).curOp (keyTask 0) opTask = some c ∧ c.step = 0)
    ∧ (let c := doing (item opTask []) 8
       let s := busy { up with time := { up.time with fck := 4 } } (keyTask 0) c
       s.taskAt 0 = some c ∧ c.step = 2 * s.time.fck ∧ c.step ≠ 0)
    ∧ (let c := doing (item opTask []) 9
       let u := flds (busy up (keyTask 127) c) [(SCH_TP 127, SCH_TP_CH, 54), (SCH_TP 127, SCH_TP_PENDING, 1), (SCH_TP 127, SCH_TP_TASKNO, 65535)]
       let s : State := 
         { u with fab := { u.fab with chan := u.fab.chan.set (fun _ => []) (chanKey 63 63 (ergDie 127) false) [{ v := BitVec.ofNat 32 (65535 * 65536 + 1), far := 0 }] } }
       let w := (s.chanAt 63 (s.fld (SCH_TP 127) SCH_TP_CH + 9) (ergDie 127) (ergDie 127) 0).toNat
       natBit w 0 = true ∧ s.sched.taskReply.get (fun _ => 0) 127 ≠ s.time.fck + 1 ∧ s.taskAt 127 = some c ∧ s.fldOn (SCH_TP 127) SCH_TP_PENDING = true ∧ w / 65536 = s.taskNo 127)
    ∧ (up.ready (SCH_TP 127) = true ∧ up.fldOn (SCH_TP 127) SCH_TP_PENDING = false ∧ SCH_TP_CH.get 54 = 54 ∧ SCH_TP_CH.get 55 = 55
        ∧ (flds up [(SCH_TP 0, SCH_TP_PENDING, 1)]).fldOn (SCH_TP 0) SCH_TP_PENDING = true) := by decide +kernel

theorem wit_SchedulerRegisters : up.ready (SCH_SGL_CFG 7) = true ∧ up.fldOn (SCH_SGL_CFG 7) SCH_SGL_CFG_EN = false
    ∧ (flds up [(SCH_SGL_CFG 7, SCH_SGL_CFG_EN, 1)]).fldOn (SCH_SGL_CFG 7) SCH_SGL_CFG_EN = true
    ∧ up.ready SCH_SPILL = true ∧ up.ready SCH_STORE = true ∧ up.allRingsOff = true
    ∧ SCH_SPILL_BASE.get (SCH_SPILL_BASE.put 0 1024) % 1024 = 0 ∧ SCH_SPILL_BASE.get (SCH_SPILL_BASE.put 0 1023) % 1024 ≠ 0
    ∧ (flds up [(QIF_RING_STATUS 255, QIF_RING_STATUS_STATE, ringError)]).allRingsOff = false := by decide +kernel

/-- A device at work whose queue interface runs, with ring r in a state and its cached words. -/
def ringed (r st : Nat) (q : RingSt) : State := (flds up [(QIF_STATUS, QIF_STATUS_STATE, 2), (QIF_RING_STATUS r, QIF_RING_STATUS_STATE, st)]).setRing r q
def cold (r st : Nat) (q : RingSt) : State := (flds up [(QIF_RING_STATUS r, QIF_RING_STATUS_STATE, st)]).setRing r q

theorem wit_QueueAcceptance_doorbells : (let s := ringed 255 ringRun { sqLog2 := 4, lastTail := 3, unBase := 2, unconsumed := [1, 1], cqCount := 4, lastHead := 2 }
      s.hostReaches = true ∧ s.ringState 255 = ringRun ∧ s.qif = 2 ∧ (s.ring 255).lastTail < 4 ∧ 17 = (s.ring 255).oldest + 2 ^ (s.ring 255).sqLog2 ∧ 2 < (s.ring 255).lastTail
        ∧ (s.ring 255).oldest + 2 ^ (s.ring 255).sqLog2 < 18 ∧ (s.ring 255).lastHead ≤ 2 ∧ 4 ≤ (s.ring 255).cqCount
        ∧ (s.ring 255).unBase ≤ 2)
    ∧ (let s := ringed 0 ringRun { cqLog2 := 4, cqCount := 4, unBase := 4, lastHead := 1 }
       (s.ring 0).lastHead ≤ 1 ∧ 1 ≤ (s.ring 0).cqCount ∧ 1 < (s.ring 0).unBase)
    ∧ (up.ringState 0 = ringOff ∧ up.qif ≠ 4) ∧ (ringed 0 ringChecking {}).ringState 0 = ringChecking ∧ (ringed 0 ringHeld {}).ringState 0 = ringHeld := by decide +kernel

theorem wit_QueueAcceptance_accept : (let s := ringed 0 ringRun { sqLog2 := 4, cqLog2 := 4, accept := 3, lastTail := 4 }
      s.ringState 0 = ringRun ∧ s.qif = 2 ∧ s.workRuns = true ∧ s.host.linkUp = true ∧ s.host.present = true ∧ (s.ring 0).lastTail = (s.ring 0).accept + 1 ∧ (s.ring 0).unconsumed.length < 2 ^ (s.ring 0).cqLog2
        ∧ natBit (descNum (s.entryAt 0 3) 1 1) 7 = false ∧ (s.ring 0).spilled = [] ∧ (s.ring 0).queue.length < queueDepth)
    ∧ ((ringed 0 ringRun {}).ring 0).lastTail ≤ ((ringed 0 ringRun {}).ring 0).accept
    ∧ (let q : RingSt := { spilled := [five opNop] }
       let s := ram.setRing 0 q
       let a := s.spillGet 0 5
       (s.ring 0).spilled = [five opNop] ∧ (s.ring 0).queue.length < queueDepth ∧ (five opNop).spillBad = false ∧ (five opNop).ext.isSome = false ∧ a.2.1 = 0)
    ∧ (let it := { five opNop with spillBad := true }
       let s := up.setRing 255 { spilled := [it] }
       let a := s.spillGet 255 5
       (s.ring 255).spilled = [it] ∧ (s.ring 255).queue.length < queueDepth ∧ it.ext.isSome = false ∧ a.1.host.linkUp = true ∧ a.1.host.present = true)
    ∧ (let it := { item opNop [(1, 1)] with wsn := 5 }
       let s := up.setRing 255 { queue := [it] }
       it.settled = none ∧ s.freeTag it.cls = some reservedTags ∧ it.auth = false ∧ it.sgl = false ∧ it.cls ≠ 0
         ∧ (s.takeTag reservedTags).descFault { it with tag := reservedTags } = none ∧ (s.ring 255).queue = [it])
    ∧ (let it := { item opNop [] with wsn := 5 }
       let s : State := { up with sched := { up.sched with c0 := [it] } }
       s.freeTag it.cls = some 0 ∧ (s.takeTag 0).descFault { it with tag := 0 } = none ∧ it.cls = 0 ∧ up.sched.c0.length < c0Depth) := by decide +kernel

/-- An authenticated item of slot 15 with counter 4,097: its tag is the one the slot's key, which is zero, gives it. -/
def signed15 : Item :=
  let x : Item := { item opImageLoad [] with ext := some (BitVec.ofNat 512 (15 + 4097 * 2 ^ 32)) }
  { x with ext := some (BitVec.ofNat 512 (15 + 4097 * 2 ^ 32 + (hmacTag 0 x.authMessage).toNat * 2 ^ 128)) }
def slotted : State := (flds up [(SEC_SLOT 15, SEC_SLOT_STATE, slotActive)]).setSlotKey 15 { ceiling := 4096, waiting := [signed15] }

theorem wit_QueueExecution_counter : (slotted.slotKey 15).waiting = [signed15] ∧ signed15.slot = 15 ∧ signed15.settled = none ∧ slotted.authFault signed15 = none
    ∧ slotted.execStill keySecurity = false ∧ signed15.sgl = false
    ∧ ceilingAbove signed15.counter = 8192 := by decide +kernel

/-- A ready stage with one item. -/
def readied (s : State) (it : Item) : State := { s with sched := { s.sched with ready := [it] } }

theorem wit_QueueExecution : (let s := (flds up [(SCH_SGL_CFG 7, SCH_SGL_CFG_EN, 1)]).setSgl 7 [{ five opNop with rel := 0 }, { five opNop with wsn := 6, rel := 1 }]
      s.fldOn (SCH_SGL_CFG 7) SCH_SGL_CFG_EN = true ∧ s.workRuns = true ∧ s.clk.rootRun = true
        ∧ (s.sglHeld 7).filter (fun it => it.releasedAt (s.nowNs / s.sglTick 7 * s.sglTick 7)) = [{ five opNop with rel := 0 }])
    ∧ (let s := readied up (five opNop)
       let k := execKey .scheduler
       s.workRuns = true ∧ s.qif ≠ 1 ∧ s.qif ≠ 3 ∧ s.qif ≠ 4 ∧ (s.exec? k).queue.length < execDepth k ∧ s.moveDue k = none
         ∧ firstItem (s.sched.ready.filter (s.readyFor k)) = some (five opNop) ∧ s.pwr.st = .active ∧ s.execEnabled k = true ∧ (s.exec? k).cur = none
         ∧ (s.exec? k).queue = [] ∧ s.sched.lost.any (fun x => x.1 == k) = false ∧ opcodeJournalled (five opNop).opc = false
         ∧ ((s.setCur k (some (doing (five opNop) 0))).exec? k).cur.isSome = true)
    ∧ (let it := item opPlay [(6, 47)]
       let s := readied up it
       firstItem (s.sched.ready.filter (s.readyFor (execKey (.player 47)))) = some it ∧ s.execEnabled (execKey (.player 47)) = false ∧ it.opc ≠ opImageLoad
         ∧ (s.exec? (execKey (.player 47))).queue.length < execDepth (execKey (.player 47)) ∧ s.moveDue (execKey (.player 47)) = none)
    ∧ (let it := { five opTask with desc := BitVec.ofNat 512 (opTask + 256 ^ 6 * 127) }
       let s := readied up it
       let k := execKey (.taskPort 127)
       firstItem (s.sched.ready.filter (s.readyFor k)) = some it ∧ s.moveDue k = none ∧ s.execEnabled k = true ∧ (s.exec? k).queue = [] ∧ (s.exec? k).cur = none
         ∧ s.sched.lost.any (fun x => x.1 == k) = false ∧ opcodeJournalled it.opc = true ∧ it.opc ≠ opPlay ∧ it.isOwn = false ∧ journalEntry k = some (49 + 127)
         ∧ s.mayIssue = true)
    ∧ (let c : Running := { item := five opImageLoad, phase := .reading }
       let s := busy up keyConfig c
       s.cur (execKey .config) = some c ∧ c.phase = .reading ∧ c.result = none ∧ s.host.linkUp = true)
    ∧ (let c : Running := { item := five opNop, result := some { status := 0 } }
       let s := busy up keyScheduler c
       s.cur (execKey .scheduler) = some c ∧ c.item.isOwn = false ∧ (s.exec? (execKey .scheduler)).queue = []) := by decide +kernel

theorem wit_QueueCompletions : (let s := waits (ringed 255 ringRun { order := [(5, 1)], cqLog2 := 4 }) { five opNop with ring := 255 } 0
      let f : Finished := { item := { five opNop with ring := 255 }, res := { status := 0 } }
      (s.ring 255).order = [(5, 1)] ∧ s.finishedOf 255 5 = some f ∧ s.releasable 255 f = true ∧ s.ringState 255 = ringRun ∧ s.qif ≠ 4 ∧ s.host.present = true)
    ∧ ((item opNop [(2, 8)]).noIrq = true ∧ (item opNop []).execOf.bind journalEntry = none ∧ up.mayIssue = true)
    ∧ ((up.setRing 0 { confirming := [65535] }).ring 0).confirming = [65535] ∧ up.host.linkUp = true ∧ up.host.present = true
    ∧ (((up.setRing 0 { modRun := true, modPend := true }).ring 0).modRun = true ∧ ((up.setRing 0 { modRun := true }).ring 0).modPend = false ∧ (up.ring 0).modRun = false) := by
  decide +kernel

/-- A ring whose control block, at 128, is good or has a word of its own at byte `pos`. -/
def blocked (r pos v : Nat) : State :=
  let s := flds (ringed r ringChecking {}) [(QIF_RING_CB r, QIF_RING_CB_ADDR, 1)]
  { s with host := { s.host with mem := putBytes (putBytes {} 128 (toBytes 4 ringMagic ++ [1, 0, 0, 0] ++ toBytes 8 4096 ++ [4, 16, 255, 1, 0, 0, 0, 0] ++ toBytes 8 8192)) (128 + pos) (toBytes 4 v) } }

theorem wit_QueueRings : (up.ready (QIF_RING_CB 255) = true ∧ up.ringState 255 = ringOff ∧ up.fldOn QIF_JOURNAL QIF_JOURNAL_VALID = false
      ∧ (flds up [(QIF_JOURNAL, QIF_JOURNAL_VALID, 1)]).fldOn QIF_JOURNAL QIF_JOURNAL_VALID = true
      ∧ (ringed 255 ringRun {}).ringState 255 ≠ ringOff ∧ QIF_RING_CB_ADDR.get (QIF_RING_CB_ADDR.put 0 1) ≠ (ringed 255 ringRun {}).fld (QIF_RING_CB 255) QIF_RING_CB_ADDR
      ∧ QIF_RING_CB_ADDR.get 0 = (ringed 255 ringRun {}).fld (QIF_RING_CB 255) QIF_RING_CB_ADDR ∧ (ringed 255 ringRun {}).ringState 255 ≠ ringHeld
      ∧ (ringed 255 ringHeld {}).ringState 255 = ringHeld ∧ QIF_RING_CB_ADDR.get 0 = (ringed 255 ringHeld {}).fld (QIF_RING_CB 255) QIF_RING_CB_ADDR)
    ∧ ((blocked 255 56 0).ringState 255 = ringChecking ∧ (blocked 255 56 0).host.linkUp = true)
    ∧ (let u := (blocked 255 56 0).cbCache 255; u.cbFault 255 = 0 ∧ (u.ring 255).accept = 0 ∧ u.pageBad = false
        ∧ ((blocked 255 56 0).ring 255).recTail = none ∧ ((blocked 255 56 0).ring 255).recHead = none)
    ∧ (let u := (blocked 0 64 7).cbCache 0; u.cbFault 0 = 0 ∧ (u.ring 0).accept ≠ 0)
    ∧ ((blocked 0 0 7).cbCache 0).cbFault 0 = 1 ∧ ((blocked 0 16 0x1FF0410).cbCache 0).cbFault 0 = 0 ∧ ((blocked 0 16 0x1FF0411).cbCache 0).cbFault 0 = 2
    ∧ ((blocked 0 16 0x2000410).cbCache 0).cbFault 0 = 5 ∧ ((blocked 0 8 2048).cbCache 0).cbFault 0 = 3
    ∧ up.ready QIF_JOURNAL = true ∧ up.allRingsOff = true ∧ (ringed 255 ringRun {}).allRingsOff = false := by decide +kernel

/-! ### Measurement engines -/

/-- A running engine at an instruction, which stands at its PC. -/
def engRun (e pc i : Nat) (v : EngSt) : State :=
  (flds up [(MEA_CTL e, MEA_CTL_EN, 1), (MEA_STATUS e, MEA_STATUS_STATE, enRunning), (MEA_STATUS e, MEA_STATUS_PC, pc)]).setEng e
    { v with prog := v.prog.set (fun _ => 0) pc (BitVec.ofNat 32 i) }
def engOk (s : State) (e i : Nat) : Bool :=
  s.engState e == enRunning && s.engsRun && s.engWord e == i && (List.range 2).all (fun k => !MEA_DBGC_EN.on (s.reg (MEA_DBGC e k)))

theorem engOk_at (s : State) (e i : Nat) (h : engOk s e i = true) : EngAt s e i := by
  simp only [engOk, Bool.and_eq_true, beq_iff_eq, List.all_eq_true, Bool.not_eq_true'] at h
  exact ⟨.inl h.1.1.1, h.1.1.2, h.1.2, .inr (fun k => h.2 k (List.mem_range.mpr k.isLt))⟩

/-- A word of the lane format: D 3, X[7] with its increment, every predicate of R232; and one of the control format. -/
def laneWord (opc pred md : Nat) : Nat := opc * 2 ^ 26 + 3 * 2 ^ 24 + 7 * 2 ^ 21 + 2 ^ 17 + pred * 2 ^ 14 + md
def ctlWord (opc r aux imm : Nat) : Nat := opc * 2 ^ 26 + r * 2 ^ 23 + aux * 2 ^ 16 + imm

theorem wit_EngineLaneInstructions : ∀ o ∈ [eoMac, eoAdda, eoAccop, eoCntr, eoNar, eoCmp, eoHist, eoMarg, eoDivs], ∀ p ∈ [0, 1, 2],
    let i := laneWord o p 0
    let s := engRun 23 4094 i {}
    EngAt s 23 i ∧ (s.engAfter 23).2 = 4095 ∧ eiOpc i = o := by
  intro o ho p hp
  have h : ∀ o ∈ [eoMac, eoAdda, eoAccop, eoCntr, eoNar, eoCmp, eoHist, eoMarg, eoDivs], ∀ p ∈ [0, 1, 2],
      engOk (engRun 23 4094 (laneWord o p 0) {}) 23 (laneWord o p 0) = true ∧ ((engRun 23 4094 (laneWord o p 0) {}).engAfter 23).2 = 4095
        ∧ eiOpc (laneWord o p 0) = o := by decide +kernel
  exact ⟨engOk_at _ _ _ (h o ho p hp).1, (h o ho p hp).2⟩

/-- A divisor in accumulator 2 of lane 15, zero in lane 0; lane 0 of the engine mapped to port lane 47, which is locked and at no point. -/
theorem wit_EngineLaneInstructions_lanes : (let i := laneWord eoDivs 0 56
      let s := engRun 0 0 i (({} : EngSt).setAcc 15 2 7)
      EngAt s 0 i ∧ s.laneOn 0 i 15 = true ∧ (s.engSt 0).accAt 15 2 ≠ 0 ∧ (s.engSt 0).accAt 0 2 = 0 ∧ (s.engSt 0).accAt 15 0 = 0 ∧ natBits (eiMod i) 0 6 = 56
        ∧ natBit (eiMod i) 6 = false)
    ∧ (let i := laneWord eoMarg 0 0
       let s := (flds (engRun 0 0 i {}) [(LANE_STATUS 47, LANE_STATUS_RX_STATE, rxLocked)]).setReg (MEA_MAP 0 0) (BitVec.ofNat 64 (128 + 47))
       EngAt s 0 i ∧ s.engPort 0 0 = some 47 ∧ (∀ l : Fin 16, (s.engPort 0 l).all (· < 48) = true) ∧ (∀ l : Fin 16, s.engPort 0 l = some 47 → l = 0) ∧ s.laneOn 0 i 0 = true
         ∧ (s.engSt 0).pts.get (fun _ => none) 0 = none ∧ rxLocked ≤ s.rxState 47 ∧ (s.engPort 0 15).isNone = true
         ∧ (flds s [(LANE_STATUS 47, LANE_STATUS_RX_STATE, rxAcquire)]).rxState 47 < rxLocked)
    ∧ (engRun 0 0 (laneWord eoMarg 1 0) {}).laneOn 0 (laneWord eoMarg 1 0) 0 = false := by
  refine ⟨⟨engOk_at _ _ _ (by decide +kernel), ?_⟩, ⟨engOk_at _ _ _ (by decide +kernel), ?_⟩, ?_⟩ <;> decide +kernel

/-- HIST of a lane whose accumulator is 511, with 512 bins: the clamp's edge, and its word at the saturation. -/
theorem wit_HistCounts : let i := laneWord eoHist 0 (9 * 64)
    let s := engRun 23 4094 i ((({} : EngSt).setAcc 15 3 512).setWord 511 15 0xFFFFFFFF)
    EngAt s 23 i ∧ (s.engAfter 23).2 ≤ 4095 ∧ eiOpc i = eoHist ∧ s.laneOn 23 i 15 = true ∧ (s.engSt 23).word ((s.engSt 23).xAt (eiXA i) + 511) 15 = 0xFFFFFFFF := by
  refine ⟨engOk_at _ _ _ (by decide +kernel), ?_⟩ <;> decide +kernel

/-- Four open levels; the innermost body is 4 to 6. -/
def levels : List LoopLvl := [{ first := 4, stop := 7, left := 1 }, { first := 3, stop := 8, left := 1 }, { first := 2, stop := 9, left := 1 }, { first := 1, stop := 10, left := 1 }]

theorem wit_EngineControl : ∀ x ∈ [(ctlWord eoLoop 0 127 0, 0), (ctlWord eoLoop 0 0 65535, 0), (ctlWord eoLoop 0 0 1, 4), (ctlWord eoJmp 0 0 4095, 0), (ctlWord eoJmp 0 1 0, 0),
      (ctlWord eoJmp 0 0 4, 4), (ctlWord eoJmp 0 0 6, 4), (ctlWord eoJmp 0 0 7, 4), (ctlWord eoSetb 3 7 0, 0), (ctlWord eoWait 0 3 0, 0), (ctlWord eoHalt 0 0 255, 0),
      (ctlWord 0x3F 0 0 0, 0), (ctlWord eoSetx 7 0 65535, 0), (ctlWord eoAddx 7 0 65535, 0), (ctlWord eoLdm 3 7 255, 0), (ctlWord eoStm 0 0 0, 0), (ctlWord eoTrig 0 0 7, 0),
      (ctlWord eoEvt 0 0 1, 0), (0, 0)],
    EngAt (engRun 23 5 x.1 { loops := levels.take x.2 }) 23 x.1 ∧ ((engRun 23 5 x.1 { loops := levels.take x.2 }).engAfter 23).2 ≤ 4095 := by
  intro x hx
  have h : ∀ x ∈ [(ctlWord eoLoop 0 127 0, 0), (ctlWord eoLoop 0 0 65535, 0), (ctlWord eoLoop 0 0 1, 4), (ctlWord eoJmp 0 0 4095, 0), (ctlWord eoJmp 0 1 0, 0),
      (ctlWord eoJmp 0 0 4, 4), (ctlWord eoJmp 0 0 6, 4), (ctlWord eoJmp 0 0 7, 4), (ctlWord eoSetb 3 7 0, 0), (ctlWord eoWait 0 3 0, 0), (ctlWord eoHalt 0 0 255, 0),
      (ctlWord 0x3F 0 0 0, 0), (ctlWord eoSetx 7 0 65535, 0), (ctlWord eoAddx 7 0 65535, 0), (ctlWord eoLdm 3 7 255, 0), (ctlWord eoStm 0 0 0, 0), (ctlWord eoTrig 0 0 7, 0),
      (ctlWord eoEvt 0 0 1, 0), (0, 0)],
      engOk (engRun 23 5 x.1 { loops := levels.take x.2 }) 23 x.1 = true ∧ ((engRun 23 5 x.1 { loops := levels.take x.2 }).engAfter 23).2 ≤ 4095 := by decide +kernel
  exact ⟨engOk_at _ _ _ (h x hx).1, (h x hx).2⟩

/-- A jump to 9 with a LOOP word at 8, whose body the jump stands outside of. -/
def jumper : State := (engRun 23 5 (ctlWord eoJmp 0 0 9) {}).setEng 23
  { prog := (SMap.set {} (fun _ => (0 : BitVec 32)) 5 (BitVec.ofNat 32 (ctlWord eoJmp 0 0 9))).set (fun _ => 0) 8 (BitVec.ofNat 32 (ctlWord eoLoop 0 3 2)) }

theorem wit_EngineControl_enters : EngAt jumper 23 (ctlWord eoJmp 0 0 9) ∧ jumper.jmpEnters 23 9 = true ∧ jumper.jmpEnters 23 8 = false := by
  refine ⟨engOk_at _ _ _ (by decide +kernel), ?_⟩ <;> decide +kernel

/-- What those words meet: an opcode reserved, a base that is not a line, a transfer and a point that WAIT waits for. -/
theorem wit_EngineControl_operands : opcNop 0x3F = true ∧ (let v := ({} : EngSt).setRow 0 8; v.row (v.xAt (7 % 8)) % 2 ^ 64 % 64 ≠ 0)
    ∧ (let v : EngSt := { xfers := [{ load := true, addr := 0, row := 1023 }] }; (natBit 1 0 && !v.xfers.isEmpty) = true)
    ∧ (let v : EngSt := { pts := ({} : SMap (Option MargPt)).set (fun _ => none) 15 (some { row := 0 }) }; (natBit 2 1 && !v.pts.cells.isEmpty) = true)
    ∧ levels.length = 4 ∧ (loopEnds [] (4094 + 1)).2 = 4095 := by decide +kernel

/-- A running engine whose item is an ENGINE_RUN. -/
def engBusyAt (e st : Nat) (it : Item) : State := busy (flds up [(MEA_CTL e, MEA_CTL_EN, 1), (MEA_STATUS e, MEA_STATUS_STATE, st)]) (keyEngine e) (doing it 0)
def loadItem : Item := item opEngineLoad [(6, 23), (24, 1), (26, 4095)]

theorem wit_EngineItems : (engBusyAt 23 enOff loadItem).curOp (keyEngine 23) opEngineLoad = some (doing loadItem 0) ∧ (engBusyAt 23 enOff loadItem).engState 23 = enOff ∧ loadItem.resumed = false
    ∧ (let s := { ram with eng := (engBusyAt 23 enIdle loadItem).eng, sched := (engBusyAt 23 enIdle loadItem).sched }.setEngState 23 enIdle
       let r := s.plainAcc (engReq 23) (loadItem.num 16 8) (.read (4 * loadItem.num 24 2))
       s.curOp (keyEngine 23) opEngineLoad = some (doing loadItem 0) ∧ s.engState 23 = enIdle ∧ r.2.1 = 0 ∧ r.2.2.length = 4 * loadItem.num 24 2
         ∧ r.1.cur (keyEngine 23) = some (doing loadItem 0))
    ∧ (let it := item opEngineRun [(6, 0), (16, 4095), (18, 1)]
       (engBusyAt 0 enIdle it).curOp (keyEngine 0) opEngineRun = some (doing it 0) ∧ (engBusyAt 0 enIdle it).engState 0 = enIdle ∧ (engBusyAt 0 enOff it).engState 0 = enOff ∧ it.resumed = false)
    ∧ (let x : XferLine := { load := true, addr := 64, row := 1023 }
       let s := ram.setEng 23 { xfers := [x, x] }
       (s.engSt 23).xfers = [x, x] ∧ (s.plainAcc (engReq 23) x.addr (.read 64)).2.1 = 0 ∧ (s.plainAcc (engReq 23) x.addr (.read 64)).1.engSt 23 = s.engSt 23
         ∧ (s.plainAcc (engReq 23) x.addr (.write (toBytes 64 ((s.engSt 23).row x.row)))).2.1 = 0
         ∧ (s.plainAcc (engReq 23) x.addr (.write (toBytes 64 ((s.engSt 23).row x.row)))).1.engSt 23 = s.engSt 23)
    ∧ ((engRun 23 0 0 { xfers := [{ load := false, addr := 64, row := 0 }] }).engBusy 23 = true ∧ RingStatus.noSuchStop ≠ RingStatus.success)
    ∧ (let s := ((up.setReg (MEA_MAP 0 1) (BitVec.ofNat 64 ((128 + 47) * 2 ^ 56))).setLane 47 { margin := some { owner := some (0, 15), dwell := 40 } }).setEng 0
         { pts := ({} : SMap (Option MargPt)).set (fun _ => none) 15 (some { row := 1022 }) }
       (s.engSt 0).pts.get (fun _ => none) 15 = some { row := 1022 } ∧ s.engPort 0 15 = some 47
         ∧ (s.lane 47).margin = some { owner := some (0, 15), dwell := 40 }) := by
  decide +kernel

theorem wit_EngineRegisters : up.ready (MEA_CTL 23) = true ∧ up.engState 23 = enOff ∧ MEA_CTL_EN.on (MEA_CTL_EN.put 0 1) = true
    ∧ ((engBusyAt 23 enIdle loadItem).engState 23 = enIdle ∧ MEA_CTL_EN.on 0 = false ∧ MEA_CTL_CLEAR.on 0 = false ∧ MEA_CTL_ABORT.on 0 = false)
    ∧ (enLoading ≤ (engBusyAt 23 enLoading loadItem).engState 23 ∧ (engBusyAt 23 enWaiting loadItem).engState 23 < enHalted)
    ∧ (let s := (engBusyAt 0 enHalted loadItem).setEng 0 { passed := true }
       let d := MEA_CTL_EN.put 0 1
       s.engState 0 = enHalted ∧ (s.engSt 0).passed = true ∧ MEA_CTL_STEP.on (MEA_CTL_STEP.put d 1) = true ∧ MEA_CTL_RESUME.on (MEA_CTL_STEP.put d 1) = false
         ∧ MEA_CTL_ABORT.on (MEA_CTL_STEP.put d 1) = false ∧ MEA_CTL_RESUME.on (MEA_CTL_RESUME.put d 1) = true ∧ MEA_CTL_STEP.on (MEA_CTL_RESUME.put d 1) = false
         ∧ MEA_CTL_ABORT.on (MEA_CTL_ABORT.put d 1) = true ∧ MEA_CTL_CLEAR.on (MEA_CTL_CLEAR.put d 1) = true ∧ MEA_CTL_EN.on (MEA_CTL_CLEAR.put d 1) = true)
    ∧ (enIdle < (engBusyAt 23 enLoading loadItem).engState 23 ∧ (engBusyAt 23 enLoading loadItem).ready (MEA_PROG_DATA 23) = true)
    ∧ (up.ready (MEA_MAP 23 1) = true ∧ up.engState 23 ≤ enIdle ∧ mapLanes (BitVec.ofNat 64 ((128 + 47) * 2 ^ 56 + 128)) = [0, 47] ∧ hasTwice [0, 47] = false
        ∧ (∀ n ∈ [0, 47], up.fldOn (LANE_MARGIN n) LANE_MARGIN_OWNED = false))
    ∧ up.ready (MEA_PROG_DATA 23) = true ∧ up.ready (MEA_MEM_DATA 23) = true ∧ up.fldOn DBG_PEEK DBG_PEEK_PEEK = false := by decide +kernel

/-! ### Oases -/

/-- A device at work whose oasis 126 has been cleared. -/
def clear126 : State := flds up [(OAS_G_STATUS 126, OAS_G_STATUS_CLEARING, 0)]

/-- A valid command word (write, bit 30, or read) for the last word at the fabric port of group 126, whose port lies on channels 58 to 63. -/
def portAt (cmd : Nat) : State :=
  let u := flds clear126 [(OAS_G_FPORT 126, OAS_G_FPORT_BOUND, 1), (OAS_G_FPORT 126, OAS_G_FPORT_TOP, 1), (OAS_G_FPORT 126, OAS_G_FPORT_CH, 58)]
  { u with fab := { u.fab with chan := u.fab.chan.set (fun _ => []) (chanKey 62 58 6 false) (List.replicate 16 { v := BitVec.ofNat 32 cmd }) } }

theorem wit_OasisPortsAndRing : (let s := portAt (2 ^ 31 + 2 ^ 30 + 0x1FFFFF)
      (s.oasGrp 126).cmdAt ≠ s.time.fck + 1 ∧ s.clk.rootRun = true ∧ (s.oasNow 126).rmws.find? (fun x => x.1 == 0x1FFFFF) = none ∧ s.fport 126 OAS_G_FPORT_BOUND ≠ 0 ∧ natBit (s.fportWord 126 0) 31 = true ∧ s.fportInert 126 = false ∧ s.oasFailed 126 = false
        ∧ natBit (s.fportWord 126 0) 30 = true ∧ natBits (s.fportWord 126 0) 0 21 = 0x1FFFFF)
    ∧ (let s := portAt (2 ^ 31)
       natBit (s.fportWord 126 0) 31 = true ∧ natBit (s.fportWord 126 0) 30 = false ∧ (s.oasStored 126 0).2 = false ∧ oasDecode (s.oasStored 126 0).1 = .clean)
    ∧ (let a : OasAnswer := { due := 4, data := 0, status := 1 }
       let s := { up with time := { up.time with fck := 4 } }.setOasGrp 0 { answers := [a] }
       (s.oasGrp 0).answers.find? (fun x => x.due == s.time.fck) = some a) := by decide +kernel

theorem wit_OasisPortsAndRing_bind : up.ready (OAS_G_FPORT 126) = true ∧ OAS_G_FPORT_BOUND.on (plainWrite OAS_G_FPORT_info (up.reg (OAS_G_FPORT 126)) 0) = false
    ∧ (let new := plainWrite OAS_G_FPORT_info (up.reg (OAS_G_FPORT 126)) (OAS_G_FPORT_CH.put (OAS_G_FPORT_BOUND.put 0 1) 58)
       OAS_G_FPORT_BOUND.on new = true ∧ OAS_G_FPORT_CH.get new = 58 ∧ 126 ≠ up.storeGroup
         ∧ up.bindRefused (.oasis 126) 62 58 6 (chanClaims (.oasis 126) 62 61 3 5 6) 5 6 = false ∧ up.bindRefused (.oasis 126) 62 59 6 (chanClaims (.oasis 126) 62 62 3 5 6) 5 6 = true)
    ∧ up.storeGroup = 127
    ∧ (let s := clear126.setReg (CRY_OAS_RIGHTS 0) (BitVec.ofNat 64 (3 * 2 ^ 62))
       s.rightOf (CRY_OAS_RIGHTS 0) 31 = 3 ∧ s.oasClearing 126 = false ∧ s.pwr.inReset.contains (oasDie 126) = false ∧ s.fldOn (OAS_G_CTL 126) OAS_G_CTL_TEST = false
         ∧ s.oasFailed 126 = false ∧ 126 ≠ s.storeGroup ∧ s.pwr.st ≠ .rest ∧ (s.oasNow 126).rmws.find? (fun x => x.1 == 2 ^ 21 - 1) = none
         ∧ (s.nextReq.oasAcc 126 31 (2 ^ 24 - 8) (.write (List.replicate 8 255))).2.1 ≠ memWait
         ∧ (s.oasStored 126 (2 ^ 21 - 1)).2 = false ∧ oasDecode (s.oasStored 126 (2 ^ 21 - 1)).1 = .clean)
    ∧ (let s := State.reset.setReg (CRY_OAS_RIGHTS 0) (BitVec.ofNat 64 (3 * 2 ^ 62)); (s.nextReq.oasAcc 126 31 0 (.read 1)).2.1 = memWait)
    ∧ (((up.setOasGrp 126 { wbs := [(2 ^ 21 - 1, 5)] }).oasGrp 126).wbs = [(2 ^ 21 - 1, 5)] ∧ (up.oasGrp 126).freeEntry (oasBank (2 ^ 21 - 1)) = some 0) := by decide +kernel

theorem wit_OasisTests : (State.reset.oasClearing (64 * (0 : LayerNo)) = true ∧ State.reset.oasClearing (64 * (1 : LayerNo)) = true)
    ∧ (State.reset.pwr.inReset.contains (oasDie 0) = false ∧ State.reset.pwr.st ≠ .rest)
    ∧ up.ready (OAS_G_CTL 126) = true ∧ OAS_G_CTL_TEST.on 0 = false ∧ up.oasInUse 126 = false ∧ OAS_G_CTL_TEST.on (OAS_G_CTL_TEST.put 0 1) = true
    ∧ (portAt 0).oasInUse 126 = true ∧ (portAt 0).fldOn (OAS_G_CTL 126) OAS_G_CTL_TEST = false
    ∧ up.ready OAS_TEST_CTL = true ∧ up.ready OAS_CONF_CTL = true ∧ OAS_CONF_CTL_CLEAR.on (OAS_CONF_CTL_CLEAR.put 0 1) = true
    ∧ OAS_TEST_CTL_WRITE.on (OAS_TEST_CTL_WRITE.put 0 1) = true ∧ OAS_TEST_CTL_READ.on (OAS_TEST_CTL_WRITE.put 0 1) = false
    ∧ OAS_TEST_CTL_READ.on (OAS_TEST_CTL_READ.put 0 1) = true ∧ OAS_TEST_CTL_WRITE.on (OAS_TEST_CTL_READ.put 0 1) = false
    ∧ (let s := flds up [(OAS_G_CTL 126, OAS_G_CTL_TEST, 1), (OAS_TEST_ADDR, OAS_TEST_ADDR_GROUP, 126), (OAS_TEST_ADDR, OAS_TEST_ADDR_WORD, 2 ^ 21 - 1)]
       s.fldOn (OAS_G_CTL (s.fld OAS_TEST_ADDR OAS_TEST_ADDR_GROUP)) OAS_G_CTL_TEST = true ∧ (flds s [(OAS_G_STATUS 126, OAS_G_STATUS_CLEARING, 0)]).oasClearing 126 = false ∧ up.fldOn (OAS_G_CTL 0) OAS_G_CTL_TEST = false
         ∧ (s.oasPut 126 (2 ^ 21 - 1) 1).oasStored 126 (2 ^ 21 - 1) = (1, false) ∧ oasDecode 1 = .corrected 0 ∧ oasDecode 3 = .bad ∧ oasDecode 0 = .clean) := by
  decide +kernel

theorem wit_OasisAddressing : (let s := clear126.setReg (CRY_OAS_RIGHTS 0) (BitVec.ofNat 64 (2 * 2 ^ 62))
    2 ≤ s.rightOf (CRY_OAS_RIGHTS 0) 31 ∧ s.pwr.st ≠ .rest ∧ 126 ≠ s.storeGroup ∧ s.oasClearing 126 = false ∧ s.pwr.inReset.contains (oasDie 126) = false
      ∧ s.fldOn (OAS_G_CTL 126) OAS_G_CTL_TEST = false ∧ s.oasFailed 126 = false ∧ (s.oasStored 126 ((2 ^ 24 - 1) / 8)).2 = false
      ∧ oasDecode (s.oasStored 126 ((2 ^ 24 - 1) / 8)).1 = .clean) := by decide +kernel

/-! ### External memory -/

/-- A window's value: valid, of so many MiB from a base in MiB. -/
def winCfg (base size : Nat) : Data := DRMC_WIN_CFG_VALID.put (DRMC_WIN_CFG_SIZE.put (DRMC_WIN_CFG_BASE.put 0 base) size) 1
def ctlIn (p st : Nat) (c : CtlSt) : State := (flds up [(DRMC_STATUS p, DRMC_STATUS_STATE, st)]).setCtl p c
def someReq (id : Nat) : DramReq := { id := id, req := 31, dom := 0, addr := 0, line := 0, plain := true, op := .read }

theorem wit_DramRequests : (match (ram.checkRequest 31 (2 ^ 26 - 64) .read).2 with
        | .inr (p, _) => p == 0
        | .inl _ => false) = true
    ∧ ram.ctlState 0 = ctlReady ∧ (2 ^ 26 - 64) % 64 = 0 ∧ ram.isUp 0x200 = true ∧ ram.pwr.inReset.contains 0x200 = false
    ∧ (match (ram.checkRequest 31 (2 ^ 26) .read).2 with
        | .inl st => st
        | .inr _ => 0) = 5
    ∧ (let s := ctlIn 31 ctlReady { queue := [someReq 1, someReq 2] }
       s.ctlState 31 = ctlReady ∧ (s.ctlAt 31).queue = [someReq 1, someReq 2] ∧ s.fld (DRMC_STATUS 31) DRMC_STATUS_RETRAINING = 0
         ∧ s.tokenBefore 31 (someReq 1) = false)
    ∧ (let s := ctlIn 31 ctlReady { refDue := [127] }
       s.ctlState 31 = ctlReady ∧ s.retraining 31 (127 / 32) = false ∧ 127 ∈ (s.ctlAt 31).refDue)
    ∧ (let s := flds (ctlIn 31 ctlReady { retrain := [3] }) [(DRMC_STATUS 31, DRMC_STATUS_RETRAINING, 8)]
       s.ctlState 31 = ctlReady ∧ s.retraining 31 (127 % 128 / 32) = true)
    ∧ (let s := ctlIn 31 ctlReady { wbs := [(953_999_999, { data := 1 })] }
       (s.ctlAt 31).wbs = [(953_999_999, { data := 1 })] ∧ s.ctlState 31 = ctlReady ∧ s.retraining 31 (s.lineChannel 31 953_999_999) = false
         ∧ firstBelow 16 (fun e => (((s.ctlAt 31).putLine 953_999_999 { data := 1 }).spare e).isNone && !(s.ctlAt 31).dead.contains e) = some 0)
    ∧ (∀ n ∈ [0, 58240 * 2 ^ 14 - 2], let s := flds (ctlIn 0 ctlReady {}) [(DRMC_CTL 0, DRMC_CTL_PATROL, 1), (DRMC_SCRUB 0, DRMC_SCRUB_NEXT, n)]
       s.ctlState 0 = ctlReady ∧ s.fldOn (DRMC_CTL 0) DRMC_CTL_PATROL = true ∧ s.retraining 0 (s.lineChannel 0 n) = false ∧ s.fld (DRMC_SCRUB 0) DRMC_SCRUB_NEXT + 1 < s.usableMib * 2 ^ 14)
    ∧ (let s := flds (ctlIn 0 ctlReady {}) [(DRMC_CTL 0, DRMC_CTL_PATROL, 1), (DRMC_SCRUB 0, DRMC_SCRUB_NEXT, 58240 * 2 ^ 14 - 1)]
       s.usableMib * 2 ^ 14 ≤ s.fld (DRMC_SCRUB 0) DRMC_SCRUB_NEXT + 1) := by decide +kernel

theorem wit_DramTraining : (let s := ctlIn 31 ctlReady {}
      s.ctlState 31 = ctlReady ∧ (s.ctlAt 31).retrain = [] ∧ (flds s [(DRMC_CTL 31, DRMC_CTL_RETRAIN, 0)]).fldOn (DRMC_CTL 31) DRMC_CTL_RETRAIN = false
        ∧ (flds s [(DRMC_CTL 31, DRMC_CTL_RETRAIN, 1)]).fldOn (DRMC_CTL 31) DRMC_CTL_RETRAIN = true ∧ (s.ctlAt 31).rate.get (fun _ => none) 3 = none)
    ∧ ((ctlIn 31 ctlReady { rate := ({} : SMap (Option Nat)).set (fun _ => none) 3 (some 31) }).ctlAt 31).rate.get (fun _ => none) 3 = some (31 : BitVec 5).toNat
    ∧ up.ready (DRMC_CMD 31) = true ∧ DRMC_CMD_CLR_CNT.on (DRMC_CMD_RETRAIN.put 0 8) = false ∧ DRMC_CMD_RETRAIN.get (DRMC_CMD_RETRAIN.put 0 8) = 2 ^ 3
    ∧ DRMC_CMD_CLR_CNT.on (DRMC_CMD_CLR_CNT.put 0 1) = true ∧ DRMC_CMD_RETRAIN.get (DRMC_CMD_CLR_CNT.put 0 1) = 0
    ∧ (∀ k ∈ [0, 3, 4], let s := (flds (ctlIn 31 ctlReady { retrain := [3], fails := ({} : SMap Nat).set (fun _ => 0) 3 k }) [(DRMC_STATUS 31, DRMC_STATUS_RETRAINING, 8)])
       s.retraining 31 3 = true ∧ (s.ctlAt 31).retrain = [3] ∧ (s.ctlAt 31).fails.get (fun _ => 0) 3 = k)
    ∧ (∀ keep, let u := ctlIn 31 ctlTraining { keep := keep }
       let s : State := { u with mem := { u.mem with setUp := false } }
       s.ctlState 31 = ctlTraining ∧ s.mem.setUp = false ∧ (s.ctlAt 31).keep = keep)
    ∧ (ctlIn 31 ctlClearing {}).ctlState 31 = ctlClearing := by decide +kernel

theorem wit_DramWindows : up.ready (DRMC_WIN_CFG 15) = true ∧ up.ready (DRMC_WIN_MASK 15) = true ∧ up.ready (DRMC_CTL 31) = true
    ∧ winValid (plainWrite DRMC_WIN_CFG_info 0 0) = false ∧ winValid (up.reg (DRMC_WIN_CFG 15)) = false
    ∧ (let v := winCfg 0 64
       let u := (flds up [(DRMC_STATUS 0, DRMC_STATUS_STATE, ctlReady)]).setReg (DRMC_WIN_MASK 15) 1
       let s := u.setReg (DRMC_WIN_CFG 15) v
       winValid (plainWrite DRMC_WIN_CFG_info v (winCfg 0 128)) = true ∧ winValid (s.reg (DRMC_WIN_CFG 15)) = true ∧ plainWrite DRMC_WIN_CFG_info v (winCfg 0 128) ≠ v
         ∧ u.winFault 15 (plainWrite DRMC_WIN_CFG_info 0 v) = none ∧ (s.winFault 0 (plainWrite DRMC_WIN_CFG_info 0 v)).isSome = true)
    ∧ (let s := (up.setReg (DRMC_WIN_MASK 15) (BitVec.ofNat 64 (2 ^ 31))).setReg (DRMC_WIN_CFG 15) (winCfg 0 64)
       let old := s.reg (DRMC_CTL 31)
       winValid (s.reg (DRMC_WIN_CFG (15 : WinNo))) = true ∧ natBit (s.fld (DRMC_WIN_MASK (15 : WinNo)) DRMC_WIN_MASK_CTRL) 31 = true
         ∧ DRMC_CTL_PRESET.get (plainWrite DRMC_CTL_info old (DRMC_CTL_PRESET.put old (DRMC_CTL_PRESET.get old + 1))) ≠ DRMC_CTL_PRESET.get old
         ∧ DRMC_CTL_PRESET.get (plainWrite DRMC_CTL_info old old) = DRMC_CTL_PRESET.get old) := by decide +kernel

/-! ### Keys and the drift -/

/-- The security controller performs a KEY item whose extension names a slot. -/
def keying (op slot : Nat) (l : List (Nat × Nat)) : State :=
  busy up keySecurity (doing { item opKey ((16, op) :: l) with ext := some (BitVec.ofNat 512 slot) } 0)
def keyIt (op slot : Nat) (l : List (Nat × Nat)) : Item := { item opKey ((16, op) :: l) with ext := some (BitVec.ofNat 512 slot) }
/-- A domain's value: valid, of so many MiB from a base in MiB; and a strict window's, in 64 KiB. -/
def domCfg (base size : Nat) : Nat := (CRY_DOM_CFG_VALID.put (CRY_DOM_CFG_SIZE.put (CRY_DOM_CFG_BASE.put 0 base) size) 1).toNat
def strictCfg (base size : Nat) : Nat := (CRY_STRICT_CFG_VALID.put (CRY_STRICT_CFG_SIZE.put (CRY_STRICT_CFG_BASE.put 0 base) size) 1).toNat
def domained (s : State) (d base size : Nat) : State := (flds (s.setReg (CRY_DOM_CFG d) (BitVec.ofNat 64 (domCfg base size))) [(CRY_DOM_KEY d, CRY_DOM_KEY_KEY_VALID, 1)])

theorem wit_KeyCommands : (∀ op ∈ [1, 2, 3, 4, 5], ∀ slot ∈ [0, 15], ∀ k ∈ [7, 15],
      let s := keying op slot [(17, k)]
      let c := doing (keyIt op slot [(17, k)]) 0
      s.curOp keySecurity opKey = some c ∧ s.attestFailed = false ∧ c.item.slot = slot ∧ c.item.num 16 1 = op ∧ c.item.num 17 1 = k)
    ∧ (let s := domained up 15 0 64
       s.domFault 15 (rwaWrite (CRY_DOM_CFG 15) (s.reg (CRY_DOM_CFG 15)) (BitVec.ofNat 64 (domCfg 0 128))) none = none
         ∧ s.domFault 15 (rwaWrite (CRY_DOM_CFG 15) (s.reg (CRY_DOM_CFG 15)) (BitVec.ofNat 64 (domCfg 0 0))) none = some 1
         ∧ s.domFault 15 (rwaWrite (CRY_DOM_CFG 15) (s.reg (CRY_DOM_CFG 15)) (BitVec.ofNat 64 (domCfg 0 (2 ^ 21 - 1)))) (some 255) = none
         ∧ s.domFault 15 (rwaWrite (CRY_DOM_CFG 15) (s.reg (CRY_DOM_CFG 15)) (BitVec.ofNat 64 (domCfg 1 (2 ^ 21 - 1)))) (some 0) = some 3
         ∧ up.domFault 0 (rwaWrite (CRY_DOM_CFG 0) 0 (BitVec.ofNat 64 (domCfg 0 64))) none = some 4)
    ∧ (let s := domained up 15 0 64
       let r := strictRange (rwaWrite (CRY_STRICT_CFG 7) 0 (BitVec.ofNat 64 (strictCfg 0 1024)))
       r = (0, 2 ^ 26) ∧ domValid (s.reg (CRY_DOM_CFG 15)) = true ∧ domBase (s.reg (CRY_DOM_CFG 15)) * 2 ^ 20 ≤ r.1
         ∧ r.1 + r.2 ≤ (domBase (s.reg (CRY_DOM_CFG 15)) + domSize (s.reg (CRY_DOM_CFG 15))) * 2 ^ 20 ∧ (∀ x, x < 8 → strictValid (s.reg (CRY_STRICT_CFG x)) = false)
         ∧ strictValid (rwaWrite (CRY_STRICT_CFG 7) 0 0) = false ∧ (∀ d, d < 16 → domValid (up.reg (CRY_DOM_CFG d)) = false)) := by decide +kernel

/-- A key made on the device: its value is free. -/
theorem wit_KeyCommands_made (hk : hashKey (BitVec.ofNat 256 (Config.freeValue 384 0).toNat) ≠ 0) :
    (keying 4 0 [(17, 15), (19, 3)]).keyIn true 0 false = .key (Config.freeValue 384 0)
    ∧ (keying 1 0 [(17, 15), (19, 3)]).domKeyIn true 0 false = .key (BitVec.ofNat 384 ((Config.freeValue 384 0).toNat % 2 ^ 256)) := by
  refine ⟨rfl, ?_⟩
  have h : (keying 1 0 [(17, 15), (19, 3)]).keyIn true 0 false = .key (Config.freeValue 384 0) := rfl
  simp only [State.domKeyIn, h, hk, if_false, Bool.not_true, Bool.false_eq_true, false_and]

/-- A drift of domain 15, of 64 MiB from 0, in a state, at a line. -/
def driftAt (st line : Nat) : State :=
  flds (domained ram 0 0 64) [(CRY_DRIFT_STATUS, CRY_DRIFT_STATUS_STATE, st), (CRY_DRIFT_CTL, CRY_DRIFT_CTL_DOMAIN, 0), (CRY_DRIFT_BOUNDARY, CRY_DRIFT_BOUNDARY_LINE, line)]

theorem wit_DriftCommands_start (hk : hashKey (BitVec.ofNat 256 (Config.freeValue 384 0).toNat) ≠ 0) : (let it := item opDriftStart [(16, 0), (17, 255), (18, 1)]
      let s := busy ram keyDrift (doing it 0)
      s.curOp keyDrift opDriftStart = some (doing it 0) ∧ (doing it 0).step = 0 ∧ driftState s = 0 ∧ it.num 16 1 < 16 ∧ domValid (s.reg (CRY_DOM_CFG (it.num 16 1))) = true ∧ it.num 17 1 ≠ 0
        ∧ it.num 17 1 ≠ s.domEpoch 0 ∧ s.domKeyIn (natBit (it.num 18 1) 0) (it.num 24 8) false = .key (BitVec.ofNat 384 ((Config.freeValue 384 0).toNat % 2 ^ 256)))
    ∧ driftState (driftAt 1 0) ≠ 0 ∧ domValid (up.reg (CRY_DOM_CFG 0)) = false := by
  refine ⟨⟨by decide +kernel, by decide +kernel, by decide +kernel, by decide +kernel, by decide +kernel, by decide +kernel, by decide +kernel, ?_⟩, by decide +kernel, by decide +kernel⟩
  have h : (busy ram keyDrift (doing (item opDriftStart [(16, 0), (17, 255), (18, 1)]) 0)).keyIn true 0 false = .key (Config.freeValue 384 0) := rfl
  have hb : natBit ((item opDriftStart [(16, 0), (17, 255), (18, 1)]).num 18 1) 0 = true := by decide +kernel
  have ha : (item opDriftStart [(16, 0), (17, 255), (18, 1)]).num 24 8 = 0 := by decide +kernel
  simp only [State.domKeyIn, hb, ha, h, hk, if_false, Bool.not_true, Bool.false_eq_true, false_and]

/-- A line sealed under the old key in the second line of controller 0. -/
def drifted : State := (driftAt 1 1).setCtl 0 (((driftAt 1 1).ctlAt 0).putLine 1 (sealLine 0 1 0 0 false 5))

theorem wit_DriftCommands : (∀ line ∈ [0, 2 ^ 20 - 2], let s := (driftAt 1 line).setReg (DRMC_WIN_CFG 0) 0
      driftState s = 1 ∧ s.mem.ckpt = none ∧ s.driftDom < 16 ∧ s.winOf s.boundary = none ∧ s.boundary + 64 < 2 ^ 26)
    ∧ (let s := (driftAt 1 (2 ^ 20 - 1)).setReg (DRMC_WIN_CFG 0) 0; s.winOf s.boundary = none ∧ 2 ^ 26 ≤ s.boundary + 64
        ∧ (domBase (s.reg (CRY_DOM_CFG 0)) + domSize (s.reg (CRY_DOM_CFG 0))) * 2 ^ 20 = 2 ^ 26)
    ∧ (let s := driftAt 1 1
       s.winOf s.boundary = some 0 ∧ s.mapLine 0 s.boundary = (0, 1) ∧ (s.checkController 0).2 = 0
         ∧ ((s.checkController 0).1.dramDrain 0).lineWaits 0 1 23 = false
         ∧ ((((((s.checkController 0).1.dramDrain 0).dramActivate 0 1 23).cacheTouch 0 1).wrapFld (DRMC_CNT_RD 0) DRMC_CNT_RD_LINES 1).dramReadLine 0 1 23 0 {}).2.map (fun l => l.blank) = some true)
    ∧ (let s := drifted
       let r := ((((((s.checkController 0).1.dramDrain 0).dramActivate 0 1 23).cacheTouch 0 1).wrapFld (DRMC_CNT_RD 0) DRMC_CNT_RD_LINES 1).dramReadLine 0 1 23 0 {})
       r.2 = some (sealLine 0 1 0 0 false 5) ∧ r.1.mem.zone = false ∧ (sealLine 0 1 0 0 false 5).blank = false
         ∧ openUnder [(r.1.domKey 0, r.1.domEpoch 0)] 1 0 (r.1.strictOf 64).isSome (sealLine 0 1 0 0 false 5) = some 5)
    ∧ (∀ x, let s := (driftAt 1 0).setMem { (driftAt 1 0).mem with ckpt := some x }; s.mem.ckpt = some x ∧ driftState s ≠ 0 ∧ driftState s ≠ 4)
    ∧ up.ready CRY_DRIFT_CTL = true := by decide +kernel

/-! ### Power, wakes and domains -/

/-- A device in a power state with wake sources latched; and one whose sensor k has stood at 110 °C for so many samples. -/
def slept (st : PowerState) (latched : Nat) : State := { up with pwr := { up.pwr with st := st, latched := latched } }

def hot (k n : Nat) : State := { up with thm := { up.thm with hotFor := up.thm.hotFor.set (fun _ => 0) k n } }

theorem wit_PowerStates : up.ready PWR_CTL = true ∧ (∀ r ∈ [0, 1, 2, 3], up.reqReason r = 0 ∧ (slept (.entering false) 0).reqReason r ≠ 0) ∧ up.pwr.st = .active
    ∧ (∀ d, (slept (.entering d) 0).pwr.st = .entering d ∧ (slept (.entering d) 0).pwr.thermal = false)
    ∧ (wakeIsLevel .eject && up.wakes .eject) = false ∧ up.emulates = false
    ∧ (flds up [(DBG_ATTACH, DBG_ATTACH_HOST, 1), (DBG_ATTACH, DBG_ATTACH_EMU_SLEEP, 1)]).emulates = true
    ∧ (slept (.entering true) 0).wakes .host = true ∧ wakeIsLevel .host = true
    ∧ (∀ st ∈ [PowerState.active, .quiet, .entering false, .entering true, .rest], (slept st 0).wakes .host = true ∧ (slept st 0).pwr.powered = true)
    ∧ (let s := (slept .dormant 0).setReg PWR_WAKE_EN (BitVec.ofNat 64 127)
       s.wakes .sync = true ∧ wakeIsLevel .sync = false ∧ (s.setReg PWR_WAKE_TIME 1).wakes .timer = true ∧ s.pwr.emulated = false)
    ∧ up.wakes (.sigdet 0) = false
    ∧ (let s := slept .rest 127; s.pwr.st = .rest ∧ s.pwr.latched ≠ 0 ∧ s.jr.departDue = false ∧ s.pwr.emulated = false)
    ∧ (∀ b ∈ [false, true], let s := { slept .dormant 1 with pwr := { (slept .dormant 1).pwr with thermal := b } }; s.mayWake 25000000 = true)
    ∧ (let s := { slept .dormant 1 with pwr := { (slept .dormant 1).pwr with thermal := true } }; s.mayWake 24999999 = false)
    ∧ (slept .dormant 2).pwr.latched % 2 = 0 := by decide +kernel

theorem wit_SuppliesAndResets : (up.pwr.st ≠ .dormant ∧ up.pwr.powered = true ∧ up.pwr.passClosed = true ∧ up.host.present = true)
    ∧ ((slept .dormant 0).pwr.st = .dormant ∧ (slept .dormant 0).pwr.emulated = false)
    ∧ (let s := { up with pwr := { up.pwr with passClosed := false, powered := false } }
       s.pwr.switchHeld = false ∧ s.pwr.passClosed = false ∧ s.pwr.powered = false ∧ s.pwr.softStarted = true)
    ∧ up.ready RST_CTL = true ∧ RST_CTL_WARM.on (RST_CTL_WARM.put 0 1) = true ∧ up.hostReaches = true ∧ up.pwr.st ≠ .rest ∧ (slept .rest 0).pwr.st = .rest
    ∧ (cold 255 ringRun {}).ringState 255 = ringRun ∧ (cold 0 ringStopping {}).ringState 0 = ringStopping
    ∧ up.awake = true ∧ (slept .quiet 0).pwr.st = .quiet ∧ (hot 255 100).tooHot 255 = true := by decide +kernel

/-- A device whose PWR.DOM_SEL names a domain in a state. -/
def domIn (d st : Nat) : State := (flds up [(PWR_DOM_SEL, PWR_DOM_SEL_DOMAIN, d)]).setDom d { st := st }

theorem wit_Domains : up.ready PWR_DOM_CTL = true
    ∧ ((domIn 0 domUp).fld PWR_DOM_SEL PWR_DOM_SEL_DOMAIN = 0 ∧ domPowers 0 = false)
    ∧ (domPowers (768 + 127) = true ∧ (flds (domIn (768 + 127) domUp) [(FAB_ERG_STATUS 127, FAB_ERG_STATUS_ACTIVE_WRITE, 1)]).domBusy (768 + 127) = true)
    ∧ (domPowers (512 + 31) = true ∧ (domIn (512 + 31) domUp).domBusy (512 + 31) = false ∧ (domIn (512 + 31) domUp).fld PWR_DOM_SEL PWR_DOM_SEL_DOMAIN = 512 + 31
        ∧ ((domIn (512 + 31) domUp).dom (512 + 31)).st = domUp)
    ∧ (∀ st ∈ [domGoing, domDown, domWaking], ((domIn (1792 + 23) st).dom (1792 + 23)).st = st) ∧ up.pwr.heldRegs = []
    ∧ (let s : State := { up with pwr := { up.pwr with wokenFor := [512] } }; s.pwr.wokenFor.contains 512 = true ∧ s.pwr.heldRegs = [])
    ∧ (∀ d ∈ [0, 6, 543, 768], let s : State := { ctlIn 31 ctlResetting { resetFrom := ctlReady } with pwr := { up.pwr with inReset := [d] } }
       s.pwr.inReset.contains d = true ∧ s.pwr.inReset.filter (· != d) = [] ∧ s.sup.kind = 0 ∧ s.sup.queue = [] ∧ s.jr.departDue = false ∧ s.pwr.heldRegs = []
         ∧ (s.ctlAt 31).resetFrom = ctlReady) := by decide +kernel

/-- A die of memory whose wake, or clearing, an access waits for. -/
theorem wit_Domains_held : (let s : State := { up.setOasGrp 64 { held := [{ id := 1, req := 31, off := 0, acc := .read 64 }] } with pwr := { up.pwr with wokenFor := [4] } }
      (s.oasGrp 64).held ≠ [] ∧ s.pwr.heldRegs = []) ∧ (∀ i, i < 128 → (up.oasGrp i).held = []) := by decide +kernel

theorem wit_Domains_reset : up.ready RST_DOM = true ∧ RST_DOM_GO.on (RST_DOM_GO.put (RST_DOM_DOMAIN.put 0 543) 1) = true
    ∧ RST_DOM_DOMAIN.get (RST_DOM_GO.put (RST_DOM_DOMAIN.put 0 543) 1) = 543 ∧ up.jr.departDue = false ∧ up.sup.kind = 0 ∧ up.sup.queue = []
    ∧ up.domResetRefusal 7 = some 1 ∧ (domIn 768 domDown).domResetRefusal 768 = some 4 ∧ (ctlIn 31 ctlReady {}).domResetRefusal 543 = none
    ∧ (ctlIn 31 ctlReady {}).ctlState (543 % 256) ≠ ctlOff ∧ up.domResetRefusal 6 = none ∧ up.domResetRefusal 543 = none ∧ up.ctlState (543 % 256) = ctlOff
    ∧ (let s := flds up [(SUP_STATUS, SUP_STATUS_SVA, svLeading), (SUP_STATUS, SUP_STATUS_SVB, svFollowing), (SUP_STATUS, SUP_STATUS_LEADER, 0)]
       s.domResetRefusal 0x600 = none ∧ s.leaderNo = 0x600 % 256 ∧ s.sv (1 - 0x600 % 256) = svFollowing ∧ s.domResetRefusal 0x601 = none ∧ s.leaderNo ≠ 0x601 % 256) := by
  decide +kernel

/-- Supervisor A leads and B follows, out of reset. -/
def ledBy (a b : Nat) : State := flds up [(SUP_STATUS, SUP_STATUS_SVA, a), (SUP_STATUS, SUP_STATUS_SVB, b), (SUP_STATUS, SUP_STATUS_LEADER, 0)]

theorem wit_Supervisors : (let s := ledBy svLeading svFollowing
      s.leaderNo = 0 ∧ s.sv 0 = svLeading ∧ s.sv 1 = svFollowing ∧ s.leads = true ∧ s.sup.kind = 0 ∧ s.sup.queue = [] ∧ s.jr.departDue = false ∧ s.clk.mgmtReset = false
        ∧ s.host.linkUp = true ∧ (∀ c : CoreNo, s.coreHalted c = false ∧ s.fldOn (SUP_WDOG c) SUP_WDOG_FROZEN = false) ∧ s.qif ≠ 3 ∧ s.qif ≠ 4)
    ∧ (let s := ledBy svLeading svFailed; s.sv 1 ≠ svFollowing ∧ s.leaderNo = 0)
    ∧ (let s := ledBy svOff svOff
       s.leads = false ∧ s.sv 0 = svOff ∧ s.sv 1 = svOff ∧ s.pwr.inReset.contains 0x601 = false ∧ s.sup.noLead = false ∧ s.sup.leader = 0 ∧ s.sv 0 ≠ svFailed)
    ∧ (let s : State := { ledBy svOff svOff with sup := { (ledBy svOff svOff).sup with kind := 6 } }
       s.sup.kind ≠ 0 ∧ s.leads = false ∧ s.sup.queue.length < 14 ∧ s.sup.kind ≠ 1)
    ∧ (let s : State := { ledBy svLeading svFollowing with sup := { (ledBy svLeading svFollowing).sup with kind := 1 } }; s.sup.kind = 1 ∧ s.leads = true)
    ∧ (let s := ledBy svFailed svResetting; s.sv 1 = svResetting ∧ s.sup.leader = 1 - 1 ∧ s.sv (1 - 1) = svFailed ∧ s.pwr.inReset.contains 0x601 = false ∧ s.sup.noLead = false)
    ∧ (let s : State := { ledBy svOff svOff with sup := { (ledBy svOff svOff).sup with kind := 6, queue := List.replicate 14 (2, 0) } }
       s.leads = false ∧ 14 ≤ s.sup.queue.length ∧ s.sup.kind ≠ 1 ∧ ∀ n ∈ s.sup.queue, n.1 ≠ 1)
    ∧ (let s : State := { ledBy svOff svOff with sup := { (ledBy svOff svOff).sup with kind := 6, queue := [(2, 0), (1, 0)] } }; s.sup.kind ≠ 1 ∧ ∃ n ∈ s.sup.queue, n.1 = 1) := by
  decide +kernel

/-! ### The ring network -/

/-- A header: a kind, a class and flit 0 towards a place, from one. -/
def head (kind cls dst src : Nat) : BitVec 128 := BitVec.ofNat 128 (kind * 2 ^ 52 + cls * 2 ^ 56 + dst * 2 ^ 26 + src * 2 ^ 16 + 2 ^ 38)

theorem wit_RingNetwork_inject : (let h := head 2 1 (47 * 4 + 2) 0
      let s := up.setHeld (grantKey (47 * 4 + 2) 1 0) 1
      let g := hdPut h 55 1 s.tblActive
      s.flitFits g = true ∧ hdClass h ≠ 0 ∧ s.noStop 0 g = false ∧ s.headsFor 0 g = some 47 ∧ hdKind g ≠ kdResponse ∧ isRequest (hdKind g) = true ∧ hdFlit g = 0
        ∧ s.heldAt (grantKey (hdDst g) (hdClass g) (hdSrc g)) ≠ 0 ∧ hdHop g + hopsOn (s.ringFor 0 0 47 % 2 = 1) 0 47 < 97
        ∧ (∀ k : Fin 16, PRB_P_CFG_EN.on (s.reg (PRB_P_CFG k)) = false))
    ∧ (let h := head 2 0 (47 * 4 + 2) 0; up.flitFits (hdPut h 55 1 up.tblActive) = true ∧ hdClass h = 0)
    ∧ (let h := hdPut (head 2 1 (48 * 4) 0) 55 1 up.tblActive; up.flitFits h = true ∧ up.noStop 0 h = true) ∧ up.noStop 2 (head 2 3 (3 * 256) 0) = true := by decide +kernel

theorem wit_RingNetwork_eject : (let f : RFlit := { hdr := head 2 1 (47 * 4) 0, start := 46 }
      let u := flds up [(OAS_G_STATUS 0, OAS_G_STATUS_CLEARING, 0), (OAS_G_STATUS 64, OAS_G_STATUS_CLEARING, 0)]
      let s := (u.setFlits 0 [f]).setGrants (grantKey (47 * 4) 1 0) 1
      let d := State.bufDomain (hopped f.hdr (hopsOn false f.start 47))
      wholePacket ((s.ringFlits 0).filter (fun f => s.headsFor 0 f.hdr == some 47 && !s.pathShut 0 false f.start 47)) = [f] ∧ placePair (hdDst f.hdr) = 0
        ∧ isRequest (hdKind f.hdr) = true ∧ s.grantsAt (grantKey (hdDst f.hdr) (hdClass f.hdr) (hdSrc f.hdr)) ≠ 0
        ∧ (∀ k : Fin 16, PRB_P_CFG_EN.on (s.reg (PRB_P_CFG k)) = false) ∧ s.isUp d = true ∧ s.pwr.inReset.contains d = false
        ∧ s.oasClearing 0 = false ∧ s.oasClearing 64 = false) := by decide +kernel

/-- The destination's domain goes down, so it grants nothing; and a requester has asked for all that it may. -/
theorem wit_RingNetwork_reserve : hdKind (head kdReserve 1 188 0) = kdReserve ∧ up.mayReserve (head kdReserve 1 188 0) = true
    ∧ (let s := up.setDom (State.bufDomain (head kdReserve 1 188 0)) { st := domGoing }
       s.mayReserve (head kdReserve 1 188 0) = true ∧ s.canGrant (head kdReserve 1 188 0) = false ∧ grantKey 188 1 0 ∉ s.net.waiting)
    ∧ (up.setGrants (grantKey 188 1 0) up.rsvDepth).mayReserve (head kdReserve 1 188 0) = false
    ∧ hdKind (head kdGrant 1 188 0) = kdGrant ∧ hdKind (head kdResponse 1 188 0) = kdResponse
    ∧ (let a := (188, 0, 0, 1)
       ({ up with net := { up.net with asked := [a] } } : State).net.asked.find? (fun a => a.1 == hdDst (head kdResponse 1 188 0) && a.2.1 == hdTag (head kdResponse 1 188 0)
         && a.2.2.1 == hdSrc (head kdResponse 1 188 0)) = some a) := by decide +kernel

/-- A destination that takes packets grants one that is asked for: whatever its buffers, it has at least one. -/
theorem wit_RingNetwork_granted : up.canGrant (head kdReserve 1 188 0) = true := by
  have hb : up.bufsTaken (hdDst (head kdReserve 1 188 0)) (hdClass (head kdReserve 1 188 0)) = 0 := rfl
  have hd : ((up.dom (State.bufDomain (head kdReserve 1 188 0))).st != domGoing) = true := by decide +kernel
  simp only [State.canGrant, hb, hd, Bool.true_and, decide_eq_true_eq]
  omega

theorem wit_RingNetwork_tables : up.ready RING_TBL_CTL = true ∧ RING_TBL_CTL_SWITCH.on (RING_TBL_CTL_SWITCH.put 0 1) = true ∧ RING_TBL_CTL_REFUSED.on (RING_TBL_CTL_SWITCH.put 0 1) = false
    ∧ up.fldOn RING_TBL_CTL RING_TBL_CTL_DRAINING = false ∧ (flds up [(RING_TBL_CTL, RING_TBL_CTL_DRAINING, 1)]).fldOn RING_TBL_CTL RING_TBL_CTL_DRAINING = true
    ∧ (∀ m ∈ [[5], [0, 5]], let s : State := { up with net := { up.net with markers := m } }; 5 ∈ s.net.markers ∧ s.oldFlits = false)
    ∧ up.ready RING_TBL_DATA = true ∧ (flds up [(RING_TBL_SEL, RING_TBL_SEL_BANK, 1 - up.tblActive)]).fld RING_TBL_SEL RING_TBL_SEL_BANK ≠ up.tblActive
    ∧ (flds up [(RING_TBL_SEL, RING_TBL_SEL_BANK, up.tblActive)]).fld RING_TBL_SEL RING_TBL_SEL_BANK = up.tblActive
    ∧ up.ready PRB_TRACE_CTL = true ∧ up.ready PRB_CTL = true ∧ PRB_CTL_CLEAR.on (PRB_CTL_CLEAR.put 0 1) = true := by decide +kernel

/-! ### Security, repair, unlocks -/

/-- What is opaque is taken as given: what the check of a firmware file, an owner block or a certificate answers. -/
theorem wit_SecurityItems (v : BitVec 32) (cert kb : List Byte) (k : BitVec 384) (hf : Config.firmwareCheck [0] = .ok v)
    (ho : Config.ownerBlock 0 [] [0] = some (cert, kb)) (hk : unwrapKey 0 kb = some k) :
    (let it := item opAttest []; (busy up keySecurity (doing it 0)).curOp keySecurity opAttest = some (doing it 0) ∧ (busy up keySecurity (doing it 0)).mayIssue = true)
    ∧ (∀ t ∈ [1, 2], let it := item opFirmware [(25, t), (28, 1)]
       let s := busy up keySecurity (doing it 0)
       s.curOp keySecurity opFirmware = some (doing it 0) ∧ s.attestFailed = false ∧ (1 + it.num 25 1 = 2 ∨ 1 + it.num 25 1 = 3) ∧ s.slotRefusal (1 + it.num 25 1) = none
         ∧ it.num 24 1 = 0 ∧ s.mayIssue = true ∧ s.host.linkUp = true ∧ s.hostBytes (it.num 16 8) (it.num 28 4) = [0]
         ∧ (flds s [(CFG_SLOT_INFO 3, CFG_SLOT_INFO_EXHAUSTED, 1)]).slotRefusal 3 = some 10)
    ∧ Config.firmwareCheck [0] = .ok v
    ∧ (let it := item opOwner [(24, 1)]
       let s := busy up keySecurity (doing it 0)
       s.curOp keySecurity opOwner = some (doing it 0) ∧ s.mayIssue = true ∧ s.host.linkUp = true ∧ s.hostBytes (it.num 16 8) (it.num 24 4) = [0] ∧ s.fuses.serial = 0 ∧ s.sec.ownerCert = [])
    ∧ Config.ownerBlock 0 [] [0] = some (cert, kb) ∧ unwrapKey 0 kb = some k :=
  ⟨by decide +kernel, by decide +kernel, hf, by decide +kernel, ho, hk⟩

/-- The same where the checks refuse; and an attestation that has failed. -/
theorem wit_SecurityItems_refused (cause : BitVec 8) (kb : List Byte) (hf : Config.firmwareCheck [0] = .error cause) (ho : Config.ownerBlock 0 [] [0] = none) (hk : unwrapKey 0 kb = none) :
    Config.firmwareCheck [0] = .error cause ∧ Config.ownerBlock 0 [] [0] = none ∧ unwrapKey 0 kb = none
    ∧ (let s := busy (flds up [(SEC_STATUS, SEC_STATUS_ATTEST_DONE, 1), (SEC_STATUS, SEC_STATUS_ATTEST, 0)]) keySecurity (doing (item opFirmware [(25, 1), (28, 1)]) 0)
       s.curOp keySecurity opFirmware = some (doing (item opFirmware [(25, 1), (28, 1)]) 0) ∧ s.attestFailed = true) := ⟨hf, ho, hk, by decide +kernel⟩

/-- The supervisor performs a STACK_REPAIR item of an OP. -/
def repairing (s : State) (op : Nat) (l : List (Nat × Nat)) : State := busy s keySupervisor (doing (item opStackRepair ((16, op) :: l)) 0)

theorem wit_RepairAndErasure : (let l := [(24, 63), (25, 17), (26, 6), (27, 75)]
      let s := repairing (ledBy svLeading svFollowing) 1 l
      let it := item opStackRepair ((16, 1) :: l)
      s.repairItem 1 = some it ∧ it.num 24 1 = 63 ∧ it.num 25 1 = 17 ∧ it.num 26 1 = 6 ∧ it.num 27 1 = 75 ∧ (s.cross (crossKey 63 17 6)).state ≠ crDetoured
        ∧ (s.cross (crossKey 63 17 6)).state ≠ crLost ∧ (s.cross (crossKey 63 17 6)).state ≠ crExposed ∧ (s.cross (crossKey 63 17 6)).swap = none
        ∧ (s.cross (crossKey 63 17 6)).freeSpare.isSome = true ∧ (s.cross (crossKey 63 17 6)).hasFailed 71 = false ∧ s.dirLanes (crossKey 63 17 6) = [])
    ∧ 76 ≤ (item opStackRepair [(16, 1), (27, 76)]).num 27 1
    ∧ (let l := [(24, 127), (25, 7), (28, 2 ^ 18 - 1)]
       let s := repairing (ledBy svLeading svFollowing) 2 l
       let it := item opStackRepair ((16, 2) :: l)
       s.repairItem 2 = some it ∧ it.num 24 1 = 127 ∧ it.num 25 1 = 7 ∧ it.num 28 4 = 2 ^ 18 - 1 ∧ (s.oasGrp 127).freeEntry 7 = some 0
         ∧ (∀ e, e < 8 → (s.oasGrp 127).spare 7 e = none))
    ∧ (let l := [(24, 31), (28, 58240 * 2 ^ 14 - 1)]
       let s := repairing (ctlIn 31 ctlReady {}) 3 l
       let u := flds s [(SUP_STATUS, SUP_STATUS_SVA, svLeading)]
       u.repairItem 3 = some (item opStackRepair ((16, 3) :: l)) ∧ (item opStackRepair ((16, 3) :: l)).num 28 4 = 58240 * 2 ^ 14 - 1 ∧ u.ctlState 31 ≠ ctlOff
         ∧ 58240 * 2 ^ 14 - 1 < u.usableMib * 2 ^ 14 ∧ (∀ e, e < 16 → (u.ctlAt 31).spare e = none) ∧ (u.ctlAt 31).dead = [])
    ∧ (∀ e, e < 16 → ((ctlIn 31 ctlReady { dead := List.range 16 }).ctlAt 31).spare e ≠ none ∨ e ∈ ((ctlIn 31 ctlReady { dead := List.range 16 }).ctlAt 31).dead)
    ∧ (∀ b, b < 4 → let it := item opErase [(16, 15)]
       let c := doing it (15 - 2 ^ b)
       let s := busy up keySecurity c
       s.curOp keySecurity opErase = some c ∧ natBit (c.item.num 16 1) b = true ∧ natBit c.step b = false ∧ c.item.num 16 1 ≠ 0 ∧ s.oas.grps.wf (fun _ => {}) = true
         ∧ natBit (c.item.num 16 1) ((b + 1) % 4) = true ∧ natBit c.step ((b + 1) % 4) = true) := by decide +kernel

/-- A crossing detoured, one whose lane waits for a spare, and one whose spares are used up; a bank without a spare left; an erasure of nothing. -/
theorem wit_RepairAndErasure_ends : (let c : CrossSt := {}
      ({ c with waiting := [75] } : CrossSt).hasFailed 75 = true ∧ ({ c with xdata := WELL_XDATA_STATE.put 0 crDetoured } : CrossSt).state = crDetoured
        ∧ ({ c with xdata := WELL_XDATA_SPARE_USED.put 0 15 } : CrossSt).freeSpare = none ∧ ({ c with xdata := WELL_XDATA_SPARE_USED.put 0 15 } : CrossSt).state ≠ crExposed)
    ∧ (({ badSpares := List.range 64 } : OasGrp).freeEntry 7 = none)
    ∧ (let c := doing (item opErase []) 0; (busy up keySecurity c).curOp keySecurity opErase = some c ∧ c.item.num 16 1 = 0) := by decide +kernel

/-- Debug paths open by a scope. -/
def unlocked (scope : Nat) : State := flds up [(SEC_STATUS, SEC_STATUS_JTAG_DBG, scope % 2), (SEC_STATUS, SEC_STATUS_HOST_DBG, scope / 2)]

theorem wit_DebugUnlocks_refused (bad : Config.debugCert 0 [] [] = false) : Config.debugCert 0 [] [] = false := bad

theorem wit_DebugUnlocks (good : Config.debugCert 0 [] [] = true) : (∀ scope, scope < 4 → let it := item opDebugUnlock [(28, scope), (32, 0xFFFFFFFF)]
      let s := busy up keySecurity (doing it 0)
      s.curOp keySecurity opDebugUnlock = some (doing it 0) ∧ it.num 28 1 = scope ∧ it.num 32 4 = 0xFFFFFFFF ∧ s.mayIssue = true ∧ s.host.linkUp = true
        ∧ s.hostBytes (it.num 16 8) (it.num 24 4) = [])
    ∧ Config.debugCert 0 [] [] = true ∧ (unlocked 3).unlockScope = 3 ∧ up.unlockScope = 0 ∧ up.sec.unlockForever = false
    ∧ ({ unlocked 3 with sec := { (unlocked 3).sec with unlockForever := true } } : State).sec.unlockForever = true :=
  ⟨by decide +kernel, good, by decide +kernel, by decide +kernel, rfl, rfl⟩

/-! ### Sensors, the shade planner, wear -/

/-- A sensor with a reading in 1/16 °C, good or failed. -/
def sensed (s : State) (k t : Nat) (failed : Nat) : State := flds s [(THM_SENS k, THM_SENS_VALID, 1), (THM_SENS k, THM_SENS_TEMP, t), (THM_SENS k, THM_SENS_FAILED, failed)]
/-- An erg under the planner's means. -/
def shaded (i means : Nat) (t : ErgThm) : State := (flds up [(FAB_ERG_SHADE i, FAB_ERG_SHADE_MEANS, means)]).setErgThm i t

theorem wit_SensorsAndShade_readings : up.fldOn (THM_SENS 255) THM_SENS_FAILED = false
    ∧ (-640 ≤ signed 16 (0xFD80#16).toNat ∧ signed 16 (0x0960#16).toNat ≤ 2400) ∧ (signed 16 (0xFD7F#16).toNat < -640 ∧ 2400 < signed 16 (0x0961#16).toNat) := by decide +kernel

theorem wit_SensorsAndShade : (let s := sensed (sensed (sensed up 1 1600 0) 8 1601 0) 0 0 1
       s.fldOn (THM_SENS 0) THM_SENS_FAILED = true ∧ hottest (((sensorBeside 0).filter (fun j => !s.fldOn (THM_SENS j) THM_SENS_FAILED)).filterMap s.temp) = some 1601)
    ∧ ((sensed up 127 1600 0).reads 127 100 = true ∧ (sensed up 127 1599 0).reads 127 100 = false ∧ (sensed up 255 1680 0).reads 255 105 = true)
    ∧ ((sensed up 0 1600 0).tooWarm 0 = true ∧ up.tooWarm 0 = false ∧ (flds up [(THM_CTL, THM_CTL_EN, 0)]).fldOn THM_CTL THM_CTL_EN = false ∧ up.means 0 = 0 ∧ (up.ergThm 0).half = false ∧ (up.ergThm 0).moveTo = none)
    ∧ (let s := shaded 127 meansMove { outside := 20, within := 20 }
       s.means 127 = meansMove ∧ 20 ≤ (s.ergThm 127).outside ∧ 20 ≤ (s.ergThm 127).within ∧ (s.ergThm 127).half = false ∧ s.takesWork 127 = false
         ∧ (flds s [(SCH_TP 127, SCH_TP_TASKNO, 1)]).takesWork 127 = true)
    ∧ (let s := shaded 0 meansStretch { outside := 20 }; s.means 0 = meansStretch ∧ s.means 0 ≠ 0 ∧ (s.ergThm 0).within < 20)
    ∧ up.ready THM_CTL = true ∧ (flds up [(THM_CTL, THM_CTL_EN, 1)]).fldOn THM_CTL THM_CTL_EN = true ∧ THM_CTL_EN.on (plainWrite THM_CTL_info (up.reg THM_CTL) 0) = false
    ∧ THM_CTL_EN.on (plainWrite THM_CTL_info (up.reg THM_CTL) (THM_CTL_EN.put 0 1)) = true := by decide +kernel

/-- The substrate joint at 2 × t, the turning points and candidate of its count. -/
def worn (t : Nat) (w : WearSt) : State := { (sensed up 128 t 0).setWear 0 w with thm := { ((sensed up 128 t 0).setWear 0 w).thm with fresh := false } }

theorem wit_Wear_filter : (∀ x ∈ [(1937 : Int), 1936], let s := worn 1000 { residue := [x] }
      s.interfaceTemp 0 = some 2000 ∧ s.thm.fresh = false ∧ (s.thm.samples + 1) % samplesPerDay ≠ 0 ∧ lastTurn (s.wearAt 0).residue = some x ∧ (s.wearAt 0).cand = none)
    ∧ ((2000 - 1937 : Int).natAbs < 64 ∧ 64 ≤ (2000 - 1936 : Int).natAbs) := by decide +kernel

theorem wit_Wear_turn : (let s := worn 1000 { residue := [1800], cand := some 2000 }
      (s.wearAt 0).cand = some 2000 ∧ lastTurn (s.wearAt 0).residue = some 1800 ∧ (1800 : Int) ≤ 2000 ∧ s.interfaceTemp 0 = some 2000)
    ∧ (let s := worn 1000 { residue := [1500, 2200, 1800], cand := some 2300 }
       s.interfaceTemp 0 = some 2000 ∧ ¬ (((1800 : Int) ≤ 2300 ∧ (2300 : Int) ≤ 2000) ∨ ((2000 : Int) ≤ 2300 ∧ (2300 : Int) ≤ 1800)) ∧ 64 ≤ (2300 - 2000 : Int).natAbs
         ∧ (s.wearAt 0).residue = [1500, 2200, 1800] ∧ (2200 - 1800 : Int).natAbs ≤ (1500 - 2200 : Int).natAbs ∧ (2200 - 1800 : Int).natAbs ≤ (1800 - 2300 : Int).natAbs) := by
  decide +kernel

/-- The worst interface at a rate, under a NARROW. -/
def rated (n rate : Nat) : State := flds up [(THM_WEAR_CTL, THM_WEAR_CTL_NARROW, n), (THM_LIFE 0, THM_LIFE_RATE, rate)]
def worstRate (s : State) : Nat := s.fld (THM_LIFE (s.fld THM_WEAR_CTL THM_WEAR_CTL_WORST)) THM_LIFE_RATE * 36525

theorem wit_Wear_narrow : (∀ n ∈ [0, 9, 10], (rated n 4294967295).fld THM_WEAR_CTL THM_WEAR_CTL_NARROW = n
      ∧ 262144000000 * (100 + (rated n 4294967295).fld THM_WEAR_CTL THM_WEAR_CTL_MARGIN) < worstRate (rated n 4294967295) * 100)
    ∧ (∀ n ∈ [0, 1], (rated n 7177111).fld THM_WEAR_CTL THM_WEAR_CTL_NARROW = n ∧ worstRate (rated n 7177111) < 262144000000)
    ∧ (262144000000 ≤ worstRate (rated 0 7177112) ∧ worstRate (rated 0 7177112) * 100 ≤ 262144000000 * (100 + (rated 0 7177112).fld THM_WEAR_CTL THM_WEAR_CTL_MARGIN)) := by
  decide +kernel

/-! ### Debug cores, terminals, JTAG, BAR0 -/

/-- A core with its host path open, running or halted. -/
def cored (c halted : Nat) : State := flds (unlocked 2) [(DBG_CORE_STATUS c, DBG_CORE_STATUS_HALTED, halted)]

theorem wit_DebugCores : (∀ c : CoreNo, (∀ o ∈ [DBG_CORE_CTL c, DBG_CORE_DIR c, DBG_CORE_ACC_DATA c], up.ready o = true) ∧ (cored c 0).coreHalted c = false
      ∧ (cored c 1).coreHalted c = true ∧ (cored c 1).hostOpen = true ∧ up.hostOpen = false ∧ up.clk.mgmtReset = false
      ∧ (cored c 1).fldOn (DBG_CORE_STATUS c) DBG_CORE_STATUS_DIR_BUSY = false)
    ∧ DBG_CORE_CTL_HALT.on (DBG_CORE_CTL_HALT.put 0 1) = true ∧ DBG_CORE_CTL_HALT.on 0 = false ∧ DBG_CORE_CTL_RESUME.on (DBG_CORE_CTL_RESUME.put 0 1) = true
    ∧ DBG_CORE_CTL_RESUME.on (DBG_CORE_CTL_STEP.put 0 1) = false ∧ DBG_CORE_CTL_STEP.on (DBG_CORE_CTL_STEP.put 0 1) = true
    ∧ (∀ x ∈ [(0, 33), (0, 34), (1, 2 ^ 32 - 1), (2, 0), (3, 0)], let s := flds (cored 0 1) [(DBG_CORE_ACC_ADDR 0, DBG_CORE_ACC_ADDR_SPACE, x.1), (DBG_CORE_ACC_ADDR 0, DBG_CORE_ACC_ADDR_ADDR, x.2)]
       s.fld (DBG_CORE_ACC_ADDR 0) DBG_CORE_ACC_ADDR_SPACE = x.1 ∧ s.fld (DBG_CORE_ACC_ADDR 0) DBG_CORE_ACC_ADDR_ADDR = x.2)
    ∧ walled 0 (2 ^ 32 - 1) 8 = false := by decide +kernel

/-- Eight bytes of a halted core's space that have been read since it halted. -/
theorem wit_DebugCores_space : (let s := (cored 0 1).setCore 0 { space := (List.range 8).foldl (fun m k => m.set (fun _ => none) k (some (BitVec.ofNat 8 k))) {} }
    ∀ k, k < 8 → (s.core 0).space.get (fun _ => none) ((0 + k) % 2 ^ 32) = some (BitVec.ofNat 8 k)) := by decide +kernel

theorem wit_DebugCores_match : ((up.setCore 2 { haltWait := true }).core 2).haltWait = true ∧ (up.core 0).haltWait = false
    ∧ (let s := flds (unlocked 1) [(DBG_CORE_CMP 0 7, DBG_CORE_CMP_EN, 1), (DBG_CORE_CMP 0 7, DBG_CORE_CMP_KIND, 3), (DBG_CORE_CMP 0 7, DBG_CORE_CMP_ADDR, 16), (DBG_CORE_CMP 0 7, DBG_CORE_CMP_ACTION, 1)]
       s.coreHalted 0 = false ∧ s.clk.mgmtReset = false ∧ (∀ j, j < cmpCount 0 → cmpHit (s.reg (DBG_CORE_CMP 0 j)) .write 16 = decide (j = 7))
         ∧ s.fld (DBG_CORE_CMP 0 7) DBG_CORE_CMP_ACTION = 1 ∧ s.unlockScope ≠ 0 ∧ (∀ j, j < cmpCount 0 → cmpHit (s.reg (DBG_CORE_CMP 0 j)) .fetch 16 = false))
    ∧ (let s := flds up [(DBG_CORE_CMP 2 1, DBG_CORE_CMP_EN, 1)]
       (∀ j, j < cmpCount 2 → cmpHit (s.reg (DBG_CORE_CMP 2 j)) .fetch 0 = decide (j = 1)) ∧ s.unlockScope = 0) := by decide +kernel

theorem wit_DebugCores_terminals : (∀ c : SvNo, up.ready (DBG_CORE_VT_TO c) = true ∧ up.ready (DBG_CORE_VT_FROM c) = true
      ∧ up.fldOn (DBG_CORE_VT_STATUS c) DBG_CORE_VT_STATUS_TO_FULL = false
      ∧ (flds up [(DBG_CORE_VT_STATUS c, DBG_CORE_VT_STATUS_TO_FULL, 1)]).fldOn (DBG_CORE_VT_STATUS c) DBG_CORE_VT_STATUS_TO_FULL = true
      ∧ (cored c 1).coreHalted c = true ∧ up.coreHalted c = false ∧ up.fldOn (DBG_CORE_VT_STATUS c) DBG_CORE_VT_STATUS_EVT = false
      ∧ (flds up [(DBG_CORE_VT_STATUS c, DBG_CORE_VT_STATUS_EVT, 1)]).fldOn (DBG_CORE_VT_STATUS c) DBG_CORE_VT_STATUS_EVT = true)
    ∧ up.fldOn DBG_PEEK DBG_PEEK_PEEK = false ∧ (flds up [(DBG_PEEK, DBG_PEEK_PEEK, 1)]).fldOn DBG_PEEK DBG_PEEK_PEEK = true := by decide +kernel

theorem wit_HostAndJtagAccess : up.hostReaches = true ∧ (¬ (4 = 8 ∧ (2 ^ 26 - 4) % 8 = 0) ∧ 2 ^ 26 - 4 < 2 ^ 26 ∧ ¬ (0xA0000 ≤ 2 ^ 26 - 4 ∧ 2 ^ 26 - 4 < 0xA2000))
    ∧ (coreOff PWR_WAKE_EN = none ∧ up.ready PWR_WAKE_EN = true ∧ (up.busOp PWR_WAKE_EN 0).isNone = true ∧ (regInfo PWR_WAKE_EN).map (fun r => r.rwa) = some 0 ∧ PWR_WAKE_EN ∉ shownRegs ∧ PWR_WAKE_EN ≠ DBG_ATTACH)
    ∧ (coreOff (2 ^ 26 - 8) = none ∧ up.ready (2 ^ 26 - 8) = true ∧ (up.busOp (2 ^ 26 - 8) 0).isNone = true ∧ (regInfo (2 ^ 26 - 8)).isNone = true)
    ∧ (up.ready (CRY_DOM_CFG 0) = true ∧ (up.busOp (CRY_DOM_CFG 0) 0).isNone = true ∧ (match regInfo (CRY_DOM_CFG 0) with
        | some r => r.rwa != 0
        | none => false) = true)
    ∧ (up.blockUp (0xA1FFC / 8 * 8) = true ∧ up.host.pba.get (fun _ => false) ((0xA1FFC - 0xA0000) / 16) = false ∧ 0xA1FFC % 4 = 0 ∧ 0xA1FFC < 0xA2000)
    ∧ (readFits 1 8 = false ∧ readFits 4 4 = true ∧ readFits 4 8 = false ∧ readFits 0 2 = false)
    ∧ (let o := PWR_WAKE_EN; up.ready o = true ∧ o ≠ PWR_AON_COUNT ∧ o ≠ SEC_DEBUG ∧ (o < SUP_WDOG 0 ∨ SUP_WDOG 3 ≤ o) ∧ o ≠ TSU_NOW_NS ∧ (o < MEA_CTL 0 ∨ MEA_CTL 24 ≤ o)
        ∧ up.fldOn DBG_PEEK DBG_PEEK_PEEK = false ∧ (regInfo o).isSome = true)
    ∧ up.pins.cfgDone = false ∧ ({ up with pins := { up.pins with cfgDone := true } } : State).pins.cfgDone = true ∧ up.jtagOpen = false ∧ (unlocked 1).jtagOpen = true
    ∧ (natBits (BitVec.ofNat 88 (0x10000 / 8 * 2 ^ 64)).toNat 64 23 * 8 = 0x10000 ∧ jtagReach 0x10000 = false)
    ∧ (natBits (BitVec.ofNat 88 (DBG_PEEK / 8 * 2 ^ 64 + 2 ^ 87)).toNat 64 23 * 8 = DBG_PEEK ∧ natBit (BitVec.ofNat 88 (DBG_PEEK / 8 * 2 ^ 64 + 2 ^ 87)).toNat 87 = true ∧ up.ready DBG_PEEK = true)
    ∧ (natBits (BitVec.ofNat 88 (SEC_SERIAL_LO / 8 * 2 ^ 64)).toNat 64 23 * 8 = SEC_SERIAL_LO ∧ natBit (BitVec.ofNat 88 (SEC_SERIAL_LO / 8 * 2 ^ 64)).toNat 87 = false ∧ up.ready SEC_SERIAL_LO = true) := by
  decide +kernel

/-- An unlock item, with AUTH, of slot 15 with counter 4,095, tagged under the slot's key, which is zero, but for its last word. -/
def unlockMsg (opc scope tag : Nat) : List Byte :=
  toBytes 64 (item opc [(1, 128), (28, scope)]).desc.toNat ++ toBytes 64 (15 + 4095 * 2 ^ 32 + tag * 2 ^ 128)
def unlockTag (opc scope : Nat) : Nat := (hmacTag 0 (unlockItem (unlockMsg opc scope 0)).authMessage).toNat
def unlocking (opc scope tag : Nat) : State :=
  { flds up [(SEC_SLOT 15, SEC_SLOT_STATE, slotActive)] with jtag := { up.jtag with ir := 0x11, unlockBuf := (unlockMsg opc scope tag).take 124 } }

theorem wit_HostAndJtagAccess_unlock (good : Config.debugCert 0 [] [] = true) : (∀ scope ∈ [0, 3], let s := unlocking opDebugUnlock scope (unlockTag opDebugUnlock scope)
      let b := (s.jtag.unlockBuf ++ toBytes 4 0).take 4224
      let it := unlockItem b
      128 ≤ b.length ∧ 128 + it.num 24 4 ≤ b.length ∧ s.jtag.ir = 0x11 ∧ s.jtag.unlockDone = false ∧ s.coreHalted 2 = false ∧ s.clk.mgmtReset = false ∧ it.opc = opDebugUnlock
        ∧ it.num 28 1 = scope ∧ s.descFault it = none ∧ s.authFault it = none ∧ (b.drop 128).take (it.num 24 4) = [])
    ∧ (let s := unlocking opDebugUnlock 3 0; (s.authFault (unlockItem ((s.jtag.unlockBuf ++ toBytes 4 0).take 4224))).isSome = true)
    ∧ (let s := unlocking opOwner 1 0; let it := unlockItem ((s.jtag.unlockBuf ++ toBytes 4 0).take 4224); s.descFault it = none ∧ it.opc ≠ opDebugUnlock)
    ∧ (let s := unlocking opDebugUnlock 4 0; s.descFault (unlockItem ((s.jtag.unlockBuf ++ toBytes 4 0).take 4224)) = some stBadDescriptor)
    ∧ Config.debugCert 0 [] [] = true := ⟨by decide +kernel, by decide +kernel, by decide +kernel, by decide +kernel, good⟩

/-! ### Known answers of the algorithms the spec names: FIPS 180-4's "abc" for SHA-384, FIPS 197 C.3 for AES-256 (byte 0 in bits 7:0) -/

theorem test_sha384_abc : sha384 [0x61, 0x62, 0x63] = 0xa725c834a1ecba5823cce7a12b078680ed5bff435a608b1a63d1de0eab322c270750c69a693da0b58b5ea3453f7500cb#384 := by decide +kernel
theorem test_aes256_c3 : aes256 0x1f1e1d1c1b1a191817161514131211100f0e0d0c0b0a09080706050403020100#256 0xffeeddccbbaa99887766554433221100#128 = 0x8960494b9049fceabf456751cab7a28e#128 := by decide +kernel

/-! ### The spec's worked examples -/

/-- What a command answers, where it answers a next state. -/
def nextOf (o : Host.Outcome State Fault Refusal) : Option State :=
  match o with
  | .next t => some t
  | _ => none

/-- Chapter 01: dune (1, 13, 22), packed 0x06CD, is in erg 43 of F-B at (1, 2) within it. -/
theorem test_dune_place : duneErg 0x06CD = 64 + 43 ∧ duneLocal 0x06CD = 4 * 2 + 1 := by decide

/-- R39: IMM 0x96 is the exclusive-or of three, 0xE8 the majority, 0xC0 the AND of a and b. -/
theorem test_logic3 : logic3 0x96 0xF0F0F0F0 0xCCCCCCCC 0xAAAAAAAA = 0x96969696 ∧ logic3 0xE8 0xF0F0F0F0 0xCCCCCCCC 0xAAAAAAAA = 0xE8E8E8E8
    ∧ logic3 0xC0 0xF0F0F0F0 0xCCCCCCCC 0xAAAAAAAA = 0xC0C0C0C0 := by decide +kernel

/-- R39's example: gfmul of 0x57 and 0x83 under 0x1B. -/
theorem test_gfmul : gfmul8 0x57 0x83 0x1B = 0xC1 := by decide +kernel

/-- R40's example: with k = 4, 24 rounds to 2, and -24 in kind 1 to -1. -/
theorem test_mac_rounds : macOut (BitVec.ofNat 48 4) 24 = (2, false) ∧ macOut (BitVec.ofNat 48 (2 ^ 16 + 4)) (BitVec.ofInt 48 (-24)) = (0xFFFFFFFF, false) := by decide +kernel

/-- Chapter 07: thirty seconds in Rest, entered at 1,000.5 s, with the meter's ratio and XTAL 200. -/
def bridged (meter : Option (Nat × Nat)) : State :=
  let s := flds up [(TSU_BRIDGE, TSU_BRIDGE_XTAL, 200)]
  let s := { s with time := { s.time with dev := 1000500000000 * 24576000, stamp := 0 } }
  let s := match meter with
    | some m => s.ratioMeasured m.1 m.2
    | none => s
  (s.bridgeRecord 0).bridgeApply 750000000 false

theorem test_bridge : let s := bridged (some (268431456, 26))
    s.nowNs = 1030499552965 ∧ s.time.dev % 24576000 / 375 = 0x2A08 ∧ s.time.stamp = 1151982833862 ∧ s.reg TSU_BRIDGE_INT = 29999552965 ∧ s.reg TSU_BRIDGE_UNC = 599992 := by decide +kernel
theorem test_bridge_nominal : (bridged none).reg TSU_BRIDGE_INT = 30000000000 ∧ (bridged none).reg TSU_BRIDGE_UNC = 1200000 := by decide +kernel

/-- Chapter 08: the division 0x2000_0078 of 13,491,578,752,466,944 by 10,000,000,000 rounds to 1,349,158. -/
theorem test_divs : (nextOf (execDivs 0 (engRun 0 0 0x20000078 ((({} : EngSt).setAcc 0 1 13491578752466944).setAcc 0 2 10000000000)))).map
    (fun t => ((t.engSt 0).accAt 0 0, (t.engSt 0).accAt 0 1)) = some (8752466944, 1349158) := by decide +kernel

/-- Chapter 09: a split write of 3 with check 0 reads back as uncorrectable. -/
theorem test_double_error : (nextOf (execOasisTestRead (OAS_TEST_CTL_READ.put 0 1) ((flds up [(OAS_G_STATUS 5, OAS_G_STATUS_CLEARING, 0), (OAS_G_CTL 5, OAS_G_CTL_TEST, 1), (OAS_TEST_ADDR, OAS_TEST_ADDR_GROUP, 5)]).oasPut 5 0 3))).map
    (fun t => (t.fld OAS_TEST_CTL OAS_TEST_CTL_RESULT, t.reg OAS_TEST_DATA)) = some (2, 3) := by decide +kernel

/-- Chapter 10: 0x1_2345_6780 under a window of 32 controllers with a grain of 4,096 lies in controller 22 at local line 2,386,078; its set lies in channel 3,
bank group 0, bank 1, rank 0. -/
theorem test_translate : let s := (up.setReg (DRMC_WIN_MASK 0) 0xFFFFFFFF).setReg (DRMC_WIN_CFG 0) (DRMC_WIN_CFG_GRAIN.put (winCfg 0 (2 ^ 20)) 2)
    s.mapLine 0 0x123456780 = (22, 2386078) ∧ (s.linePlace 22 2386078).1 = 3 ∧ (s.linePlace 22 2386078).2.1 = 1 := by decide +kernel

/-- Chapter 13: a cycle of 50 K about 75 °C wears 12.0997 units, one of 5 K about 65 °C 0.060498. -/
theorem test_wear : (120996 * 65536 < cycleWear 3200 1600 * 10000 ∧ cycleWear 3200 1600 * 10000 < 120998 * 65536)
    ∧ (cycleWear 2160 2000 = 3964 ∨ cycleWear 2160 2000 = 3965) := by decide +kernel

/-- Chapter 14: from stop 3 to stop 30 of pair 0 a request goes on ring 1, 21 hops against 27; with segment 5 in reset, on ring 0. -/
theorem test_ring_choice : up.ringFor 0 3 30 = 1 ∧ hopsOn true 3 30 = 21 ∧ hopsOn false 3 30 = 27
    ∧ ({ up with pwr := { up.pwr with inReset := [0x105] } } : State).ringFor 0 3 30 = 0 := by decide +kernel

/-- Chapter 18: slot 3, ceiling 8,192, stands at 8,191 after a reboot; 8,191 is not fresh; 8,192 takes the ceiling to 12,288, and the tag covers
03 00 00 00 00 20 00 00. -/
def slot3 (counter : Nat) : Item :=
  let x : Item := { item opImageLoad [] with ext := some (BitVec.ofNat 512 (3 + counter * 2 ^ 32)) }
  { x with ext := some (BitVec.ofNat 512 (3 + counter * 2 ^ 32 + (hmacTag 0 x.authMessage).toNat * 2 ^ 128)) }
def rebooted : State := ((flds up [(SEC_SLOT 3, SEC_SLOT_STATE, slotActive), (SEC_SLOT 3, SEC_SLOT_LAST, 8190)]).setSlotKey 3 { ceiling := 8192 }).secReload

theorem test_counter_reboot : rebooted.fld (SEC_SLOT 3) SEC_SLOT_LAST = 8191 ∧ rebooted.authFault (slot3 8191) = some stCounterNotFresh ∧ rebooted.authFault (slot3 8192) = none
    ∧ ceilingAbove 8192 = 12288 ∧ (slot3 8192).authMessage.drop 64 = [3, 0, 0, 0, 0, 0x20, 0, 0] := by decide +kernel

/-- Chapter 21's example of finding a register. -/
theorem test_register_places : CAP_Q_CNT_LOSS 200 = 0x3E6448 ∧ LANE_EQ_SET 23 = 0x34B820 ∧ DBG_CORE_CMP 2 1 = 0x60548 := by decide

/-- R281: an upset of one byte of a cleared line reads corrected, and one of two bytes does not; a link error corrected counts in ERR2.LINK (R272). -/
def upsetLine (flip : BitVec 512) : State := up.upsetDram { ctl := 3, line := 5, flip := flip, ent := 0 }

theorem test_dram_upset : let r := (upsetLine 0xFF00).dramReadLine 3 5 0 0 { link := 1 }
    r.2 = some {} ∧ r.1.fld (DRMC_ERR 3) DRMC_ERR_CORR = 1 ∧ r.1.fld (DRMC_ERR2 3) DRMC_ERR2_LINK = 1 ∧ ((upsetLine 0x101).dramReadLine 3 5 0 0 {}).2 = none := by
  decide +kernel

/-- R251: one flipped bit of a word is corrected on a read. -/
theorem test_oas_upset : (oasDecode ((up.upsetOas { group := 5, word := 9, flip := 4 }).oasStored 5 9).1 == .corrected 0) = true := by decide +kernel

/-! ### Commands that the outside cannot send, one for each check of WellFormed -/

theorem test_wf_host : Instr.wf (.sqTail 0 0 [(2 ^ 64, 0)] none) = false ∧ Instr.wf (.sqTail 0 0 [(2 ^ 64 - 1, 0)] none) = true := by decide
theorem test_wf_access : Instr.wf (.bar4Access 0 (.read 0)) = false ∧ Instr.wf (.bar4Access 0 (.read 4097)) = false ∧ Instr.wf (.bar4Access 0 (.write [])) = false
    ∧ Instr.wf (.bar4Access (2 ^ 36) (.read 1)) = false ∧ Instr.wf (.bar4Access (2 ^ 36 - 1) (.read 4096)) = true := by decide
theorem test_wf_bar0 : Instr.wf (.bar0Write 0 0 0) = false ∧ Instr.wf (.bar0Write 0 9 0) = false ∧ Instr.wf (.rclRead (2 ^ 26 - 7) 8 .host) = false
    ∧ Instr.wf (.rclRead (2 ^ 26 - 8) 8 .host) = true := by decide
theorem test_wf_rings : Instr.wf (.reconciliation .ok [3, 3]) = false := by decide
theorem test_wf_cycle : Instr.wf (.fabricCycle { rx := [{ lane := 1, syms := [] }, { lane := 1, syms := [] }] }) = false
    ∧ Instr.wf (.fabricCycle { gio := [{ pin := 1, levels := [] }, { pin := 1, levels := [] }] }) = false
    ∧ Instr.wf (.fabricCycle { wellFlips := [{ x := { well := 0, bundle := 0, bond := 0 }, up := true, beat := true, lanes := [] }] }) = false
    ∧ Instr.wf (.fabricCycle { dirFaults := [.wellLane { well := 0, bundle := 0, bond := 0 } 0 1] }) = false ∧ Instr.wf (.fabricCycle {}) = true := by decide
theorem test_wf_bonds : Instr.wf (.laneDeclaredFailing { well := 0, bundle := 0, bond := 0 } 0) = false ∧ Instr.wf (.spareSwapEnd { well := 0, bundle := 0, bond := 0 } true) = false
    ∧ Instr.wf (.riserTransfer { well := 0, bond := 0, up := true } 0 0 [] 0) = false ∧ Instr.wf (.riserAck { well := 0, bond := 0, up := true } 0) = false
    ∧ Instr.wf (.riserReplayTimeout { well := 0, bond := 0, up := true }) = false := by decide
theorem test_wf_bodies : Instr.wf (.riserTransfer { well := 0, bond := 1, up := true } 0 0 (List.replicate 257 0) 0) = false
    ∧ Instr.wf (.flitInject 0 0 0 (List.replicate 113 0) false) = false := by decide +kernel
theorem test_wf_flips : Instr.wf (.planeScrubWord 0 none 0 0 0 [5, 5]) = false := by decide
theorem test_wf_oasis : Instr.wf (.oasisRingAccess 0 0 (2 ^ 24) (.read 1)) = false ∧ Instr.wf (.oasisSelfTest 0 [1, 1]) = false ∧ Instr.wf (.oasisSelfTest 0 [2 ^ 27]) = false := by decide
theorem test_wf_reads : Instr.wf (.driftLine { fail := 4 }) = false ∧ Instr.wf (.patrolScrubLine 0 { link := 4 }) = false
    ∧ Instr.wf (.dramRequest 0 { fail := 3, link := 3 }) = true := by decide
theorem test_wf_dram : Instr.wf (.throttleHoldExpiry 0 0 128) = false ∧ Instr.wf (.refresh 0 128 false) = false ∧ Instr.wf (.refresh 0 127 true) = true
    ∧ Instr.wf (.requestTranslate 0 (2 ^ 48) (.read 64)) = false := by decide
theorem test_wf_sensors : Instr.wf (.sensorRead [{ k := 1, reading := none }, { k := 1, reading := none }]) = false := by decide
theorem test_wf_wakes : Instr.wf (.rootStop 0 (some .sync)) = false ∧ Instr.wf (.wakeSourceLevel (.sigdet 0)) = false ∧ Instr.wf (.wakeSourceEdge .host false) = false := by decide

/-! ### The queue -/

theorem test_step_idle : step up = .next up := rfl
theorem test_step_front : step { up with pending := [.devinfo, .nop] } = exec .devinfo { up with pending := [.nop] } := rfl
/-- The table gives its rows no bits: no word spells a command. -/
theorem test_no_words : decodeTableWord 8 0 = none ∧ up.withFetchWord 8 0 = up := ⟨rfl, rfl⟩
theorem wit_StepKeepsShown : ∃ t, step { up with pending := [.nop] } = .next t := ⟨_, rfl⟩

end Sys2Proof.Tests
end

section
/-!
SUPPORT. The statements of the family 00_scope: that every command completes, how both counts advance, and the host's and the JTAG port's
accesses of registers.
-/
namespace Sys2Proof.Machine

/-! ### The completed state -/

theorem State.reg_settle_of_not_shown (s : State) (o : Nat) (h : o ∉ shownRegs) : s.settle.reg o = s.reg o := by
  simp only [shownRegs, List.mem_cons, List.not_mem_nil, or_false, not_or] at h
  obtain ⟨hpwr, hcfg, hglb⟩ := h
  exact s.reg_settle o hpwr hcfg hglb

theorem State.fld_settle_of_not_shown (s : State) (o : Nat) (f : Fld) (h : o ∉ shownRegs) : s.settle.fld o f = s.fld o f := by
  unfold State.fld
  rw [s.reg_settle_of_not_shown o h]

/-- A command that completes in a state leaves everything but the registers shown as it is there. -/
theorem gives_regsOnly {i : Instr} {s t u : State} (l : List Nat) (h : exec i s = done t) (ht : t = u) : Gives i s (RegsOnly l u) :=
  gives_done h (ht ▸ (RegsOnly.refl l t).settle)

/-! ### Every command completes (R12, R484) -/

/-- An outcome is the completion of a command in some state. -/
def Completes (o : Host.Outcome State Fault Refusal) : Prop := ∃ t, o = done t

theorem completes_done (s : State) : Completes (done s) := ⟨s, rfl⟩

/-- The branches of FLIT_INJECT are taken with its local values kept by name: unfolded, they are too large a term. -/
theorem execFlitInject_completes (ring : Fin 6) (stop : Fin 48) (hdr : BitVec 128) (body : List (BitVec 8)) (class0Slot : Bool) (s : State) :
    Completes (execFlitInject ring stop hdr body class0Slot s) := by
  unfold execFlitInject
  extract_lets pair cls h
  split
  · exact completes_done _
  · split
    · exact completes_done _
    · split
      · extract_lets hops t₁ t₂
        split
        · exact completes_done _
        · exact completes_done _
      · exact completes_done _

/-- What a command means is a tree of conditions with a completion at every leaf. The list names the meanings that branch; every other
one is a completion as it stands. -/
theorem exec_completes (c : Instr) (s : State) : Completes (exec c s) := by
  cases c
  case flitInject => exact execFlitInject_completes ..
  all_goals dsimp only [exec,
    execThrottleHoldExpiry, execRefreshReportPoll, execRetrainPeriodic, execClearingEnd, execDramWriteback, execOasisWriteback,
    execBridgeHoldExpiry, execSyncInWrite, execQueueConfigWrite, execDrainBurst, execTailTimerExpiry, execDrainWriteAck,
    execDrainWriteError, execFmeterDone, execRootWaitEvent, execRefinLost, execRefinPresent, execCrystalLost, execCrystalQualified,
    execIoscReady, execIoscLost, execIoscReadyTimeout, execSnapshotEdge, execSpareSwapEnd, execRepairRecordWrite, execRiserTransfer,
    execRiserAck, execSpillReturn, execTagAssign, execCounterCeilingWrite, execSandglassRelease, execItemDispatch,
    execJournalReadComplete, execCompletionConfirm, execModerationExpiry, execControlBlockCheck, execKeyDomain, execKeyStrictWindow,
    execKeyOasisRights, execKeySlotKey, execKeySlotErase, execDriftStart, execDriftCheckpointConfirm, execDriftCheckpointRetry,
    execAttest, execFirmwareUpdate, execStackRepairLane, execStackRepairOasis, execStackRepairDram, execDebugUnlock,
    execDebugUnlockExpiry, execOwnerTransfer, execImageLoad, execImageFrame, execErgActivation, execPowerUpLoad, execReadback,
    execErgReserve, execPrimeReached, execPlay, execJournalLimitRead, execPlayerReadError, execPlayerCfgWrite, execSignalDetect,
    execRxLock, execTxPllLock, execAlignmentGained, execAlignmentLost, execSignalLost, execMarginPointEnd, execDawnMatch,
    execEngineTransferLine, execEngineMarginEnd, execEngineLoad, execEngineRun, execProgDataAccess, execMemDataAccess, execPacketEject,
    execReservePacket, execGrantPacket, execRingResponse, execDrainMarkerReturn, execBar4Access, execLinkReturn, execEjectFall,
    execDepartureReadComplete, execSensorRead, execShadeWindow, execFunctionLevelReset, execPerst, execNop, execCancel, execDma,
    execErgSwitch, execTask, execCaptureCmd, execSchSpillStoreWrite, execRecoveryNeed, execReconciliation, execHeartbeat,
    execHeartbeatTimeout, execSupervisorSelfCheckEnd, execWatchdogRestart, execWatchdogExpiry, execWearSample, execDailyNarrow,
    execWakeSourceLevel, execWakeSourceEdge, execWakeTimerMatch, execRootStop, execWakeFromRest, execRootLock, execWakeFromDormant,
    execPowerLoss, execMainUndervoltage, execOvercurrent, execPassSwitchClose, execSoftStartEnd, execMainLostInDormant,
    execSurpriseRemoval, execPowerOnReset, execThermalDormant, execCoreComparatorMatch, execVtToRead, execVtFromWrite, execBar0Write,
    execRclRead, execExtest, execSamplePreload, execDevinfo, execBypass, execDbgreg, execUnlock, execFabricCycle, execPlaneScrubWord]
  all_goals repeat' split
  all_goals exact completes_done _

/-- Settles O4: a completion is a next state. -/
theorem commandsComplete : Obligations.CommandsComplete := by
  intro c s
  obtain ⟨t, ht⟩ := exec_completes c s
  exact ⟨t.settle, ht⟩

/-! ### Both counts at an FCK edge (R210, R211) -/

/-- Where no pulse has reached its 64th edge, no load and no re-epoch takes effect. -/
theorem State.syncApply_of_none_left (s : State) (h : ∀ p ∈ s.time.sync, p.left ≠ 0) : s.syncApply = s := by
  have hdue : s.time.sync.filter (fun p => p.left == 0) = [] := by
    simpa [List.filter_eq_nil_iff] using h
  have hrest : s.time.sync.filter (fun p => p.left != 0) = s.time.sync := by
    simpa [List.filter_eq_self] using h
  simp [State.syncApply, hdue, hrest]

/-- What is left over from the edge that has passed moves the counts, and what is due to them, by a load or a re-epoch alone. -/
theorem State.edgeRest_time (s : State) : ∃ lines wrap outs high tick, s.edgeRest.time =
    { s.syncApply.time with lineAt := lines, wrapDue := wrap, outs := outs, outHigh := high, outTick := tick } :=
  ⟨_, _, _, _, _, rfl⟩

/-- Nothing in a fabric cycle but the time unit moves the counts. -/
theorem State.cycle_time (s : State) (inp : FabricIn) : (s.cycle inp).time = s.edgeRest.timeEdge.time := rfl

theorem State.timeEdge_of_none_due (s : State) (hset : s.time.setDue = none) (hepoch : s.time.epochDue = false) :
    s.timeEdge = ({ s with time := { s.time with setDue := none, epochDue := false } } : State).timeAdvance.outsEdge := by
  simp [State.timeEdge, hset, hepoch]

theorem State.timeAdvance_of_run (s : State) (h : s.time.run = true) :
    s.timeAdvance.time.fck = s.time.fck + 1 ∧ s.timeAdvance.time.stamp = s.time.stamp + 40 ∧
      s.timeAdvance.time.dev = (s.time.dev + unitsPerEdge) % devWrap := by
  simp [State.timeAdvance, h]

theorem State.timeAdvance_of_not_run (s : State) (h : s.time.run = false) :
    s.timeAdvance.time = { s.time with run := true } := by
  simp [State.timeAdvance, h, State.setEpoch]

/-- With no set, load or re-epoch due, the counts of a fabric cycle are those of the edge that it begins. -/
theorem State.cycle_time_of_none_due (s : State) (inp : FabricIn) (hsync : ∀ p ∈ s.time.sync, p.left ≠ 0)
    (hset : s.time.setDue = none) (hepoch : s.time.epochDue = false) :
    ∃ u : State, (s.cycle inp).time = u.timeAdvance.outsEdge.time ∧
      u.time.run = s.time.run ∧ u.time.fck = s.time.fck ∧ u.time.stamp = s.time.stamp ∧ u.time.dev = s.time.dev := by
  obtain ⟨lines, wrap, outs, high, tick, htime⟩ := s.edgeRest_time
  rw [s.syncApply_of_none_left hsync] at htime
  have hset' : s.edgeRest.time.setDue = none := by rw [htime]; exact hset
  have hepoch' : s.edgeRest.time.epochDue = false := by rw [htime]; exact hepoch
  refine ⟨{ s.edgeRest with time := { s.edgeRest.time with setDue := none, epochDue := false } }, ?_, ?_⟩
  · rw [s.cycle_time, s.edgeRest.timeEdge_of_none_due hset' hepoch']
  · dsimp only
    rw [htime]
    exact ⟨rfl, rfl, rfl, rfl⟩

theorem exec_fabricCycle_of_rootRun (s : State) (inp : FabricIn) (h : s.clk.rootRun = true) :
    exec (.fabricCycle inp) s = done (s.cycle inp) := if_pos h

theorem fabricCycle_counts (s : State) (inp : FabricIn) (hroot : s.clk.rootRun = true) (hsync : ∀ p ∈ s.time.sync, p.left ≠ 0)
    (hset : s.time.setDue = none) (hepoch : s.time.epochDue = false) (hrun : s.time.run = true) :
    Gives (.fabricCycle inp) s fun t => t.time.fck = s.time.fck + 1 ∧ t.time.stamp = s.time.stamp + 40 ∧
      t.time.dev = (s.time.dev + unitsPerEdge) % devWrap := by
  obtain ⟨u, htime, urun, ufck, ustamp, udev⟩ := s.cycle_time_of_none_due inp hsync hset hepoch
  refine gives_done (exec_fabricCycle_of_rootRun s inp hroot) ?_
  have hcounts := u.timeAdvance_of_run (urun.trans hrun)
  rw [ufck, ustamp, udev] at hcounts
  rw [State.settle_time, htime]
  exact hcounts

theorem fabricCycle_first_counts (s : State) (inp : FabricIn) (hroot : s.clk.rootRun = true) (hsync : ∀ p ∈ s.time.sync, p.left ≠ 0)
    (hset : s.time.setDue = none) (hepoch : s.time.epochDue = false) (hrun : s.time.run = false) :
    Gives (.fabricCycle inp) s fun t => t.time.run = true ∧ t.time.fck = s.time.fck ∧ t.time.stamp = s.time.stamp ∧
      t.time.dev = s.time.dev := by
  obtain ⟨u, htime, urun, ufck, ustamp, udev⟩ := s.cycle_time_of_none_due inp hsync hset hepoch
  refine gives_done (exec_fabricCycle_of_rootRun s inp hroot) ?_
  have hcounts : u.timeAdvance.outsEdge.time.run = true ∧ u.timeAdvance.outsEdge.time.fck = u.time.fck ∧
      u.timeAdvance.outsEdge.time.stamp = u.time.stamp ∧ u.timeAdvance.outsEdge.time.dev = u.time.dev := by
    simp [State.outsEdge, u.timeAdvance_of_not_run (urun.trans hrun)]
  rw [ufck, ustamp, udev] at hcounts
  rw [State.settle_time, htime]
  exact hcounts

/-! ### The wrap, the read of NOW and the ends of BRIDGED (R214, R225, R227) -/

theorem wrapShown_settled (s : State) :
    let t := ((s.setFld TSU_STATUS TSU_STATUS_WRAPPED 1).raiseReg 0x0602 0 0 TSU_STATUS).settle
    t.fld TSU_STATUS TSU_STATUS_WRAPPED = 1 ∧ EventOnly [TSU_STATUS] s t ∧ Logs 0x0602 s t := by
  refine ⟨?_, ?_, ?_⟩
  · rw [State.fld_settle_of_not_shown _ _ _ (by decide), State.fld_raiseReg_ne _ _ _ _ _ _ _ (by decide) (by decide)]
    exact State.fld_setFld_same _ _ _ _ (by decide)
  · exact (((EventOnly.refl _ s).setFld _ _ _ (by simp)).raiseReg _ _ _ _).settle
  · exact (logs_raiseReg _ _ _ _ (by rfl)).settle

theorem exec_stampWrap_of_due (s : State) (h : s.time.wrapDue = true) :
    exec .stampWrap s = done ((({ s with time := { s.time with wrapDue := false } } : State).setFld TSU_STATUS TSU_STATUS_WRAPPED 1).raiseReg
      0x0602 0 0 TSU_STATUS) := by
  show done s.stampWrapped = _
  rw [State.stampWrapped, if_pos h]

theorem stampWrap_due (s : State) (h : s.time.wrapDue = true) :
    Gives .stampWrap s fun t => t.fld TSU_STATUS TSU_STATUS_WRAPPED = 1 ∧
      EventOnly [TSU_STATUS] { s with time := { s.time with wrapDue := false } } t ∧ Logs 0x0602 s t :=
  gives_done (exec_stampWrap_of_due s h) (wrapShown_settled _)

theorem exec_nowRead_of_ready (s : State) (path : ReadPath) (h : s.ready TSU_NOW_NS = true) :
    exec (.nowRead path) s = done ((s.nowRead path).1.answerReg (s.nowRead path).2) := by
  show done (s.regRead _ _ _) = _
  rw [s.regRead_ready _ _ _ h]

theorem State.nowRead_host (s : State) (h : s.fldOn DBG_PEEK DBG_PEEK_PEEK = false) :
    s.nowRead .host = ((s.setReg TSU_NOW_SEC (BitVec.ofNat 64 (devSec s.time.dev))).setReg TSU_NOW_STAMP s.time.stamp,
      BitVec.ofNat 64 (devNsWord s.time.dev)) := by
  simp [State.nowRead, h]

/-- An answer to the host, seen beside a frame of registers: the state but for the registers and the answer is as before. -/
theorem RegsOnly.but_answer {l : List Nat} {s t : State} {v : Data} (h : RegsOnly l (s.answerReg v) t) :
    { t with regs := s.regs, host := { t.host with answer := s.host.answer } } = s :=
  congrArg (fun u : State => { u with regs := s.regs, host := { u.host with answer := s.host.answer } }) h.1

theorem RegsOnly.answer {l : List Nat} {s t : State} {v : Data} (h : RegsOnly l (s.answerReg v) t) :
    t.host.answer = some (toBytes 8 v.toNat) := congrArg (fun u : State => u.host.answer) h.1

theorem nowRead_host_latches (s : State) (hready : s.ready TSU_NOW_NS = true) (hpeek : s.fldOn DBG_PEEK DBG_PEEK_PEEK = false) :
    Gives (.nowRead .host) s fun t =>
      t.host.answer = some (toBytes 8 (devNsWord s.time.dev % 2 ^ 64)) ∧ t.reg TSU_NOW_SEC = BitVec.ofNat 64 (devSec s.time.dev) ∧
      t.reg TSU_NOW_STAMP = s.time.stamp ∧ KeepsRegs [TSU_NOW_SEC, TSU_NOW_STAMP] s t ∧
      { t with regs := s.regs, host := { t.host with answer := s.host.answer } } = s := by
  have hexec := exec_nowRead_of_ready s .host hready
  rw [s.nowRead_host hpeek] at hexec
  generalize hv : BitVec.ofNat 64 (devNsWord s.time.dev) = v at hexec
  have hframe : RegsOnly [TSU_NOW_SEC, TSU_NOW_STAMP] (s.answerReg v)
      ((((s.answerReg v).setReg TSU_NOW_SEC (BitVec.ofNat 64 (devSec s.time.dev))).setReg TSU_NOW_STAMP s.time.stamp).settle) :=
    (((RegsOnly.refl _ _).setReg _ _ (by simp)).setReg _ _ (by simp)).settle
  refine gives_done hexec ⟨?_, ?_, ?_, hframe.2.from_regs rfl, hframe.but_answer⟩
  · rw [← BitVec.toNat_ofNat, hv]
    exact hframe.answer
  · rw [State.reg_settle_of_not_shown _ _ (by decide), State.reg_answerReg, State.reg_setReg_ne _ _ _ _ (by decide), State.reg_setReg_same]
  · rw [State.reg_settle_of_not_shown _ _ (by decide), State.reg_answerReg, State.reg_setReg_same]

theorem nowRead_debug_only_answers (s : State) (hready : s.ready TSU_NOW_NS = true) :
    Gives (.nowRead .debug) s fun t => t.host.answer = some (toBytes 8 (devNsWord s.time.dev % 2 ^ 64)) ∧ KeepsRegs [] s t ∧
      { t with regs := s.regs, host := { t.host with answer := s.host.answer } } = s := by
  have hframe : RegsOnly [] (s.answerReg (BitVec.ofNat 64 (devNsWord s.time.dev))) (s.answerReg (BitVec.ofNat 64 (devNsWord s.time.dev))).settle :=
    (RegsOnly.refl _ _).settle
  refine gives_done (exec_nowRead_of_ready s .debug hready) ⟨?_, hframe.2.from_regs rfl, hframe.but_answer⟩
  rw [← BitVec.toNat_ofNat]
  exact hframe.answer

/-- BRIDGED ended in a state whose TSU.STATUS is that of `s` (R225). -/
theorem endBridge_settled {s u : State} {l : List Nat} (hl : TSU_STATUS ∈ l) (hu : RegsOnly l s u) (hreg : u.reg TSU_STATUS = s.reg TSU_STATUS) :
    u.endBridge.settle.fld TSU_STATUS TSU_STATUS_BRIDGED = 0 ∧ RegsOnly l s u.endBridge.settle ∧
      u.endBridge.settle.reg TSU_STATUS = TSU_STATUS_BRIDGED.put (s.reg TSU_STATUS) 0 := by
  refine ⟨?_, (hu.setFld _ _ _ hl).settle, ?_⟩
  · rw [State.fld_settle_of_not_shown _ _ _ (by decide)]
    exact State.fld_setFld_same _ _ _ _ (by decide)
  · rw [State.reg_settle_of_not_shown _ _ (by decide), ← hreg]
    exact State.reg_setReg_same _ _ _

theorem bridgeEnd_ends (s : State) (data : Data) (hready : s.ready TSU_BRIDGE = true) (hend : TSU_BRIDGE_END.on data = true) :
    Gives (.bridgeEnd data) s fun t => t.fld TSU_STATUS TSU_STATUS_BRIDGED = 0 ∧ RegsOnly [TSU_STATUS, TSU_BRIDGE] s t ∧
      t.reg TSU_STATUS = TSU_STATUS_BRIDGED.put (s.reg TSU_STATUS) 0 := by
  refine gives_done (t := (s.writeReg TSU_BRIDGE data).endBridge) ?_ (endBridge_settled (by simp) ?_ ?_)
  · show done (s.regWrite _ _ _) = _
    rw [s.regWrite_ready _ _ _ hready, State.bridgeWrite, if_pos hend]
  · exact (RegsOnly.refl _ s).writeReg _ _ (by simp)
  · exact State.reg_setReg_ne _ _ _ _ (by decide)

theorem bridgeHoldExpiry_ends (s : State) (h : s.fld TSU_BRIDGE TSU_BRIDGE_HOLD ≠ 0) :
    Gives .bridgeHoldExpiry s fun t => t.fld TSU_STATUS TSU_STATUS_BRIDGED = 0 ∧ RegsOnly [TSU_STATUS] s t ∧
      t.reg TSU_STATUS = TSU_STATUS_BRIDGED.put (s.reg TSU_STATUS) 0 :=
  gives_done (if_neg h) (endBridge_settled (by simp) (RegsOnly.refl _ s) rfl)

/-- Settles O9: one clause for each of the commands FABRIC_CYCLE, STAMP_WRAP, NOW_READ, BRIDGE_END and BRIDGE_HOLD_EXPIRY. -/
theorem countsAdvance : Obligations.CountsAdvance :=
  ⟨fun s inp hroot hsync hset hepoch =>
      ⟨fabricCycle_counts s inp hroot hsync hset hepoch, fabricCycle_first_counts s inp hroot hsync hset hepoch⟩,
    stampWrap_due, fun s hready => ⟨nowRead_host_latches s hready, nowRead_debug_only_answers s hready⟩, bridgeEnd_ends, bridgeHoldExpiry_ends⟩

/-! ### Accesses of BAR0 that reach their register (R390, R544) -/

theorem State.barWrite_ready (s : State) (o : Nat) (data : Data) (debug : Bool) (h : s.ready o = true) :
    s.barWrite o data debug = s.busWrite o data debug := by
  rw [State.barWrite, s.regMeet_ready o _ _ h, if_pos rfl]

theorem State.barRead_ready (s : State) (o : Nat) (debug peek : Bool) (f : State → Data → State) (h : s.ready o = true) :
    s.barRead o debug peek f = f (s.busRead o debug peek).1 (s.busRead o debug peek).2 := by
  rw [State.barRead, s.regMeet_ready o _ _ h]

/-- Where a register has no operation of its own, a write of it is the plain write of its fields. -/
theorem State.busWrite_plain (s : State) (o : Nat) (data : Data) (debug : Bool) (hcore : coreOff o = none) (hattach : o ≠ DBG_ATTACH)
    (hop : s.busOp o data = none) : s.busWrite o data debug = s.busPlain o data := by
  simp [State.busWrite, State.busPut, hcore, hattach, hop]

theorem State.busPlain_unlisted (s : State) (o : Nat) (data : Data) (h : regInfo o = none) : s.busPlain o data = s := by
  simp [State.busPlain, h]

theorem State.busPlain_rwa (s : State) (o : Nat) (data : Data) (r : RegInfo) (h : regInfo o = some r) (hrwa : r.rwa ≠ 0) :
    s.busPlain o data = s.raise 0x000D o 2 data := by
  simp [State.busPlain, h, hrwa]

theorem State.busPlain_no_rwa (s : State) (o : Nat) (data : Data) (r : RegInfo) (h : regInfo o = some r) (hrwa : r.rwa = 0) :
    s.busPlain o data = s.setReg o (plainWrite r (s.reg o) data) := by
  simp [State.busPlain, State.writeReg, h, hrwa]

/-- A read of a register outside the cores that holds no free value: its value, and without peek its side effects. -/
theorem State.busRead_plain (s : State) (o : Nat) (debug peek : Bool) (hcore : coreOff o = none) (haon : o ≠ PWR_AON_COUNT)
    (hdebug : o ≠ SEC_DEBUG) (hwdog : o < SUP_WDOG 0 ∨ SUP_WDOG 3 ≤ o) :
    s.busRead o debug peek = (if peek then s else s.busReadFx o, s.busValue o) := by
  have hfixed : ¬ (o = PWR_AON_COUNT ∨ o = SEC_DEBUG ∨ (SUP_WDOG 0 ≤ o ∧ o < SUP_WDOG 3)) := by omega
  simp only [State.busRead, hcore, if_neg hfixed]

theorem State.busReadFx_plain (s : State) (o : Nat) (r : RegInfo) (hnow : o ≠ TSU_NOW_NS) (hmea : o < MEA_CTL 0 ∨ MEA_CTL 24 ≤ o)
    (hr : regInfo o = some r) : s.busReadFx o = if r.rcl = 0 then s else s.setReg o (maskWrite (s.reg o) 0 r.rcl) := by
  have hwindow (P : Prop) : ¬ (MEA_CTL 0 ≤ o ∧ o < MEA_CTL 24 ∧ P) := by omega
  simp only [State.busReadFx, if_neg hnow, if_neg (hwindow _), hr]

/-- Below the controllers no register lies in a domain: its block alone decides. -/
theorem State.ready_of_blockUp (s : State) (o : Nat) (ho : o < 0x280000) (h : s.blockUp o = true) : s.ready o = true := by
  have hdom : regDomain o = none := by
    simp (disch := omega) only [regDomain, if_neg]
  simp [State.ready, h, hdom]

/-! ### BAR0_WRITE (R12, R390, R521) -/

theorem exec_bar0Write_misfit (s : State) (off size : Nat) (data : Data) (hreach : s.hostReaches = true) (hoff : off < 2 ^ 26)
    (hfit : ¬ (size = 8 ∧ off % 8 = 0)) (hmsix : ¬ (size = 4 ∧ off % 4 = 0 ∧ 0xA0000 ≤ off ∧ off < 0xA2000)) :
    exec (.bar0Write off size data) s = done (s.raise 0x000D off 1 data) := by
  have hin : ¬ ((!s.hostReaches) = true ∨ 2 ^ 26 ≤ off) := by simp [hreach]; omega
  show execBar0Write off size data s = _
  rw [execBar0Write, if_neg hin, if_neg hfit, if_neg hmsix]

theorem exec_bar0Write_aligned (s : State) (off : Nat) (data : Data) (hreach : s.hostReaches = true) (hoff : off < 2 ^ 26)
    (halign : off % 8 = 0) : exec (.bar0Write off 8 data) s = done (s.barWrite off data false) := by
  have hin : ¬ ((!s.hostReaches) = true ∨ 2 ^ 26 ≤ off) := by simp [hreach]; omega
  show execBar0Write off 8 data s = _
  rw [execBar0Write, if_neg hin, if_pos ⟨rfl, halign⟩]

theorem bar0Write_misfit (s : State) (off size : Nat) (data : Data) (hreach : s.hostReaches = true) (hoff : off < 2 ^ 26)
    (hfit : ¬ (size = 8 ∧ off % 8 = 0)) (hmsix : ¬ (size = 4 ∧ off % 4 = 0 ∧ 0xA0000 ≤ off ∧ off < 0xA2000)) :
    Gives (.bar0Write off size data) s fun t => EventOnly [] s t ∧ Logs 0x000D s t :=
  gives_done (exec_bar0Write_misfit s off size data hreach hoff hfit hmsix)
    ⟨((EventOnly.refl _ s).raise _ _ _ _).settle, (logs_raise _ _ _ _ (by rfl)).settle⟩

section PlainWrite

variable (s : State) (off : Nat) (data : Data) (hreach : s.hostReaches = true) (hoff : off < 2 ^ 26) (halign : off % 8 = 0)
  (hcore : coreOff off = none) (hattach : off ≠ DBG_ATTACH) (hready : s.ready off = true) (hop : s.busOp off data = none)
include hreach hoff halign hcore hattach hready hop

theorem exec_bar0Write_plain : exec (.bar0Write off 8 data) s = done (s.busPlain off data) := by
  rw [exec_bar0Write_aligned s off data hreach hoff halign, s.barWrite_ready off data false hready,
    s.busWrite_plain off data false hcore hattach hop]

theorem bar0Write_unlisted (hr : regInfo off = none) : Gives (.bar0Write off 8 data) s (RegsOnly [] s) :=
  gives_regsOnly _ (exec_bar0Write_plain s off data hreach hoff halign hcore hattach hready hop) (s.busPlain_unlisted off data hr)

theorem bar0Write_rwa (r : RegInfo) (hr : regInfo off = some r) (hrwa : r.rwa ≠ 0) :
    Gives (.bar0Write off 8 data) s fun t => EventOnly [] s t ∧ Logs 0x000D s t := by
  refine gives_done (exec_bar0Write_plain s off data hreach hoff halign hcore hattach hready hop) ?_
  rw [s.busPlain_rwa off data r hr hrwa]
  exact ⟨((EventOnly.refl _ s).raise _ _ _ _).settle, (logs_raise _ _ _ _ (by rfl)).settle⟩

theorem bar0Write_fields (r : RegInfo) (hr : regInfo off = some r) (hrwa : r.rwa = 0) (hshown : off ∉ shownRegs) :
    Gives (.bar0Write off 8 data) s fun t => t.reg off = plainWrite r (s.reg off) data ∧ RegsOnly [off] s t := by
  refine gives_done (exec_bar0Write_plain s off data hreach hoff halign hcore hattach hready hop) ?_
  rw [s.busPlain_no_rwa off data r hr hrwa]
  refine ⟨?_, ((RegsOnly.refl _ s).setReg _ _ (by simp)).settle⟩
  rw [State.reg_settle_of_not_shown _ _ hshown, State.reg_setReg_same]

end PlainWrite

/-! ### The MSI-X table (R392) -/

section MsixTable

variable (s : State) (o : Nat) (data : Data) (hlo : 0xA0000 ≤ o) (hhi : o < 0xA2000)
include hlo hhi

theorem State.busOp_msix : s.busOp o data = some (s.msixWrite ((o - 0xA0000) / 8) data) := by
  have hlow : o < 0xC0000 ∨ 0x480000 ≤ o := by omega
  have hring : ¬ (QIF_RING_CB 0 ≤ o ∧ o < QIF_RING_CB 256 ∧ o % 0x10 = 0) := by unfold QIF_RING_CB; omega
  have hclk : o ≠ CLK_GATE ∧ o ≠ CLK_FMETER_CTL := by unfold CLK_GATE CLK_FMETER_CTL; omega
  have hpwr : o ≠ PWR_CTL ∧ o ≠ PWR_DOM_SEL ∧ o ≠ PWR_DOM_CTL := by unfold PWR_CTL PWR_DOM_SEL PWR_DOM_CTL; omega
  have hrst : o ≠ RST_CTL ∧ o ≠ RST_DOM ∧ o ≠ QIF_JOURNAL := by unfold RST_CTL RST_DOM QIF_JOURNAL; omega
  simp only [State.busOp, if_pos hlow, State.busWriteM, hclk, hpwr, hrst, if_neg hring, hlo, hhi, if_false, and_self, if_true]

theorem State.busValue_msix : s.busValue o = s.host.msix.get msixReset ((o - 0xA0000) / 8) := by
  have hclass : classX o = false := by simp [classX]; omega
  have hvalue : s.busValueM o = some (s.msixData (o - 0xA0000)) := by
    simp (disch := omega) only [State.busValueM, GLB_ID, GLB_CAPACITY, CLK_GATE, PWR_DOM_CTL, PWR_AON_COUNT, SEC_SERIAL_LO, SEC_SERIAL_HI,
      SEC_DEBUG, SUP_WDOG, if_pos, if_neg]
  have htable : o - 0xA0000 < 0x2000 := by omega
  simp [State.busValue, hclass, hvalue, State.msixData, htable]

theorem State.busWrite_msix (debug : Bool) : s.busWrite o data debug = s.msixWrite ((o - 0xA0000) / 8) data := by
  have hcore : coreOff o = none := by simp (disch := omega) only [coreOff, if_neg]
  have hattach : o ≠ DBG_ATTACH := by unfold DBG_ATTACH; omega
  simp [State.busWrite, State.busPut, hcore, hattach, s.busOp_msix o data hlo hhi]

end MsixTable

theorem State.msixWrite_not_pending (s : State) (k : Nat) (data : Data) (h : s.host.pba.get (fun _ => false) (k / 2) = false) :
    s.msixWrite k data = { s with host := { s.host with msix := s.host.msix.set msixReset k data } } := by
  simp [State.msixWrite, h]

theorem exec_bar0Write_msix_half (s : State) (off : Nat) (data : Data) (hreach : s.hostReaches = true) (halign : off % 4 = 0)
    (hlo : 0xA0000 ≤ off) (hhi : off < 0xA2000) : exec (.bar0Write off 4 data) s = done (s.barWrite (off / 8 * 8)
      (maskWrite (s.busValue (off / 8 * 8)) (data <<< (off % 8 * 8)) ((2 ^ 32 - 1) * 2 ^ (off % 8 * 8))) false) := by
  have hin : ¬ ((!s.hostReaches) = true ∨ 2 ^ 26 ≤ off) := by simp [hreach]; omega
  show execBar0Write off 4 data s = _
  rw [execBar0Write, if_neg hin, if_neg (by omega), if_pos ⟨rfl, halign, hlo, hhi⟩]

theorem bar0Write_msix_half (s : State) (off : Nat) (data : Data) (hreach : s.hostReaches = true) (halign : off % 4 = 0)
    (hlo : 0xA0000 ≤ off) (hhi : off < 0xA2000) (hup : s.blockUp (off / 8 * 8) = true)
    (hpend : s.host.pba.get (fun _ => false) ((off - 0xA0000) / 16) = false) :
    Gives (.bar0Write off 4 data) s (RegsOnly [] { s with host := { s.host with
      msix := s.host.msix.set msixReset ((off - 0xA0000) / 8) (maskWrite (s.host.msix.get msixReset ((off - 0xA0000) / 8))
        (data <<< (off % 8 * 8)) ((2 ^ 32 - 1) * 2 ^ (off % 8 * 8))) } }) := by
  have hk : (off / 8 * 8 - 0xA0000) / 8 = (off - 0xA0000) / 8 := by omega
  have hpend' : s.host.pba.get (fun _ => false) ((off - 0xA0000) / 8 / 2) = false := by
    rwa [Nat.div_div_eq_div_mul]
  refine gives_regsOnly _ (exec_bar0Write_msix_half s off data hreach halign hlo hhi) ?_
  rw [s.barWrite_ready _ _ _ (s.ready_of_blockUp _ (by omega) hup), s.busWrite_msix _ _ (by omega) (by omega),
    s.busValue_msix _ (by omega) (by omega), hk, s.msixWrite_not_pending _ _ hpend']

/-! ### RCL_READ (R12, R390, R533) -/

@[simp] theorem State.reg_answerHost (s : State) (b : Option (List Byte)) (o : Nat) : (s.answerHost b).reg o = s.reg o := rfl

theorem KeepsRegs.answerHost {l : List Nat} {s t : State} (h : KeepsRegs l s t) (b : Option (List Byte)) : KeepsRegs l s (t.answerHost b) :=
  h.of_regs rfl

theorem exec_rclRead_misfit (s : State) (off size : Nat) (path : ReadPath) (hreach : s.hostReaches = true) (hoff : off < 2 ^ 26)
    (hfit : readFits off size = false) : exec (.rclRead off size path) s = done (s.answerHost (some (List.replicate size 0))) := by
  have hin : ¬ (((!(path == ReadPath.debug)) && !s.hostReaches) = true ∨ 2 ^ 26 ≤ off) := by simp [hreach]; omega
  show execRclRead off size path s = _
  simp only [execRclRead, if_neg hin, hfit, Bool.false_eq_true, if_false]

section PlainRead

variable (s : State) (off size : Nat) (path : ReadPath) (hreach : s.hostReaches = true) (hoff : off < 2 ^ 26)
  (hfit : readFits off size = true) (hready : s.ready (off / 8 * 8) = true) (hcore : coreOff (off / 8 * 8) = none)
  (haon : off / 8 * 8 ≠ PWR_AON_COUNT) (hdebug : off / 8 * 8 ≠ SEC_DEBUG)
  (hwdog : off / 8 * 8 < SUP_WDOG 0 ∨ SUP_WDOG 3 ≤ off / 8 * 8)
include hreach hoff hfit hready hcore haon hdebug hwdog

theorem exec_rclRead_plain : exec (.rclRead off size path) s =
    done ((if path == .debug || s.fldOn DBG_PEEK DBG_PEEK_PEEK then s else s.busReadFx (off / 8 * 8)).answerHost
      (some (readBytes off size (s.busValue (off / 8 * 8))))) := by
  have hin : ¬ (((!(path == ReadPath.debug)) && !s.hostReaches) = true ∨ 2 ^ 26 ≤ off) := by simp [hreach]; omega
  show execRclRead off size path s = _
  simp only [execRclRead, if_neg hin, if_pos hfit, s.barRead_ready _ _ _ _ hready, s.busRead_plain _ _ _ hcore haon hdebug hwdog]

theorem rclRead_peek (hpeek : path = .debug ∨ s.fldOn DBG_PEEK DBG_PEEK_PEEK = true) :
    Gives (.rclRead off size path) s (RegsOnly [] (s.answerHost (some (readBytes off size (s.busValue (off / 8 * 8)))))) := by
  refine gives_regsOnly _ (exec_rclRead_plain s off size path hreach hoff hfit hready hcore haon hdebug hwdog) ?_
  rw [if_pos (by simpa using hpeek)]

theorem rclRead_clears (hpath : path = .host) (hpeek : s.fldOn DBG_PEEK DBG_PEEK_PEEK = false) (hnow : off / 8 * 8 ≠ TSU_NOW_NS)
    (hmea : off / 8 * 8 < MEA_CTL 0 ∨ MEA_CTL 24 ≤ off / 8 * 8) (hshown : off / 8 * 8 ∉ shownRegs) (r : RegInfo)
    (hr : regInfo (off / 8 * 8) = some r) : Gives (.rclRead off size path) s fun t =>
      t.host.answer = some (readBytes off size (s.busValue (off / 8 * 8))) ∧ KeepsRegs [off / 8 * 8] s t ∧
      t.reg (off / 8 * 8) = if r.rcl = 0 then s.reg (off / 8 * 8) else maskWrite (s.reg (off / 8 * 8)) 0 r.rcl := by
  refine gives_done (exec_rclRead_plain s off size path hreach hoff hfit hready hcore haon hdebug hwdog) ?_
  rw [hpath, hpeek, if_neg (by decide), s.busReadFx_plain _ r hnow hmea hr]
  refine ⟨by rw [State.settle_host]; rfl, ?_, ?_⟩
  · split
    · exact ((KeepsRegs.refl _ s).answerHost _).settle
    · exact (((KeepsRegs.refl _ s).setReg _ _ (by simp)).answerHost _).settle
  · rw [State.reg_settle_of_not_shown _ _ hshown]
    split
    · rfl
    · exact State.reg_setReg_same _ _ _

end PlainRead

/-! ### The JTAG instructions (R523, R536) -/

theorem State.jtagSelect_of_ne (s : State) (ir : BitVec 8) (h : ir ≠ 0x11) :
    s.jtagSelect ir = { s with jtag := { s.jtag with ir := ir, driving := ir == 0x00 } } := by
  have hkeep : ¬ (ir = 0x11 ∧ s.jtag.ir ≠ 0x11) := fun e => h e.1
  simp only [State.jtagSelect, if_neg hkeep]

theorem extest_drives (s : State) (cells : List Bool) (h : s.pins.cfgDone = false ∨ s.jtagOpen = true) :
    Gives (.extest cells) s (RegsOnly [] { s with jtag := { s.jtag with ir := 0x00, driving := true, boundary := cells } }) := by
  have hopen : ¬ (s.pins.cfgDone = true ∧ (!s.jtagOpen) = true) := by rcases h with h | h <;> simp [h]
  refine gives_regsOnly (t := { s.jtagSelect 0x00 with jtag := { (s.jtagSelect 0x00).jtag with boundary := cells } }) _ (if_neg hopen) ?_
  rw [s.jtagSelect_of_ne 0x00 (by decide)]
  rfl

theorem extest_refused (s : State) (cells : List Bool) (hdone : s.pins.cfgDone = true) (hshut : s.jtagOpen = false) :
    Gives (.extest cells) s fun t => t.jtag = { s.jtag with ir := 0xFF, driving := false } ∧ Logs 0x000D s t ∧ KeepsRegs eventRegs s t := by
  have hrefused : s.pins.cfgDone = true ∧ (!s.jtagOpen) = true := by simp [hdone, hshut]
  refine gives_done (t := (s.jtagSelect 0xFF).raise 0x000D 0 3 0) (if_pos hrefused) ?_
  rw [s.jtagSelect_of_ne 0xFF (by decide)]
  refine ⟨?_, (logs_raise _ _ _ _ (by rfl)).settle, ?_⟩
  · rw [State.settle_jtag, State.raise_jtag]
    rfl
  · exact (((EventOnly.refl [] _).raise _ _ _ _).settle.2).from_regs rfl

theorem samplePreload_loads (s : State) (cells : List Bool) : Gives (.samplePreload cells) s fun t =>
    t.jtag = { s.jtag with ir := 0x01, driving := false, boundary := cells, tdo := t.jtag.tdo } ∧ KeepsRegs [] s t := by
  refine gives_done (t := ({ s.jtagSelect 0x01 with jtag := { (s.jtagSelect 0x01).jtag with
    boundary := cells, tdo := Config.freeValue 64 (s.jtagSelect 0x01).freeCtr } } : State).spend 1) rfl ?_
  rw [s.jtagSelect_of_ne 0x01 (by decide)]
  refine ⟨?_, ((KeepsRegs.refl [] s).of_regs rfl).settle⟩
  rw [State.settle_jtag, State.spend_jtag]
  rfl

theorem devinfo_loads (s : State) :
    Gives .devinfo s (RegsOnly [] { s with jtag := { s.jtag with ir := 0x02, driving := false, tdo := s.glbId } }) := by
  refine gives_regsOnly (t := { s.jtagSelect 0x02 with jtag := { (s.jtagSelect 0x02).jtag with tdo := (s.jtagSelect 0x02).glbId } }) _ rfl ?_
  rw [s.jtagSelect_of_ne 0x02 (by decide)]
  rfl

theorem mem_jtagCodes (code : BitVec 8) : code ∈ [0x00, 0x01, 0x02, 0x10, (0x11 : BitVec 8)] ↔
    code = 0x00 ∨ code = 0x01 ∨ code = 0x02 ∨ code = 0x10 ∨ code = 0x11 := by simp

theorem bypass_other_code (s : State) (code : BitVec 8) (h : code ∈ [0x00, 0x01, 0x02, 0x10, (0x11 : BitVec 8)]) :
    Gives (.bypass code) s (RegsOnly [] s) :=
  gives_regsOnly _ (if_pos ((mem_jtagCodes code).mp h)) rfl

theorem bypass_selects (s : State) (code : BitVec 8) (h : code ∉ [0x00, 0x01, 0x02, 0x10, (0x11 : BitVec 8)]) :
    Gives (.bypass code) s (RegsOnly [] { s with jtag := { s.jtag with ir := code, driving := false } }) := by
  rw [mem_jtagCodes] at h
  have hextest : (code == 0x00) = false := by simpa using fun e : code = 0x00 => h (.inl e)
  refine gives_regsOnly (t := s.jtagSelect code) _ (if_neg h) ?_
  rw [s.jtagSelect_of_ne code (fun e => h (by simp [e])), hextest]

theorem testLogicReset_detaches (s : State) : Gives .testLogicReset s fun t => t.fld DBG_ATTACH DBG_ATTACH_JTAG = 0 ∧
    RegsOnly [DBG_ATTACH] { s with jtag := { s.jtag with ir := 0xFF, driving := false } } t := by
  refine gives_done (t := (s.jtagSelect 0xFF).setFld DBG_ATTACH DBG_ATTACH_JTAG 0) rfl ⟨?_, ?_⟩
  · rw [State.fld_settle_of_not_shown _ _ _ (by decide)]
    exact State.fld_setFld_same _ _ _ _ (by decide)
  · have hsel : s.jtagSelect 0xFF = { s with jtag := { s.jtag with ir := 0xFF, driving := false } } := s.jtagSelect_of_ne 0xFF (by decide)
    rw [← hsel]
    exact ((RegsOnly.refl _ _).setFld _ _ _ (by simp)).settle

/-! ### DBGREG (R523) -/

/-- The state in which DBGREG makes its access: selected and attached, the answer not yet there. -/
def State.dbgregStart (s : State) : State :=
  { (s.jtagSelect 0x10).setFld DBG_ATTACH DBG_ATTACH_JTAG 1 with
    jtag := { (s.jtagSelect 0x10).jtag with done := false, err := false } }

theorem exec_dbgreg (s : State) (dr : BitVec 88) : exec (.dbgreg dr) s =
    let u := s.dbgregStart
    let o := natBits dr.toNat 64 23 * 8
    if !u.jtagOpen ∧ !jtagReach o then done { u with jtag := { u.jtag with done := true, err := true } }
    else if natBit dr.toNat 87 then
      let v := u.barWrite o (BitVec.ofNat 64 (natBits dr.toNat 0 64)) true
      done { v with jtag := { v.jtag with done := true, err := false } }
    else done (u.barRead o true true (fun s v => s.jtagAnswer v)) := rfl

theorem State.dbgregStart_eq (s : State) : s.dbgregStart =
    ({ s with jtag := { s.jtag with ir := 0x10, driving := false, done := false, err := false } } : State).setFld DBG_ATTACH DBG_ATTACH_JTAG 1 := by
  rw [State.dbgregStart, s.jtagSelect_of_ne 0x10 (by decide)]
  rfl

theorem State.dbgregStart_attached (s : State) : s.dbgregStart.fld DBG_ATTACH DBG_ATTACH_JTAG = 1 := by
  rw [s.dbgregStart_eq, State.fld_setFld_same _ _ _ _ (by decide)]
  rfl

theorem State.jtagOpen_dbgregStart (s : State) : s.dbgregStart.jtagOpen = s.jtagOpen := by
  rw [s.dbgregStart_eq, State.jtagOpen, State.fldOn, State.fld_setFld_ne _ _ _ _ _ _ (by decide)]
  rfl

theorem State.ready_dbgregStart (s : State) (o : Nat) : s.dbgregStart.ready o = s.ready o := by
  rw [s.dbgregStart_eq]
  rfl

theorem State.dbgregStart_jtag (s : State) :
    s.dbgregStart.jtag = { s.jtag with ir := 0x10, driving := false, done := false, err := false } := by
  rw [s.dbgregStart_eq]
  rfl

/-- With the answer in the port, ATTACH.JTAG alone is left of DBGREG's start. -/
theorem dbgregStart_answered (s : State) (j : JtagSt) (l : List Nat) (hl : DBG_ATTACH ∈ l) :
    RegsOnly l { s with jtag := j } { s.dbgregStart with jtag := j } := by
  rw [s.dbgregStart_eq]
  exact (RegsOnly.refl l { s with jtag := j }).setFld DBG_ATTACH DBG_ATTACH_JTAG 1 hl

theorem dbgreg_refused (s : State) (dr : BitVec 88) (hshut : s.jtagOpen = false) (hreach : jtagReach (natBits dr.toNat 64 23 * 8) = false) :
    Gives (.dbgreg dr) s fun t => t.fld DBG_ATTACH DBG_ATTACH_JTAG = 1 ∧ RegsOnly [DBG_ATTACH]
      { s with jtag := { s.jtag with ir := 0x10, driving := false, done := true, err := true } } t := by
  have hrefused : (!s.dbgregStart.jtagOpen) = true ∧ (!jtagReach (natBits dr.toNat 64 23 * 8)) = true := by
    simp [s.jtagOpen_dbgregStart, hshut, hreach]
  refine gives_done ((exec_dbgreg s dr).trans (if_pos hrefused)) ?_
  rw [s.dbgregStart_jtag]
  refine ⟨?_, (dbgregStart_answered s _ _ (by simp)).settle⟩
  rw [State.fld_settle_of_not_shown _ _ _ (by decide)]
  exact s.dbgregStart_attached

theorem dbgreg_not_refused (s : State) (dr : BitVec 88) (h : s.jtagOpen = true ∨ jtagReach (natBits dr.toNat 64 23 * 8) = true) :
    ¬ ((!s.dbgregStart.jtagOpen) = true ∧ (!jtagReach (natBits dr.toNat 64 23 * 8)) = true) := by
  rw [s.jtagOpen_dbgregStart]
  rcases h with h | h <;> simp [h]

theorem exec_dbgreg_write (s : State) (dr : BitVec 88) (hallowed : s.jtagOpen = true ∨ jtagReach (natBits dr.toNat 64 23 * 8) = true)
    (hready : s.ready (natBits dr.toNat 64 23 * 8) = true) (hwrite : natBit dr.toNat 87 = true) : exec (.dbgreg dr) s =
    let v := s.dbgregStart.busWrite (natBits dr.toNat 64 23 * 8) (BitVec.ofNat 64 (natBits dr.toNat 0 64)) true
    done { v with jtag := { v.jtag with done := true, err := false } } := by
  rw [← State.barWrite_ready _ _ _ _ ((s.ready_dbgregStart _).trans hready)]
  exact (exec_dbgreg s dr).trans ((if_neg (dbgreg_not_refused s dr hallowed)).trans (if_pos hwrite))

theorem exec_dbgreg_read (s : State) (dr : BitVec 88) (hallowed : s.jtagOpen = true ∨ jtagReach (natBits dr.toNat 64 23 * 8) = true)
    (hready : s.ready (natBits dr.toNat 64 23 * 8) = true) (hread : natBit dr.toNat 87 = false) : exec (.dbgreg dr) s =
    let r := s.dbgregStart.busRead (natBits dr.toNat 64 23 * 8) true true
    done (r.1.jtagAnswer r.2) := by
  have hnot : ¬ natBit dr.toNat 87 = true := by simp [hread]
  refine (exec_dbgreg s dr).trans ((if_neg (dbgreg_not_refused s dr hallowed)).trans ((if_neg hnot).trans ?_))
  rw [State.barRead_ready _ _ _ _ _ ((s.ready_dbgregStart _).trans hready)]

theorem State.busWrite_peek (s : State) (data : Data) (debug : Bool) :
    s.busWrite DBG_PEEK data debug = s.setReg DBG_PEEK (plainWrite DBG_PEEK_info (s.reg DBG_PEEK) data) := by
  rw [s.busWrite_plain DBG_PEEK data debug rfl (by decide) rfl, s.busPlain_no_rwa DBG_PEEK data DBG_PEEK_info rfl rfl]

theorem dbgreg_writes_peek (s : State) (dr : BitVec 88) (ho : natBits dr.toNat 64 23 * 8 = DBG_PEEK) (hwrite : natBit dr.toNat 87 = true)
    (hopen : s.jtagOpen = true) (hready : s.ready DBG_PEEK = true) : Gives (.dbgreg dr) s fun t =>
      t.reg DBG_PEEK = plainWrite DBG_PEEK_info (s.reg DBG_PEEK) (BitVec.ofNat 64 (natBits dr.toNat 0 64)) ∧
      RegsOnly [DBG_ATTACH, DBG_PEEK] { s with jtag := { s.jtag with ir := 0x10, driving := false, done := true, err := false } } t := by
  have hexec := exec_dbgreg_write s dr (.inl hopen) (by rw [ho]; exact hready) hwrite
  rw [ho, State.busWrite_peek] at hexec
  have hpeek : s.dbgregStart.reg DBG_PEEK = s.reg DBG_PEEK := by
    rw [s.dbgregStart_eq, State.reg_setFld_ne _ _ _ _ _ (by decide)]
    rfl
  refine gives_done hexec ?_
  rw [State.setReg_jtag, s.dbgregStart_jtag, hpeek]
  refine ⟨?_, ((dbgregStart_answered s _ _ (by simp)).setReg DBG_PEEK _ (by simp)).settle⟩
  rw [State.reg_settle_of_not_shown _ _ (by decide)]
  exact State.reg_setReg_same _ _ _

theorem State.busRead_serial (s : State) : s.busRead SEC_SERIAL_LO true true = (s, BitVec.ofNat 64 s.fuses.serial.toNat) :=
  s.busRead_plain SEC_SERIAL_LO true true rfl (by decide) (by decide) (.inl (by decide))

theorem dbgreg_reads_serial (s : State) (dr : BitVec 88) (ho : natBits dr.toNat 64 23 * 8 = SEC_SERIAL_LO) (hread : natBit dr.toNat 87 = false)
    (hready : s.ready SEC_SERIAL_LO = true) : Gives (.dbgreg dr) s fun t => RegsOnly [DBG_ATTACH]
      { s with jtag := { s.jtag with ir := 0x10, driving := false, done := true, err := false, dr := BitVec.ofNat 64 s.fuses.serial.toNat } } t := by
  have hexec := exec_dbgreg_read s dr (.inr (by rw [ho]; decide)) (by rw [ho]; exact hready) hread
  rw [ho, State.busRead_serial] at hexec
  refine gives_done hexec ?_
  rw [State.jtagAnswer, s.dbgregStart_jtag]
  exact (dbgregStart_answered s _ _ (by simp)).settle

/-! ### Ending and granting an unlock (R479, R481, R519) -/

theorem EventOnly.trans {l : List Nat} {s t u : State} (h : EventOnly l s t) (k : EventOnly l t u) : EventOnly l s u :=
  ⟨h.1.trans k.1, h.2.trans k.2⟩

theorem EventOnly.mono {l k : List Nat} {s t : State} (h : EventOnly l s t) (hs : ∀ o, o ∈ l → o ∈ k) : EventOnly k s t :=
  ⟨h.1, h.2.mono (fun o ho => by
    rcases List.mem_append.mp ho with ho | ho
    · exact List.mem_append_left _ (hs o ho)
    · exact List.mem_append_right _ ho)⟩

/-- What reads neither the registers, nor the events, nor the host's side is as before under a frame that changes these alone. -/
theorem OnlyRegsEvents.read {α : Type} {s t : State} (h : OnlyRegsEvents s t) (f : State → α)
    (hf : ∀ (u : State) r e b, f { u with regs := r, evt := e, host := b } = f u) : f t = f s :=
  (hf t s.regs s.evt s.host).symm.trans (congrArg f h)

/-- What does not read the registers is as before under a frame of registers. -/
theorem OnlyRegs.read {α : Type} {s t : State} (h : OnlyRegs s t) (f : State → α) (hf : ∀ (u : State) r, f { u with regs := r } = f u) :
    f t = f s :=
  (hf t s.regs).symm.trans (congrArg f h)

theorem EventOnly.setSv {l : List Nat} {s t : State} (h : EventOnly l s t) (c st : Nat) (hl : SUP_STATUS ∈ l) : EventOnly l s (t.setSv c st) := by
  unfold State.setSv
  split
  · exact h.setFld _ _ _ hl
  · exact h.setFld _ _ _ hl

theorem EventOnly.showCore {l : List Nat} {s t : State} (h : EventOnly l s t) (c : Nat) (halted : Bool) (hl : SUP_STATUS ∈ l) :
    EventOnly l s (t.showCore c halted) := by
  unfold State.showCore
  split
  · exact h
  · split
    · exact h.setSv _ _ hl
    · exact h.setSv _ _ hl

/-- A core that resumes changes its own status and watchdog, SUP.STATUS, and raises its event. -/
theorem State.resumeNow_frame (s : State) (c : Nat) : EventOnly [DBG_CORE_STATUS c, SUP_WDOG c, SUP_STATUS] s (s.resumeNow c) := by
  unfold State.resumeNow
  split
  · exact EventOnly.refl _ s
  · exact ((((EventOnly.refl _ s).setFlds _ _ (by simp)).setFlds _ _ (by simp)).showCore _ _ (by simp)).raiseReg _ _ _ _

/-- The registers of the cores that the end of an unlock lets resume. -/
def resumeRegs : List Nat :=
  [DBG_CORE_STATUS 0, SUP_WDOG 0, DBG_CORE_STATUS 1, SUP_WDOG 1, DBG_CORE_STATUS 2, SUP_WDOG 2, SUP_STATUS]

theorem State.resumeAll_frame (s : State) : EventOnly resumeRegs s ([0, 1, 2].foldl (fun s c => s.resumeNow c) s) :=
  (((s.resumeNow_frame 0).mono (by simp [resumeRegs])).trans (((s.resumeNow 0).resumeNow_frame 1).mono (by simp [resumeRegs]))).trans
    ((((s.resumeNow 0).resumeNow 1).resumeNow_frame 2).mono (by simp [resumeRegs]))

/-- The registers as an unlock that ends leaves them. -/
def State.shutRegs (s : State) : State :=
  ((s.setFlds SEC_STATUS [(SEC_STATUS_JTAG_DBG, 0), (SEC_STATUS_HOST_DBG, 0)]).setReg SEC_DEBUG 0).setFld DBG_ATTACH DBG_ATTACH_HOST 0

/-- An unlock ended, before the halted cores resume. -/
def State.unlockShut (s : State) : State :=
  { s.shutRegs with sec := { s.sec with unlockForever := false } }.raiseReg 0x000A s.unlockScope 2 SEC_STATUS

theorem State.endUnlock_shut (s : State) (h : s.unlockScope = 0) : s.endUnlock = s := by
  unfold State.endUnlock
  exact if_pos h

theorem State.endUnlock_open (s : State) (h : s.unlockScope ≠ 0) :
    s.endUnlock = [0, 1, 2].foldl (fun s c => s.resumeNow c) s.unlockShut := by
  unfold State.endUnlock
  exact if_neg h

theorem State.shutRegs_frame (s : State) (sec : SecSt) :
    EventOnly ([SEC_STATUS, SEC_DEBUG, DBG_ATTACH] ++ resumeRegs) { s with sec := sec } { s.shutRegs with sec := sec } :=
  (((EventOnly.refl _ { s with sec := sec }).setFlds SEC_STATUS [(SEC_STATUS_JTAG_DBG, 0), (SEC_STATUS_HOST_DBG, 0)] (by simp)).setReg
    SEC_DEBUG 0 (by simp)).setFld DBG_ATTACH DBG_ATTACH_HOST 0 (by simp)

theorem State.reg_shutRegs_status (s : State) :
    s.shutRegs.reg SEC_STATUS = SEC_STATUS_HOST_DBG.put (SEC_STATUS_JTAG_DBG.put (s.reg SEC_STATUS) 0) 0 := by
  rw [State.shutRegs, State.reg_setFld_ne _ _ _ _ _ (by decide), State.reg_setReg_ne _ _ _ _ (by decide)]
  exact State.reg_setReg_same _ _ _

/-- The end of an unlock changes SEC.STATUS, SEC.DEBUG, DBG.ATTACH, and what resuming changes. -/
theorem State.endUnlock_frame (s : State) :
    ∃ sec, EventOnly ([SEC_STATUS, SEC_DEBUG, DBG_ATTACH] ++ resumeRegs) { s with sec := sec } s.endUnlock := by
  by_cases h : s.unlockScope = 0
  · rw [s.endUnlock_shut h]
    exact ⟨s.sec, EventOnly.refl _ s⟩
  · rw [s.endUnlock_open h]
    refine ⟨{ s.sec with unlockForever := false }, EventOnly.trans ?_ (s.unlockShut.resumeAll_frame.mono (by simp +contextual))⟩
    exact (s.shutRegs_frame _).raiseReg 0x000A s.unlockScope 2 SEC_STATUS

theorem State.unlockScope_of_reg {s t : State} (h : t.reg SEC_STATUS = s.reg SEC_STATUS) : t.unlockScope = s.unlockScope := by
  unfold State.unlockScope State.fld
  rw [h]

theorem State.unlockScope_unlockShut (s : State) : s.unlockShut.unlockScope = 0 := by
  have hreg : s.unlockShut.reg SEC_STATUS = s.shutRegs.reg SEC_STATUS :=
    State.reg_raiseReg _ _ _ _ _ _ (by decide) (by decide)
  unfold State.unlockScope State.fld
  rw [hreg, s.reg_shutRegs_status, Fld.get_put_same _ _ _ (by decide), Fld.get_put_ne _ _ _ _ (by decide) (by decide),
    Fld.get_put_same _ _ _ (by decide)]
  rfl

theorem State.unlockScope_endUnlock (s : State) : s.endUnlock.unlockScope = 0 := by
  by_cases h : s.unlockScope = 0
  · rw [s.endUnlock_shut h, h]
  · rw [s.endUnlock_open h, State.unlockScope_of_reg (s.unlockShut.resumeAll_frame.2 SEC_STATUS (by decide) (by decide)),
      s.unlockScope_unlockShut]

/-- The registers as an unlock that begins leaves them. -/
def State.grantRegs (s : State) (scope seconds : Nat) : State :=
  let u := s.setFlds SEC_STATUS [(SEC_STATUS_JTAG_DBG, scope % 2), (SEC_STATUS_HOST_DBG, scope / 2)]
  (if scope < 2 then u.setFld DBG_ATTACH DBG_ATTACH_HOST 0 else u).setFld SEC_DEBUG SEC_DEBUG_REMAIN (if seconds = 0 then 0xFFFFFFFF else seconds)

theorem State.grantRegs_frame (s : State) (scope seconds : Nat) :
    RegsOnly [SEC_STATUS, DBG_ATTACH, SEC_DEBUG] s (s.grantRegs scope seconds) := by
  have hstatus : RegsOnly [SEC_STATUS, DBG_ATTACH, SEC_DEBUG] s
      (s.setFlds SEC_STATUS [(SEC_STATUS_JTAG_DBG, scope % 2), (SEC_STATUS_HOST_DBG, scope / 2)]) :=
    (RegsOnly.refl _ s).setFlds _ _ (by simp)
  refine RegsOnly.setFld ?_ _ _ _ (by simp)
  split
  · exact hstatus.setFld _ _ _ (by simp)
  · exact hstatus

/-- A granted unlock shows its scope: bit 0 for JTAG, bit 1 for the host link. -/
theorem State.reg_grantRegs_status (s : State) (scope seconds : Nat) : (s.grantRegs scope seconds).reg SEC_STATUS =
    SEC_STATUS_HOST_DBG.put (SEC_STATUS_JTAG_DBG.put (s.reg SEC_STATUS) (scope % 2)) (scope / 2) := by
  refine (State.reg_setFld_ne _ _ _ _ _ (by decide)).trans ?_
  split
  · exact (State.reg_setFld_ne _ _ _ _ _ (by decide)).trans (State.reg_setReg_same _ _ _)
  · exact State.reg_setReg_same _ _ _

theorem State.beginUnlock_eq (s : State) (scope seconds : Nat) : s.beginUnlock scope seconds =
    { s.grantRegs scope seconds with sec := { (s.grantRegs scope seconds).sec with unlockForever := seconds == 0 } }.raiseReg
      0x000A scope 1 SEC_STATUS := rfl

theorem State.beginUnlock_jtag (s : State) (scope seconds : Nat) : (s.beginUnlock scope seconds).jtag = s.jtag := by
  rw [s.beginUnlock_eq, State.raiseReg_jtag]
  exact (s.grantRegs_frame scope seconds).1.read State.jtag (fun _ _ => rfl)

theorem logs_beginUnlock (s : State) (scope seconds : Nat) : Logs 0x000A s (s.beginUnlock scope seconds) := by
  rw [s.beginUnlock_eq]
  exact logs_raiseReg _ _ _ _ ((s.grantRegs_frame scope seconds).1.read (fun u => u.evt.log) (fun _ _ => rfl))

theorem State.reg_beginUnlock_status (s : State) (scope seconds : Nat) :
    (s.beginUnlock scope seconds).reg SEC_STATUS = (s.grantRegs scope seconds).reg SEC_STATUS := by
  rw [s.beginUnlock_eq, State.reg_raiseReg _ _ _ _ _ _ (by decide) (by decide)]
  rfl

theorem State.jtagOpen_beginUnlock (s : State) (scope seconds : Nat) : (s.beginUnlock scope seconds).jtagOpen = natBit scope 0 := by
  unfold State.jtagOpen State.fldOn State.fld
  rw [s.reg_beginUnlock_status, s.reg_grantRegs_status, Fld.get_put_ne _ _ _ _ (by decide) (by decide), Fld.get_put_same _ _ _ (by decide)]
  simp [natBit, SEC_STATUS_JTAG_DBG]

theorem State.hostOpen_beginUnlock (s : State) (scope seconds : Nat) : (s.beginUnlock scope seconds).hostOpen = natBit scope 1 := by
  unfold State.hostOpen State.fldOn State.fld
  rw [s.reg_beginUnlock_status, s.reg_grantRegs_status, Fld.get_put_same _ _ _ (by decide)]
  simp [natBit, SEC_STATUS_HOST_DBG]

/-! ### The item of the UNLOCK buffer (R471, R472, R524) -/

theorem Item.slot_lt (it : Item) : it.slot < 2 ^ 8 := natBits_lt _ _ _

theorem Item.counter_lt (it : Item) : it.counter < 2 ^ 32 := natBits_lt _ _ _

/-- An accepted item changes its slot's register and what the store keeps of the slots. -/
theorem State.authAccept_frame (s : State) (it : Item) :
    ∃ slots, RegsOnly [SEC_SLOT it.slot] { s with sec := { s.sec with slots := slots } } (s.authAccept it) :=
  ⟨_, (RegsOnly.refl _ { s with sec := { s.sec with slots := _ } }).setFlds (SEC_SLOT it.slot)
    [(SEC_SLOT_LAST, it.counter), (SEC_SLOT_STATE, if it.counter = 0xFFFFFFFF then slotExhausted else slotActive)] (by simp)⟩

theorem State.unlockAccept_frame (s : State) (it : Item) :
    ∃ slots, RegsOnly [SEC_SLOT it.slot] { s with sec := { s.sec with slots := slots } } (s.unlockAccept it) := by
  unfold State.unlockAccept
  dsimp only
  split
  · exact (s.setSlotKey it.slot { s.slotKey it.slot with ceiling := ceilingAbove it.counter }).authAccept_frame it
  · exact s.authAccept_frame it

theorem State.unlockAccept_jtag (s : State) (it : Item) : (s.unlockAccept it).jtag = s.jtag := by
  obtain ⟨slots, hframe⟩ := s.unlockAccept_frame it
  exact hframe.1.read State.jtag (fun _ _ => rfl)

theorem State.unlockAccept_evt (s : State) (it : Item) : (s.unlockAccept it).evt = s.evt := by
  obtain ⟨slots, hframe⟩ := s.unlockAccept_frame it
  exact hframe.1.read State.evt (fun _ _ => rfl)

theorem State.unlockAccept_scope (s : State) (it : Item) : (s.unlockAccept it).unlockScope = s.unlockScope := by
  obtain ⟨slots, hframe⟩ := s.unlockAccept_frame it
  have hslot : SEC_STATUS ∉ [SEC_SLOT it.slot] := by simp [SEC_STATUS, SEC_SLOT]; omega
  exact State.unlockScope_of_reg (hframe.2 SEC_STATUS hslot (by decide))

theorem State.unlockAccept_by (s : State) (it : Item) (scope seconds : Nat) (cert : List Byte) :
    (s.unlockAccept it).unlockBy scope seconds cert =
      if Config.debugCert s.fuses.serial s.sec.ownerCert cert then some ((s.unlockAccept it).beginUnlock scope seconds) else none := by
  obtain ⟨slots, hframe⟩ := s.unlockAccept_frame it
  have hserial : (s.unlockAccept it).fuses = s.fuses := hframe.1.read State.fuses (fun _ _ => rfl)
  have howner : (s.unlockAccept it).sec.ownerCert = s.sec.ownerCert := hframe.1.read (fun u => u.sec.ownerCert) (fun _ _ => rfl)
  rw [State.unlockBy, hserial, howner]

@[simp] theorem State.reg_setSlotKey (s : State) (k : Nat) (v : SlotKey) (o : Nat) : (s.setSlotKey k v).reg o = s.reg o := by
  simp only [State.reg, State.setSlotKey]

theorem State.reg_authAccept_slot (s : State) (it : Item) : (s.authAccept it).reg (SEC_SLOT it.slot) =
    SEC_SLOT_STATE.put (SEC_SLOT_LAST.put (s.reg (SEC_SLOT it.slot)) it.counter)
      (if it.counter = 0xFFFFFFFF then slotExhausted else slotActive) := by
  rw [State.authAccept, State.reg_setSlotKey]
  exact State.reg_setReg_same _ _ _

/-- The accepted counter is the slot's last. -/
theorem State.authAccept_last (s : State) (it : Item) : (s.authAccept it).fld (SEC_SLOT it.slot) SEC_SLOT_LAST = it.counter := by
  unfold State.fld
  rw [s.reg_authAccept_slot, Fld.get_put_ne _ _ _ _ (by decide) (by decide), Fld.get_put_same _ _ _ (by decide)]
  exact Nat.mod_eq_of_lt it.counter_lt

theorem State.unlockAccept_last (s : State) (it : Item) : (s.unlockAccept it).fld (SEC_SLOT it.slot) SEC_SLOT_LAST = it.counter := by
  unfold State.unlockAccept
  exact State.authAccept_last _ it

theorem State.endUnlock_jtag (s : State) : s.endUnlock.jtag = s.jtag := by
  obtain ⟨sec, hframe⟩ := s.endUnlock_frame
  exact hframe.1.read State.jtag (fun _ _ _ _ => rfl)

theorem State.endUnlock_slot (s : State) (k : Nat) (hk : k < 2 ^ 8) : s.endUnlock.reg (SEC_SLOT k) = s.reg (SEC_SLOT k) := by
  obtain ⟨sec, hframe⟩ := s.endUnlock_frame
  refine hframe.2 (SEC_SLOT k) ?_ ?_
  · simp only [resumeRegs, eventRegs, SEC_SLOT, SEC_STATUS, SEC_DEBUG, DBG_ATTACH, DBG_CORE_STATUS, SUP_WDOG, SUP_STATUS, EVT_TAIL, EVT_LOST,
      List.mem_append, List.mem_cons, List.not_mem_nil, or_false]
    omega
  · simp only [shownRegs, SEC_SLOT, PWR_STATUS, CFG_STATUS, GLB_STATUS, List.mem_cons, List.not_mem_nil, or_false]
    omega

/-! ### UNLOCK (R524) -/

/-- The port as selecting UNLOCK leaves its buffer and its answer. -/
def State.unlockPort (s : State) : JtagSt :=
  if s.jtag.ir = 0x11 then s.jtag else { s.jtag with unlockBuf := [], unlockDone := false, unlockStatus := 0 }

/-- The buffer with a word more. -/
def State.unlockBytes (s : State) (word : BitVec 32) : List Byte := (s.unlockPort.unlockBuf ++ toBytes 4 word.toNat).take 4224

/-- The port with the word taken. -/
def State.unlockHeld (s : State) (word : BitVec 32) : JtagSt :=
  { s.unlockPort with ir := 0x11, driving := false, unlockBuf := s.unlockBytes word }

def State.unlockTaken (s : State) (word : BitVec 32) : State := { s with jtag := s.unlockHeld word }

/-- The item is whole, has not been performed, and the security controller takes it up. -/
def State.UnlockReady (s : State) (word : BitVec 32) : Prop :=
  128 ≤ (s.unlockBytes word).length ∧ 128 + (unlockItem (s.unlockBytes word)).num 24 4 ≤ (s.unlockBytes word).length ∧
    s.unlockPort.unlockDone = false ∧ s.coreHalted 2 = false ∧ s.clk.mgmtReset = false

/-- The word in the buffer changes nothing that the item is judged by. -/
theorem State.unlockTaken_descFault (s : State) (word : BitVec 32) (it : Item) : (s.unlockTaken word).descFault it = s.descFault it := rfl
theorem State.unlockTaken_authFault (s : State) (word : BitVec 32) (it : Item) : (s.unlockTaken word).authFault it = s.authFault it := rfl

theorem State.jtagSelect_unlock (s : State) : s.jtagSelect 0x11 = { s with jtag := { s.unlockPort with ir := 0x11, driving := false } } := by
  unfold State.jtagSelect State.unlockPort
  by_cases h : s.jtag.ir = 0x11 <;> simp [h]

theorem exec_unlock (s : State) (word : BitVec 32) : exec (.unlock word) s =
    if 128 ≤ (s.unlockBytes word).length ∧ 128 + (unlockItem (s.unlockBytes word)).num 24 4 ≤ (s.unlockBytes word).length ∧
      !s.unlockPort.unlockDone ∧ !s.coreHalted 2 ∧ !s.clk.mgmtReset
    then done ((s.unlockTaken word).unlockRun (s.unlockBytes word))
    else done (s.unlockTaken word) := by
  show execUnlock word s = _
  unfold execUnlock
  rw [s.jtagSelect_unlock]
  rfl

theorem exec_unlock_waits (s : State) (word : BitVec 32) (h : ¬ s.UnlockReady word) :
    exec (.unlock word) s = done (s.unlockTaken word) :=
  (exec_unlock s word).trans (if_neg (by simpa [State.UnlockReady] using h))

theorem exec_unlock_runs (s : State) (word : BitVec 32) (h : s.UnlockReady word) :
    exec (.unlock word) s = done ((s.unlockTaken word).unlockRun (s.unlockBytes word)) :=
  (exec_unlock s word).trans (if_pos (by simpa [State.UnlockReady] using h))

/-- UNLOCK has ended with a status: the answer stands in the port. -/
def UnlockEnds (j : JtagSt) (st : Nat) (t : State) : Prop := t.jtag = { j with unlockDone := true, unlockStatus := st }

theorem unlockEnds_settled {s u : State} (st : Nat) (h : u.jtag = s.jtag) : UnlockEnds s.jtag st (u.unlockEnd st).settle := by
  rw [UnlockEnds, State.settle_jtag, State.unlockEnd, h]

theorem State.unlockScope_settle (s : State) : s.settle.unlockScope = s.unlockScope :=
  State.unlockScope_of_reg (s.reg_settle_of_not_shown SEC_STATUS (by decide))

@[simp] theorem State.reg_unlockEnd (s : State) (st o : Nat) : (s.unlockEnd st).reg o = s.reg o := by
  simp only [State.reg, State.unlockEnd]

theorem State.unlockScope_unlockEnd (s : State) (st : Nat) : (s.unlockEnd st).unlockScope = s.unlockScope := rfl

theorem Item.slot_not_shown (it : Item) : SEC_SLOT it.slot ∉ shownRegs := by
  simp only [shownRegs, SEC_SLOT, PWR_STATUS, CFG_STATUS, GLB_STATUS, List.mem_cons, List.not_mem_nil, or_false]
  have := it.slot_lt
  omega

section PerformedItem

variable (s : State) (b : List Byte)

theorem State.unlockRun_descFault (st : Nat) (hdesc : s.descFault (unlockItem b) = some st) : s.unlockRun b = s.unlockEnd st := by
  simp only [State.unlockRun, hdesc]

variable (hdesc : s.descFault (unlockItem b) = none)
include hdesc

theorem State.unlockRun_other_opcode (hopc : (unlockItem b).opc ≠ opDebugUnlock) : s.unlockRun b = s.unlockEnd stRefused := by
  simp only [State.unlockRun, hdesc, if_pos hopc]

variable (hopc : (unlockItem b).opc = opDebugUnlock)
include hopc

theorem State.unlockRun_authFault (st : Nat) (hauth : s.authFault (unlockItem b) = some st) : s.unlockRun b = s.unlockEnd st := by
  simp only [State.unlockRun, hdesc, if_neg (not_not_intro hopc), hauth]

variable (hauth : s.authFault (unlockItem b) = none)
include hauth

theorem State.unlockRun_ends (hscope : (unlockItem b).num 28 1 = 0) :
    s.unlockRun b = (s.unlockAccept (unlockItem b)).endUnlock.unlockEnd stSuccess := by
  simp only [State.unlockRun, hdesc, if_neg (not_not_intro hopc), hauth, if_pos hscope]

theorem State.unlockRun_grants (hscope : (unlockItem b).num 28 1 ≠ 0)
    (hgood : Config.debugCert s.fuses.serial s.sec.ownerCert ((b.drop 128).take ((unlockItem b).num 24 4)) = true) :
    s.unlockRun b = ((s.unlockAccept (unlockItem b)).beginUnlock ((unlockItem b).num 28 1) ((unlockItem b).num 32 4)).unlockEnd stSuccess := by
  simp only [State.unlockRun, hdesc, if_neg (not_not_intro hopc), hauth, if_neg hscope, State.unlockAccept_by, if_pos hgood]

theorem State.unlockRun_denies (hscope : (unlockItem b).num 28 1 ≠ 0)
    (hbad : Config.debugCert s.fuses.serial s.sec.ownerCert ((b.drop 128).take ((unlockItem b).num 24 4)) = false) :
    s.unlockRun b = (s.unlockAccept (unlockItem b)).unlockEnd stRefused := by
  have hnot : ¬ Config.debugCert s.fuses.serial s.sec.ownerCert ((b.drop 128).take ((unlockItem b).num 24 4)) = true := by simp [hbad]
  simp only [State.unlockRun, hdesc, if_neg (not_not_intro hopc), hauth, if_neg hscope, State.unlockAccept_by, if_neg hnot]

/-- Scope 0 ends every unlock, and the counter is the slot's last. -/
theorem State.unlockRun_ends_settled (hscope : (unlockItem b).num 28 1 = 0) :
    UnlockEnds s.jtag stSuccess (s.unlockRun b).settle ∧ (s.unlockRun b).settle.unlockScope = 0 ∧
      (s.unlockRun b).settle.fld (SEC_SLOT (unlockItem b).slot) SEC_SLOT_LAST = (unlockItem b).counter := by
  rw [s.unlockRun_ends b hdesc hopc hauth hscope]
  generalize unlockItem b = it
  refine ⟨unlockEnds_settled stSuccess ?_, ?_, ?_⟩
  · rw [State.endUnlock_jtag, State.unlockAccept_jtag]
  · rw [State.unlockScope_settle, State.unlockScope_unlockEnd, State.unlockScope_endUnlock]
  · rw [State.fld_settle_of_not_shown _ _ _ it.slot_not_shown]
    rw [State.fld, State.reg_unlockEnd, State.endUnlock_slot _ _ it.slot_lt]
    exact s.unlockAccept_last it

/-- A certificate that is good opens what its scope names. -/
theorem State.unlockRun_grants_settled (hscope : (unlockItem b).num 28 1 ≠ 0)
    (hgood : Config.debugCert s.fuses.serial s.sec.ownerCert ((b.drop 128).take ((unlockItem b).num 24 4)) = true) :
    UnlockEnds s.jtag stSuccess (s.unlockRun b).settle ∧ (s.unlockRun b).settle.jtagOpen = natBit ((unlockItem b).num 28 1) 0 ∧
      (s.unlockRun b).settle.hostOpen = natBit ((unlockItem b).num 28 1) 1 ∧ Logs 0x000A s (s.unlockRun b).settle := by
  rw [s.unlockRun_grants b hdesc hopc hauth hscope hgood]
  generalize unlockItem b = it
  have hlog : Logs 0x000A s ((s.unlockAccept it).beginUnlock (it.num 28 1) (it.num 32 4)) := by
    obtain ⟨e, he, hcode⟩ := logs_beginUnlock (s.unlockAccept it) (it.num 28 1) (it.num 32 4)
    exact ⟨e, by rw [he, s.unlockAccept_evt], hcode⟩
  refine ⟨unlockEnds_settled stSuccess ?_, ?_, ?_, ?_⟩
  · rw [State.beginUnlock_jtag, State.unlockAccept_jtag]
  · rw [State.jtagOpen, State.fldOn, State.fld_settle_of_not_shown _ _ _ (by decide)]
    exact State.jtagOpen_beginUnlock _ _ _
  · rw [State.hostOpen, State.fldOn, State.fld_settle_of_not_shown _ _ _ (by decide)]
    exact State.hostOpen_beginUnlock _ _ _
  · exact Logs.settle (t := (State.unlockEnd _ _)) hlog

/-- Another certificate opens nothing. -/
theorem State.unlockRun_denies_settled (hscope : (unlockItem b).num 28 1 ≠ 0)
    (hbad : Config.debugCert s.fuses.serial s.sec.ownerCert ((b.drop 128).take ((unlockItem b).num 24 4)) = false) :
    UnlockEnds s.jtag stRefused (s.unlockRun b).settle ∧ (s.unlockRun b).settle.unlockScope = s.unlockScope := by
  rw [s.unlockRun_denies b hdesc hopc hauth hscope hbad]
  refine ⟨unlockEnds_settled stRefused (s.unlockAccept_jtag _), ?_⟩
  rw [State.unlockScope_settle, State.unlockScope_unlockEnd, State.unlockAccept_scope]

end PerformedItem

/-- An item that is not performed ends with its status and leaves every register. -/
theorem unlock_not_performed (s : State) (word : BitVec 32) (hready : s.UnlockReady word) (st : Nat)
    (hrun : (s.unlockTaken word).unlockRun (s.unlockBytes word) = (s.unlockTaken word).unlockEnd st) :
    Gives (.unlock word) s fun t => UnlockEnds (s.unlockHeld word) st t ∧ KeepsRegs [] s t := by
  have hregs : KeepsRegs [] s ((s.unlockTaken word).unlockEnd st) := (KeepsRegs.refl [] s).of_regs rfl
  exact gives_done ((exec_unlock_runs s word hready).trans (congrArg done hrun))
    ⟨unlockEnds_settled (s := s.unlockTaken word) st rfl, hregs.settle⟩

/-- Settles O60: each access of the host and each instruction of the port by its own lemma. -/
theorem hostAndJtagAccess : Obligations.HostAndJtagAccess := by
  unfold Obligations.HostAndJtagAccess
  refine ⟨fun s off size data hreach => ⟨?misfit, ?aligned, ?msix⟩, fun s off size path hreach hoff => ⟨fun hfit => ?readMisfit, ?readFits⟩,
    fun s cells => ⟨extest_drives s cells, extest_refused s cells, samplePreload_loads s cells⟩,
    fun s code => ⟨devinfo_loads s, bypass_other_code s code, bypass_selects s code, testLogicReset_detaches s⟩,
    fun s dr => ⟨dbgreg_refused s dr, dbgreg_writes_peek s dr, dbgreg_reads_serial s dr⟩, ?unlock⟩
  case misfit => exact bar0Write_misfit s off size data hreach
  case aligned =>
    intro hoff halign hcore hattach hready hop
    exact ⟨bar0Write_unlisted s off data hreach hoff halign hcore hattach hready hop,
      bar0Write_rwa s off data hreach hoff halign hcore hattach hready hop,
      bar0Write_fields s off data hreach hoff halign hcore hattach hready hop⟩
  case msix => exact bar0Write_msix_half s off data hreach
  case readMisfit => exact gives_regsOnly _ (exec_rclRead_misfit s off size path hreach hoff hfit) rfl
  case readFits =>
    intro hfit o hready hcore haon hdebug hwdog answer
    exact ⟨rclRead_peek s off size path hreach hoff hfit hready hcore haon hdebug hwdog,
      rclRead_clears s off size path hreach hoff hfit hready hcore haon hdebug hwdog⟩
  case unlock =>
    intro s word old b it scope ready ends
    have hruns (h : ready) := exec_unlock_runs s word h
    refine ⟨fun h => gives_regsOnly _ (exec_unlock_waits s word h) rfl, fun h st hdesc => ?_, fun h hdesc hopc => ⟨fun st hauth => ?_, fun hauth =>
      ⟨fun hscope => ?_, fun hscope _ hgood => ?_, fun hscope hbad => ?_⟩⟩, fun h hdesc hopc => ?_⟩
    · exact unlock_not_performed s word h st (State.unlockRun_descFault (s.unlockTaken word) _ st hdesc)
    · exact unlock_not_performed s word h st (State.unlockRun_authFault (s.unlockTaken word) _ hdesc hopc st hauth)
    · exact gives_done (hruns h) (State.unlockRun_ends_settled (s.unlockTaken word) _ hdesc hopc hauth hscope)
    · exact gives_done (hruns h) (State.unlockRun_grants_settled (s.unlockTaken word) _ hdesc hopc hauth hscope hgood)
    · exact gives_done (hruns h) (State.unlockRun_denies_settled (s.unlockTaken word) _ hdesc hopc hauth hscope hbad)
    · exact unlock_not_performed s word h stRefused (State.unlockRun_other_opcode (s.unlockTaken word) _ hdesc hopc)
end Sys2Proof.Machine
end

section
/-!
SUPPORT. The statement of the family 02_cells_and_dunes: what a switch leaves of an erg, how isolation follows FORCE and RELEASE, and how the
fabric's error registers clear.
-/
namespace Sys2Proof.Machine

/-! ### An erg and its registers under the shared updates -/

@[simp] theorem State.erg_setErg_same (s : State) (i : Nat) (e : ErgSt) : (s.setErg i e).erg i = e := SMap.get_set_same _ _ _ _

theorem State.erg_setErg_ne (s : State) {i j : Nat} (e : ErgSt) (h : j ≠ i) : (s.setErg i e).erg j = s.erg j := SMap.get_set_ne _ _ _ _ _ h

theorem State.erg_of_fab {s t : State} (h : t.fab = s.fab) (i : Nat) : t.erg i = s.erg i := by rw [State.erg, State.erg, h]

@[simp] theorem State.erg_setFld (s : State) (off : Nat) (f : Fld) (x i : Nat) : (s.setFld off f x).erg i = s.erg i :=
  State.erg_of_fab (s.setFld_fab off f x) i
@[simp] theorem State.erg_showSettle (s : State) (i j : Nat) : (s.showSettle j).erg i = s.erg i := by
  unfold State.showSettle
  exact s.erg_setFld _ _ _ i
@[simp] theorem State.erg_settle (s : State) (i : Nat) : s.settle.erg i = s.erg i := State.erg_of_fab s.settle_fab i

theorem State.fld_of_reg {s t : State} {o : Nat} (h : t.reg o = s.reg o) (f : Fld) : t.fld o f = s.fld o f := by rw [State.fld, State.fld, h]

theorem State.ergActive_of_reg {s t : State} {i : Nat} (h : t.reg (FAB_ERG_CTX i) = s.reg (FAB_ERG_CTX i)) : t.ergActive i = s.ergActive i := by
  rw [State.ergActive, State.ergActive, State.fldOn, State.fldOn, State.fld_of_reg h, State.fld_of_reg h]

theorem State.planeState_of_reg {s t : State} {i : Nat} (h : t.reg (FAB_ERG_PLANES i) = s.reg (FAB_ERG_PLANES i)) (p : Nat) :
    t.planeState i p = s.planeState i p := by
  simp only [State.planeState, State.fld_of_reg h]

theorem ErgSt.plane_setPlane (e : ErgSt) (p q : Nat) (v : PlaneSt) : (e.setPlane p v).plane q = if q = p then v else e.plane q :=
  SMap.get_set _ _ _ _ _

/-- The registers in which a switch shows on its erg. -/
def switchRegs (i : Nat) : List Nat := [FAB_ERG_CTX i, FAB_ERG_STATUS i, FAB_ERG_PLANES i]

theorem switchRegs_ne_event {i o : Nat} (h : o ∈ switchRegs i) : o ≠ EVT_TAIL ∧ o ≠ EVT_LOST := by
  simp only [switchRegs, FAB_ERG_CTX, FAB_ERG_STATUS, FAB_ERG_PLANES, List.mem_cons, List.not_mem_nil, or_false] at h
  simp only [EVT_TAIL, EVT_LOST]
  omega

theorem switchRegs_ne_lock {i o : Nat} (h : o ∈ switchRegs i) (n : Nat) : o ≠ FAB_ERG_LOCK n := by
  simp only [switchRegs, FAB_ERG_CTX, FAB_ERG_STATUS, FAB_ERG_PLANES, List.mem_cons, List.not_mem_nil, or_false] at h
  simp only [FAB_ERG_LOCK]
  omega

theorem switchRegs_not_shown {i o : Nat} (h : o ∈ switchRegs i) : o ∉ shownRegs := by
  simp only [switchRegs, FAB_ERG_CTX, FAB_ERG_STATUS, FAB_ERG_PLANES, List.mem_cons, List.not_mem_nil, or_false] at h
  simp only [shownRegs, PWR_STATUS, CFG_STATUS, GLB_STATUS, List.mem_cons, List.not_mem_nil, or_false]
  omega

theorem ergIso_not_shown (i : Nat) : FAB_ERG_ISO i ∉ shownRegs := by
  simp only [shownRegs, FAB_ERG_ISO, PWR_STATUS, CFG_STATUS, GLB_STATUS, List.mem_cons, List.not_mem_nil, or_false]
  omega

theorem ergStatus_ne_ctx (i : Nat) : FAB_ERG_STATUS i ≠ FAB_ERG_CTX i := by simp only [FAB_ERG_STATUS, FAB_ERG_CTX]; omega
theorem ergStatus_ne_planes (i : Nat) : FAB_ERG_STATUS i ≠ FAB_ERG_PLANES i := by simp only [FAB_ERG_STATUS, FAB_ERG_PLANES]; omega
theorem ergPlanes_ne_ctx (i : Nat) : FAB_ERG_PLANES i ≠ FAB_ERG_CTX i := by simp only [FAB_ERG_PLANES, FAB_ERG_CTX]; omega
theorem ergIso_ne_status (i : Nat) : FAB_ERG_ISO i ≠ FAB_ERG_STATUS i := by simp only [FAB_ERG_ISO, FAB_ERG_STATUS]; omega

/-- A plane's state reads as it was put: PLANES holds four bits for each plane (R61). -/
theorem State.planeState_setPlaneState_same (s : State) (i p st : Nat) (hp : p < 8) (hst : st < 16) :
    (s.setPlaneState i p st).planeState i p = st := by
  have hpow : (16 : Nat) ^ p = 2 ^ (4 * p) := by rw [Nat.pow_mul]
  let f : Fld := ⟨4 * p, 4⟩
  let v := s.fld (FAB_ERG_PLANES i) FAB_ERG_PLANES_STATE
  have hv : v < 2 ^ 64 := Nat.lt_of_lt_of_le (natBits_lt _ _ _) (by decide)
  have hput : natBits ((v - natBits v (4 * p) 4 * 2 ^ (4 * p) + st * 2 ^ (4 * p)) % 2 ^ 64) (4 * p) 4 = st := by
    have h := Fld.get_put_same f (BitVec.ofNat 64 v) st (by show 4 * p + 4 ≤ 64; omega)
    simpa only [Fld.get, Fld.put, BitVec.toNat_ofNat, Nat.mod_eq_of_lt hv, f, Nat.mod_eq_of_lt (show st < 2 ^ 4 from hst)] using h
  rw [natBits_low _ _ _ 64 (by omega)] at hput
  rw [State.planeState, State.setPlaneState, State.fld_setFld_same _ _ _ _ (by decide), hpow,
    natBits_low _ _ _ FAB_ERG_PLANES_STATE.w (by show 4 * p + 4 ≤ 32; omega)]
  exact hput

/-! ### Frames with an erg's state -/

theorem RegsOnly.setErg {l : List Nat} {s t : State} (h : RegsOnly l s t) (i : Nat) (e : ErgSt) : RegsOnly l (s.setErg i e) (t.setErg i e) := by
  have hfab : t.fab = s.fab := h.1.read State.fab (fun _ _ => rfl)
  refine ⟨?_, (h.2.of_regs rfl).from_regs rfl⟩
  show OnlyRegs _ { t with fab := _ }
  rw [hfab]
  exact congrArg (fun u : State => { u with fab := { s.fab with ergs := s.fab.ergs.set (fun _ => {}) i e } }) h.1

/-- A frame of registers beside another fabric state, seen from the state before both. -/
theorem RegsOnly.but_fab {l : List Nat} {s t : State} {f : FabSt} (h : RegsOnly l { s with fab := f } t) :
    KeepsRegs l s t ∧ { t with regs := s.regs, fab := s.fab } = s :=
  ⟨h.2.from_regs rfl, congrArg (fun u : State => { u with fab := s.fab }) h.1⟩

/-! ### A request for a switch (R65) -/

theorem State.reg_writeReg_ne (s : State) (off o : Nat) (v : Data) (h : o ≠ off) : (s.writeReg off v).reg o = s.reg o := by
  unfold State.writeReg
  split
  · exact s.reg_setReg_ne off o _ h
  · rfl

/-- A request that is not refused joins the erg's requests. -/
theorem State.askSwitch_joins (s : State) (i : Nat) (src : SwSrc) (target : Nat) (htwin : s.isTwin i = false) (hwrite : s.activeWrite i = false) :
    s.askSwitch i src target 1 = s.setErg i { s.erg i with pend := (s.erg i).pend ++ [{ src := src, target := target % 8, left := 1 }] } := by
  rw [State.activeWrite] at hwrite
  simp only [State.askSwitch, htwin, hwrite, Bool.false_eq_true, false_and, if_false, ite_self]

theorem State.ctxWrite_joins (s : State) (i : Nat) (data : Data) (hgo : FAB_ERG_CTX_GO.on data = true) (hreserved : s.ergReserved i = false)
    (htwin : (s.writeReg (FAB_ERG_CTX i) data).isTwin i = false) (hwrite : s.activeWrite i = false) :
    s.ctxWrite i data = (s.writeReg (FAB_ERG_CTX i) data).setErg i { s.erg i with
      pend := (s.erg i).pend ++ [{ src := .register, target := FAB_ERG_CTX_TARGET.get data % 8, left := 1 }] } := by
  have hstatus (f : Fld) := State.fld_of_reg (s.reg_writeReg_ne _ _ data (ergStatus_ne_ctx i)) f
  have hreserved' : (s.writeReg (FAB_ERG_CTX i) data).ergReserved i = false := by
    rw [State.ergReserved, State.fldOn, hstatus]
    exact hreserved
  have hwrite' : (s.writeReg (FAB_ERG_CTX i) data).activeWrite i = false := by
    rw [State.activeWrite, State.fldOn, hstatus]
    exact hwrite
  simp only [State.ctxWrite, hgo, hreserved', Bool.false_eq_true, if_true, if_false]
  rw [State.askSwitch_joins _ _ _ _ htwin hwrite', State.erg_of_fab (State.writeReg_fab s _ data)]

theorem ctxGo_joins (s : State) (i : ErgNo) (data : Data) (hready : s.ready (FAB_ERG_CTX i) = true) (hgo : FAB_ERG_CTX_GO.on data = true)
    (hreserved : s.ergReserved i = false) (htwin : (s.writeReg (FAB_ERG_CTX i) data).isTwin i = false) (hwrite : s.activeWrite i = false) :
    Gives (.ctxGo i data) s (RegsOnly [FAB_ERG_CTX i] (s.setErg i { s.erg i with
      pend := (s.erg i).pend ++ [{ src := .register, target := FAB_ERG_CTX_TARGET.get data % 8, left := 1 }] })) := by
  refine gives_done (t := s.ctxWrite i data) (congrArg done (s.regWrite_ready _ _ _ hready)) ?_
  rw [s.ctxWrite_joins i data hgo hreserved htwin hwrite]
  exact (((RegsOnly.refl _ s).writeReg _ _ (by simp)).setErg i _).settle

/-! ### The planes through a switch (R62, R64) -/

/-- STATUS of an erg, the switch it owes and the frames of its planes are as before. -/
structure KeepsFrames (i : Nat) (s t : State) : Prop where
  status : t.reg (FAB_ERG_STATUS i) = s.reg (FAB_ERG_STATUS i)
  due : (t.erg i).due = (s.erg i).due
  frames : ∀ p, ((t.erg i).plane p).frames = ((s.erg i).plane p).frames

namespace KeepsFrames

variable {i : Nat} {s t u : State}

theorem refl (i : Nat) (s : State) : KeepsFrames i s s := ⟨rfl, rfl, fun _ => rfl⟩

theorem trans (h : KeepsFrames i s t) (k : KeepsFrames i t u) : KeepsFrames i s u :=
  ⟨k.status.trans h.status, k.due.trans h.due, fun p => (k.frames p).trans (h.frames p)⟩

theorem of_erg (hregs : t.regs = s.regs) (herg : t.erg i = s.erg i) : KeepsFrames i s t :=
  ⟨by simp only [State.reg, hregs], by rw [herg], fun p => by rw [herg]⟩

theorem of_reg_fab (hstatus : t.reg (FAB_ERG_STATUS i) = s.reg (FAB_ERG_STATUS i)) (hfab : t.fab = s.fab) : KeepsFrames i s t :=
  have herg := State.erg_of_fab hfab i
  ⟨hstatus, by rw [herg], fun p => by rw [herg]⟩

theorem setErg {e : ErgSt} (hregs : t.regs = s.regs) (hdue : e.due = (s.erg i).due) (hplanes : e.planes = (s.erg i).planes) :
    KeepsFrames i s (t.setErg i e) := by
  refine ⟨congrArg (fun m : SMap Data => m.get regReset (FAB_ERG_STATUS i)) hregs, ?_, fun p => ?_⟩
  · rw [State.erg_setErg_same, hdue]
  · rw [State.erg_setErg_same, ErgSt.plane, ErgSt.plane, hplanes]

theorem setPlane (s : State) (c : Nat) (v : PlaneSt) (hv : v.frames = ((s.erg i).plane c).frames) :
    KeepsFrames i s (s.setErg i ((s.erg i).setPlane c v)) := by
  refine ⟨rfl, ?_, fun p => ?_⟩
  · rw [State.erg_setErg_same]
    rfl
  · rw [State.erg_setErg_same, ErgSt.plane_setPlane]
    split
    case isTrue h => rw [hv, h]
    case isFalse => rfl

theorem setPlaneState (s : State) (p st : Nat) : KeepsFrames i s (s.setPlaneState i p st) :=
  of_reg_fab (s.reg_setFld_ne _ _ _ _ (ergStatus_ne_planes i)) rfl

theorem dropClaims (s : State) (i c : Nat) : KeepsFrames i s (s.dropClaims i c) := of_erg rfl rfl

theorem copyDirs (s : State) (i : Nat) (pl : PlaneSt) : KeepsFrames i s (s.copyDirs i pl) := of_erg rfl rfl

theorem saveOut (s : State) (i c : Nat) : KeepsFrames i s (s.saveOut i c) := by
  unfold State.saveOut
  split
  case isTrue =>
    dsimp only
    split
    · refine KeepsFrames.trans (KeepsFrames.trans ?_ (dropClaims _ _ _)) (setPlaneState _ _ _)
      exact setPlane s c _ rfl
    · split
      · refine KeepsFrames.trans ?_ (setPlaneState _ _ _)
        exact setPlane s c _ rfl
      · exact setPlane s c _ rfl
  case isFalse => exact refl i s

theorem applyStaging (s : State) (i c : Nat) : KeepsFrames i s (s.applyStaging i c) := by
  unfold State.applyStaging
  dsimp only
  split
  · split
    · exact setErg rfl rfl rfl
    · exact refl i s
  · exact refl i s

end KeepsFrames

/-- Bringing a context in marks its plane VALID, takes over its directions, and shows it active. -/
theorem State.bringIn_eq (s : State) (i c : Nat) (keepIso : Bool) : ∃ u pl, KeepsFrames i s u ∧ s.bringIn i c keepIso =
    ((u.setPlaneState i c plValid).copyDirs i pl).setFlds (FAB_ERG_CTX i) [(FAB_ERG_CTX_NONE, 0), (FAB_ERG_CTX_ACTIVE, c)] := by
  refine ⟨_, _, ?_, rfl⟩
  split
  · exact KeepsFrames.setErg rfl rfl rfl
  · refine KeepsFrames.trans ?_ (KeepsFrames.applyStaging _ _ _)
    refine KeepsFrames.trans ?_ (KeepsFrames.setPlane _ _ _ ?_)
    · exact KeepsFrames.setErg rfl rfl rfl
    · rw [State.erg_setErg_same]
      rfl

theorem State.bringIn_frames (s : State) (i c : Nat) (keepIso : Bool) : KeepsFrames i s (s.bringIn i c keepIso) := by
  obtain ⟨u, pl, hu, heq⟩ := s.bringIn_eq i c keepIso
  rw [heq]
  exact ((hu.trans (KeepsFrames.setPlaneState _ _ _)).trans (KeepsFrames.copyDirs _ _ _)).trans
    (KeepsFrames.of_reg_fab (State.reg_setFlds_ne _ _ _ _ (ergStatus_ne_ctx i)) rfl)

theorem State.bringIn_active (s : State) (i c : Nat) (keepIso : Bool) (hc : c < 8) : (s.bringIn i c keepIso).ergActive i = some c := by
  obtain ⟨u, pl, -, heq⟩ := s.bringIn_eq i c keepIso
  have hnone : (s.bringIn i c keepIso).fld (FAB_ERG_CTX i) FAB_ERG_CTX_NONE = 0 := by
    rw [heq, State.fld_setFlds_same]
    simp only [List.foldl_cons, List.foldl_nil]
    rw [Fld.get_put_ne _ _ _ _ (by decide) (by decide), Fld.get_put_same _ _ _ (by decide)]
    rfl
  have hactive : (s.bringIn i c keepIso).fld (FAB_ERG_CTX i) FAB_ERG_CTX_ACTIVE = c := by
    rw [heq, State.fld_setFlds_same]
    simp only [List.foldl_cons, List.foldl_nil]
    rw [Fld.get_put_same _ _ _ (by decide)]
    exact Nat.mod_eq_of_lt hc
  simp [State.ergActive, State.fldOn, hnone, hactive]

theorem State.bringIn_valid (s : State) (i c : Nat) (keepIso : Bool) (hc : c < 8) : (s.bringIn i c keepIso).planeState i c = plValid := by
  obtain ⟨u, pl, -, heq⟩ := s.bringIn_eq i c keepIso
  rw [heq, State.planeState_of_reg (State.reg_setFlds_ne _ _ _ _ (ergPlanes_ne_ctx i))]
  exact u.planeState_setPlaneState_same i c plValid hc (by decide)

/-! ### The switch in three parts (R64, R65, R71) -/

/-- The due switch taken: the outgoing context saved and the incoming one brought in. -/
def State.switchPlanes (s : State) (i : Nat) (r : SwReq) : State :=
  let u := s.setErg i { s.erg i with due := none }
  (match s.ergActive i with
    | some a => u.saveOut i a
    | none => u).bringIn i r.target (s.ergActive i).isSome

/-- The switch as the erg's own state and its STATUS show it. -/
def State.switchShown (s : State) (i : Nat) (r : SwReq) (out : Option Nat) : State :=
  let u := (s.setErg i { s.erg i with settle := settleOf ((s.erg i).plane r.target).settings, forceEnd := false, loadGate := false,
                                      newContent := false, swAt := s.time.fck, swFrom := out }).showSettle i
  (u.wrapFld (FAB_ERG_STATUS i) FAB_ERG_STATUS_SWITCHES 1).setFld (FAB_ERG_STATUS i) FAB_ERG_STATUS_LAST_SRC (swCode r.src)

/-- The switch told to whoever follows it: the twin, the scheduler's item, and the linked ergs. -/
def State.switchTells (s : State) (i : Nat) (r : SwReq) : State :=
  let s := if s.paired i ∧ i < 64 then s.askSwitch (i + 64) .lockstep r.target 1 else s.showPaired (i % 64)
  let s := if r.src == SwSrc.dispatch then (s.journalMark (keyTask i) 256).finishSt (keyTask i) stSuccess else s
  s.linkAsks i r.target

theorem State.doSwitch_of_due (s : State) (i : Nat) (r : SwReq) (h : (s.erg i).due = some r) :
    s.doSwitch i = ((s.switchPlanes i r).switchShown i r (s.ergActive i)).switchTells i r := by
  unfold State.doSwitch
  rw [h]
  show _ = State.switchTells (State.switchShown (State.bringIn _ _ _ _) _ _ _) _ _
  cases s.ergActive i <;> rfl

theorem State.switchPlanes_keeps (s : State) (i : Nat) (r : SwReq) :
    KeepsFrames i (s.setErg i { s.erg i with due := none }) (s.switchPlanes i r) := by
  unfold State.switchPlanes
  dsimp only
  refine KeepsFrames.trans ?_ (State.bringIn_frames _ _ _ _)
  split
  · exact KeepsFrames.saveOut _ _ _
  · exact KeepsFrames.refl _ _

theorem State.switchPlanes_due (s : State) (i : Nat) (r : SwReq) : ((s.switchPlanes i r).erg i).due = none := by
  rw [(s.switchPlanes_keeps i r).due, State.erg_setErg_same]

theorem State.switchPlanes_settings (s : State) (i : Nat) (r : SwReq) (p : Nat) :
    (((s.switchPlanes i r).erg i).plane p).settings = ((s.erg i).plane p).settings := by
  unfold PlaneSt.settings PlaneSt.frame
  rw [(s.switchPlanes_keeps i r).frames p, State.erg_setErg_same]
  rfl

/-- What the shown part writes is STATUS alone, beside the erg's state. -/
theorem State.reg_switchShown_ne (s : State) (i : Nat) (r : SwReq) (out : Option Nat) {o : Nat} (h : o ≠ FAB_ERG_STATUS i) :
    (s.switchShown i r out).reg o = s.reg o := by
  unfold State.switchShown
  dsimp only
  rw [State.reg_setFld_ne _ _ _ _ _ h, State.wrapFld, State.reg_setFld_ne _ _ _ _ _ h, State.showSettle, State.reg_setFld_ne _ _ _ _ _ h]
  rfl

theorem State.switchShown_erg (s : State) (i : Nat) (r : SwReq) (out : Option Nat) : (s.switchShown i r out).erg i =
    { s.erg i with settle := settleOf ((s.erg i).plane r.target).settings, forceEnd := false, loadGate := false, newContent := false,
                   swAt := s.time.fck, swFrom := out } := by
  simp only [State.switchShown, State.wrapFld, State.erg_setFld, State.erg_showSettle, State.erg_setErg_same]

theorem State.switchShown_switches (s : State) (i : Nat) (r : SwReq) (out : Option Nat) :
    (s.switchShown i r out).fld (FAB_ERG_STATUS i) FAB_ERG_STATUS_SWITCHES =
      (s.fld (FAB_ERG_STATUS i) FAB_ERG_STATUS_SWITCHES + 1) % 2 ^ FAB_ERG_STATUS_SWITCHES.w := by
  unfold State.switchShown
  dsimp only
  rw [State.fld_setFld_other _ _ _ _ _ (by decide) (by decide), State.wrapFld, State.fld_setFld_same _ _ _ _ (by decide),
    State.showSettle, State.fld_setFld_other _ _ _ _ _ (by decide) (by decide)]
  rfl

theorem State.switchShown_lastSrc (s : State) (i : Nat) (r : SwReq) (out : Option Nat) :
    (s.switchShown i r out).fld (FAB_ERG_STATUS i) FAB_ERG_STATUS_LAST_SRC = swCode r.src := by
  unfold State.switchShown
  dsimp only
  rw [State.fld_setFld_same _ _ _ _ (by decide)]
  cases r.src <;> rfl

/-! ### What telling a switch leaves of the erg -/

/-- An erg's switch registers and its state but for its pending requests are as before. -/
structure KeepsSwitch (i : Nat) (s t : State) : Prop where
  regs : ∀ o ∈ switchRegs i, t.reg o = s.reg o
  erg : { t.erg i with pend := (s.erg i).pend } = s.erg i

namespace KeepsSwitch

variable {i : Nat} {s t u : State}

theorem refl (i : Nat) (s : State) : KeepsSwitch i s s := ⟨fun _ _ => rfl, rfl⟩

theorem trans (h : KeepsSwitch i s t) (k : KeepsSwitch i t u) : KeepsSwitch i s u := by
  refine ⟨fun o ho => (k.regs o ho).trans (h.regs o ho), ?_⟩
  have hk := congrArg (fun e : ErgSt => { e with pend := (s.erg i).pend }) k.erg
  exact Eq.trans hk h.erg

theorem of_fab (hregs : ∀ o ∈ switchRegs i, t.reg o = s.reg o) (hfab : t.fab = s.fab) : KeepsSwitch i s t :=
  ⟨hregs, by rw [State.erg_of_fab hfab]⟩

theorem settle (h : KeepsSwitch i s t) : KeepsSwitch i s t.settle :=
  h.trans (of_fab (fun o ho => t.reg_settle_of_not_shown o (switchRegs_not_shown ho)) (State.settle_fab t))

theorem raiseReg (s : State) (c k v off : Nat) : KeepsSwitch i s (s.raiseReg c k v off) :=
  of_fab (fun o ho => s.reg_raiseReg c k v off o (switchRegs_ne_event ho).1 (switchRegs_ne_event ho).2) (State.raiseReg_fab s c k v off)

theorem showPaired (s : State) (n : Nat) : KeepsSwitch i s (s.showPaired n) :=
  of_fab (fun o ho => s.reg_setFld_ne _ o _ _ (switchRegs_ne_lock ho n)) rfl

theorem finishSt (s : State) (k st : Nat) : KeepsSwitch i s (s.finishSt k st) := by
  unfold State.finishSt State.finish
  split
  · exact of_fab (fun _ _ => rfl) rfl
  · exact refl i s

theorem journalPut (s : State) (e : Nat) (j : JEntry) : KeepsSwitch i s (s.journalPut e j) :=
  of_fab (fun o _ => State.reg_hostWrite _ _ _ o) (State.hostWrite_fab _ _ _)

theorem journalMark (s : State) (k bits : Nat) : KeepsSwitch i s (s.journalMark k bits) := by
  unfold State.journalMark
  split
  · dsimp only
    split
    · exact journalPut s _ _
    · exact refl i s
  · exact refl i s

/-- Only the refusal of a register request shows in the erg's CTX. -/
theorem refuseSwitch (s : State) (j : Nat) {src : SwSrc} (busy : Bool) (hsrc : src ≠ .register) : KeepsSwitch i s (s.refuseSwitch j src busy) := by
  cases src with
  | register => exact absurd rfl hsrc
  | dispatch => exact finishSt s _ _
  | lockstep => exact (raiseReg s _ _ _ _).trans (showPaired _ _)
  | flag => exact raiseReg s _ _ _ _
  | link => exact raiseReg s _ _ _ _

theorem setPend (s : State) (j : Nat) (l : List SwReq) : KeepsSwitch i s (s.setErg j { s.erg j with pend := l }) := by
  refine ⟨fun _ _ => rfl, ?_⟩
  by_cases h : i = j
  · rw [h, State.erg_setErg_same]
  · rw [State.erg_setErg_ne s _ h]

theorem askSwitch (s : State) (j : Nat) {src : SwSrc} (target left : Nat) (hsrc : src ≠ .register) :
    KeepsSwitch i s (s.askSwitch j src target left) := by
  unfold State.askSwitch
  dsimp only
  split
  · exact refuseSwitch s j true hsrc
  · split
    · exact refuseSwitch s j true hsrc
    · exact setPend s j _

theorem linkAsks (s : State) (j target : Nat) : KeepsSwitch i s (s.linkAsks j target) := by
  unfold State.linkAsks
  dsimp only
  refine List.foldlRecOn _ _ (refl i s) (fun u hu c _ => ?_)
  split
  · split
    · exact hu.trans (askSwitch u _ _ _ (by decide))
    · exact hu
  · exact hu

theorem switchTells (s : State) (j : Nat) (r : SwReq) : KeepsSwitch i s (s.switchTells j r) := by
  unfold State.switchTells
  dsimp only
  refine KeepsSwitch.trans ?_ (linkAsks _ _ _)
  have htwin : KeepsSwitch i s (if s.paired j ∧ j < 64 then s.askSwitch (j + 64) .lockstep r.target 1 else s.showPaired (j % 64)) := by
    split
    · exact askSwitch s _ _ _ (by decide)
    · exact showPaired s _
  split
  · exact (htwin.trans (journalMark _ _ _)).trans (finishSt _ _ _)
  · exact htwin

end KeepsSwitch

theorem switchEdge_switches (s : State) (i : ErgNo) (r : SwReq) (hdue : (s.erg i).due = some r) (htarget : r.target < 8) :
    Gives (.switchEdge i) s fun t => t.ergActive i = some r.target ∧ t.planeState i r.target = plValid ∧ (t.erg i).due = none ∧
      (t.erg i).settle = settleOf ((s.erg i).plane r.target).settings ∧ (t.erg i).swFrom = s.ergActive i ∧
      t.fld (FAB_ERG_STATUS i) FAB_ERG_STATUS_SWITCHES =
        (s.fld (FAB_ERG_STATUS i) FAB_ERG_STATUS_SWITCHES + 1) % 2 ^ FAB_ERG_STATUS_SWITCHES.w ∧
      t.fld (FAB_ERG_STATUS i) FAB_ERG_STATUS_LAST_SRC = swCode r.src := by
  refine gives_done (congrArg done (s.doSwitch_of_due i r hdue)) ?_
  obtain ⟨hregs, herg⟩ := (KeepsSwitch.switchTells (i := i) ((s.switchPlanes i r).switchShown i r (s.ergActive i)) i r).settle
  have hctx := hregs (FAB_ERG_CTX i) (by simp [switchRegs])
  have hstatus := hregs (FAB_ERG_STATUS i) (by simp [switchRegs])
  have hplanes := hregs (FAB_ERG_PLANES i) (by simp [switchRegs])
  rw [State.switchShown_erg] at herg
  refine ⟨?active, ?valid, ?due, ?settle, ?outgoing, ?switches, ?source⟩
  case active =>
    rw [State.ergActive_of_reg hctx, State.ergActive_of_reg (State.reg_switchShown_ne _ _ _ _ (ergStatus_ne_ctx i).symm)]
    exact State.bringIn_active _ _ _ _ htarget
  case valid =>
    rw [State.planeState_of_reg hplanes, State.planeState_of_reg (State.reg_switchShown_ne _ _ _ _ (ergStatus_ne_planes i).symm)]
    exact State.bringIn_valid _ _ _ _ htarget
  case due => exact (congrArg ErgSt.due herg).trans (s.switchPlanes_due i r)
  case settle => exact (congrArg ErgSt.settle herg).trans (congrArg settleOf (s.switchPlanes_settings i r r.target))
  case outgoing => exact congrArg ErgSt.swFrom herg
  case switches =>
    rw [State.fld_of_reg hstatus, State.switchShown_switches, State.fld_of_reg (s.switchPlanes_keeps i r).status]
    rfl
  case source => rw [State.fld_of_reg hstatus, State.switchShown_lastSrc]

/-! ### Settling and isolation (R70 to R72, R562) -/

theorem settleEnd_ends (s : State) (i : ErgNo) (h : (s.erg i).settle = .count 0) :
    Gives (.settleEnd i) s fun t => t.fld (FAB_ERG_STATUS i) FAB_ERG_STATUS_SETTLE = 0 ∧
      RegsOnly [FAB_ERG_STATUS i] (s.setErg i { s.erg i with settle := .none, readySeen := false }) t := by
  have hend : s.settleEnd i = (s.setErg i { s.erg i with settle := .none, readySeen := false }).showSettle i := by
    simp [State.settleEnd, h]
  refine gives_done (congrArg done hend) ⟨?_, ((RegsOnly.refl _ _).setFld _ _ _ (by simp)).settle⟩
  rw [State.fld_settle_of_not_shown _ _ _ (switchRegs_not_shown (i := i) (by simp [switchRegs])), State.showSettle,
    State.fld_setFld_same _ _ _ _ (by decide), State.erg_setErg_same]
  rfl

theorem State.forced_settle (s : State) (i : Nat) : s.settle.forced i = s.forced i := by
  rw [State.forced, State.fldOn, s.fld_settle_of_not_shown _ _ (ergIso_not_shown i)]
  rfl

theorem State.forced_setFld (s : State) (i x : Nat) : (s.setFld (FAB_ERG_ISO i) FAB_ERG_ISO_FORCE x).forced i = (x % 2 != 0) := by
  rw [State.forced, State.fldOn, State.fld_setFld_same _ _ _ _ (by decide)]
  rfl

/-- FORCE put beside another state of the erg. -/
theorem forcePut_settled (s : State) (i x : Nat) (e : ErgSt) :
    (((s.setFld (FAB_ERG_ISO i) FAB_ERG_ISO_FORCE x).setErg i e).settle.forced i = (x % 2 != 0)) ∧
      RegsOnly [FAB_ERG_ISO i] (s.setErg i e) ((s.setFld (FAB_ERG_ISO i) FAB_ERG_ISO_FORCE x).setErg i e).settle :=
  ⟨(State.forced_settle _ i).trans (s.forced_setFld i x), (((RegsOnly.refl _ s).setFld _ _ _ (by simp)).setErg i e).settle⟩

section IsoWrite

variable (s : State) (i : Nat) (data : Data)

theorem State.isoWrite_sets (hrelease : FAB_ERG_ISO_RELEASE.on data = false) (hforce : FAB_ERG_ISO_FORCE.on data = true) :
    s.isoWrite i data = (s.setFld (FAB_ERG_ISO i) FAB_ERG_ISO_FORCE 1).setErg i { s.erg i with forceEnd := false, relEnd := false } := by
  simp [State.isoWrite, hrelease, hforce]

theorem State.isoWrite_clears (hrelease : FAB_ERG_ISO_RELEASE.on data = false) (hforce : FAB_ERG_ISO_FORCE.on data = false)
    (hforced : s.forced i = true) : s.isoWrite i data = (s.setFld (FAB_ERG_ISO i) FAB_ERG_ISO_FORCE 0).setErg i
      { s.erg i with forceEnd := !(s.erg i).loadGate && (s.ergActive i).isSome } := by
  simp [State.isoWrite, hrelease, hforce, hforced]

theorem State.isoWrite_releases (hrelease : FAB_ERG_ISO_RELEASE.on data = true) (hwrite : s.activeWrite i = false) :
    s.isoWrite i data = ((s.setFld (FAB_ERG_ISO i) FAB_ERG_ISO_FORCE 0).setErg i
      { s.erg i with settle := .none, forceEnd := false, readySeen := false, relEnd := (s.erg i).newContent }).showSettle i := by
  simp [State.isoWrite, hrelease, hwrite]

end IsoWrite

theorem isoForceSet_sets (s : State) (i : ErgNo) (data : Data) (hready : s.ready (FAB_ERG_ISO i) = true)
    (hrelease : FAB_ERG_ISO_RELEASE.on data = false) (hforce : FAB_ERG_ISO_FORCE.on data = true) :
    Gives (.isoForceSet i data) s fun t => t.forced i = true ∧
      RegsOnly [FAB_ERG_ISO i] (s.setErg i { s.erg i with forceEnd := false, relEnd := false }) t :=
  gives_done (congrArg done ((s.regWrite_ready _ _ _ hready).trans (s.isoWrite_sets i data hrelease hforce))) (forcePut_settled s i 1 _)

theorem isoForceClear_clears (s : State) (i : ErgNo) (data : Data) (hready : s.ready (FAB_ERG_ISO i) = true)
    (hrelease : FAB_ERG_ISO_RELEASE.on data = false) (hforce : FAB_ERG_ISO_FORCE.on data = false) (hforced : s.forced i = true) :
    Gives (.isoForceClear i data) s fun t => t.forced i = false ∧
      RegsOnly [FAB_ERG_ISO i] (s.setErg i { s.erg i with forceEnd := !(s.erg i).loadGate && (s.ergActive i).isSome }) t :=
  gives_done (congrArg done ((s.regWrite_ready _ _ _ hready).trans (s.isoWrite_clears i data hrelease hforce hforced))) (forcePut_settled s i 0 _)

theorem isoRelease_releases (s : State) (i : ErgNo) (data : Data) (hready : s.ready (FAB_ERG_ISO i) = true)
    (hrelease : FAB_ERG_ISO_RELEASE.on data = true) (hwrite : s.activeWrite i = false) :
    Gives (.isoRelease i data) s fun t => t.forced i = false ∧ (t.erg i).settle = .none ∧ (t.erg i).forceEnd = false ∧
      KeepsRegs [FAB_ERG_ISO i, FAB_ERG_STATUS i] s t ∧ { t with regs := s.regs, fab := s.fab } = s := by
  refine gives_done (congrArg done ((s.regWrite_ready _ _ _ hready).trans (s.isoWrite_releases i data hrelease hwrite))) ?_
  generalize he : ({ s.erg i with settle := .none, forceEnd := false, readySeen := false, relEnd := (s.erg i).newContent } : ErgSt) = e
  let u := (s.setFld (FAB_ERG_ISO i) FAB_ERG_ISO_FORCE 0).setErg i e
  have hforced : (u.showSettle i).settle.forced i = false := by
    rw [State.forced_settle, State.forced, State.fldOn, State.showSettle, State.fld_setFld_ne _ _ _ _ _ _ (ergIso_ne_status i)]
    exact s.forced_setFld i 0
  have herg : (u.showSettle i).settle.erg i = e := by
    rw [State.erg_settle, State.erg_showSettle, State.erg_setErg_same]
  have hframe : RegsOnly [FAB_ERG_ISO i, FAB_ERG_STATUS i] (s.setErg i e) (u.showSettle i).settle :=
    ((((RegsOnly.refl _ s).setFld _ _ _ (by simp)).setErg i e).setFld _ _ _ (by simp)).settle
  exact ⟨hforced, by rw [herg, ← he], by rw [herg, ← he], hframe.but_fab⟩

/-! ### The fabric's error registers (R57, R58, R96) -/

/-- Which ergs' cells have been reported, forgotten for the ergs listed. -/
def State.forgetIllop (s : State) (l : List Nat) : State := l.foldl (fun s i => s.setErg i { s.erg i with illop := [] }) s

theorem State.forgetIllop_fab (s : State) (l : List Nat) : ∃ f, s.forgetIllop l = { s with fab := f } :=
  List.foldlRecOn (motive := fun u : State => ∃ f, u = { s with fab := f }) l _ ⟨s.fab, rfl⟩
    (by rintro _ ⟨f, rfl⟩ i _; exact ⟨_, rfl⟩)

theorem State.reg_forgetIllop (s : State) (l : List Nat) (o : Nat) : (s.forgetIllop l).reg o = s.reg o := by
  obtain ⟨f, hf⟩ := s.forgetIllop_fab l
  simp only [hf, State.reg]

theorem State.illop_forgetIllop (s : State) (l : List Nat) (i : Nat) (h : i ∈ l ∨ (s.erg i).illop = []) : ((s.forgetIllop l).erg i).illop = [] := by
  induction l generalizing s with
  | nil => exact h.resolve_left List.not_mem_nil
  | cons j r ih =>
    refine ih (s.setErg j { s.erg j with illop := [] }) ?_
    by_cases hij : i = j
    · right
      rw [hij, State.erg_setErg_same]
    · rw [State.erg_setErg_ne s _ hij]
      exact h.imp_left (fun hmem => (List.mem_cons.mp hmem).resolve_left hij)

theorem State.illopWrite_clears (s : State) (data : Data) (h : FAB_ILLOP_VALID.on data = true) :
    s.illopWrite data = (s.setFld FAB_ILLOP FAB_ILLOP_VALID 0).forgetIllop s.ergList := by
  have hlist : (s.setFld FAB_ILLOP FAB_ILLOP_VALID 0).ergList = s.ergList := by
    rw [State.ergList, s.setFld_fab, State.ergList]
  rw [← hlist]
  exact if_pos h

theorem illopClear_clears (s : State) (data : Data) (hready : s.ready FAB_ILLOP = true) (hvalid : FAB_ILLOP_VALID.on data = true) :
    Gives (.illopClear data) s fun t => t.fld FAB_ILLOP FAB_ILLOP_VALID = 0 ∧ (∀ i ∈ s.ergList, (t.erg i).illop = []) ∧
      KeepsRegs [FAB_ILLOP] s t ∧ { t with regs := s.regs, fab := s.fab } = s := by
  refine gives_done (congrArg done ((s.regWrite_ready _ _ _ hready).trans (s.illopWrite_clears data hvalid))) ?_
  obtain ⟨f, hf⟩ := (s.setFld FAB_ILLOP FAB_ILLOP_VALID 0).forgetIllop_fab s.ergList
  refine ⟨?valid, fun i hi => ?reported, ?frame⟩
  case valid =>
    rw [State.fld_settle_of_not_shown _ _ _ (by decide), State.fld_of_reg (State.reg_forgetIllop _ _ _), State.fld_setFld_same _ _ _ _ (by decide),
      Nat.zero_mod]
  case reported =>
    rw [State.erg_settle]
    exact State.illop_forgetIllop _ _ i (.inl hi)
  case frame =>
    rw [hf]
    exact ((RegsOnly.refl _ { s with fab := f }).setFld FAB_ILLOP FAB_ILLOP_VALID 0 (by simp)).settle.but_fab

/-- Two fields of a register put to zero read zero, and nothing but that register changes. -/
theorem clearPair_settled (s : State) (off : Nat) (f g : Fld) (hoff : off ∉ shownRegs) (hf : f.lo + f.w ≤ 64) (hg : g.lo + g.w ≤ 64)
    (hd : f.lo + f.w ≤ g.lo) :
    let t := (s.setFlds off [(f, 0), (g, 0)]).settle
    t.fld off f = 0 ∧ t.fld off g = 0 ∧ RegsOnly [off] s t := by
  refine ⟨?_, ?_, ((RegsOnly.refl _ s).setFlds _ _ (by simp)).settle⟩
  all_goals rw [State.fld_settle_of_not_shown _ _ _ hoff, State.fld_setFlds_same]; simp only [List.foldl_cons, List.foldl_nil]
  · rw [Fld.get_put_ne _ _ _ _ hg (.inl hd), Fld.get_put_same _ _ _ hf, Nat.zero_mod]
  · rw [Fld.get_put_same _ _ _ hg, Nat.zero_mod]

theorem bmPerrClear_clears (s : State) (data : Data) (hready : s.ready FAB_BM_PERR = true) (hvalid : FAB_BM_PERR_VALID.on data = true) :
    Gives (.bmPerrClear data) s fun t => t.fld FAB_BM_PERR FAB_BM_PERR_VALID = 0 ∧ t.fld FAB_BM_PERR FAB_BM_PERR_COUNT = 0 ∧
      RegsOnly [FAB_BM_PERR] s t :=
  gives_done (congrArg done ((s.regWrite_ready _ _ _ hready).trans (if_pos hvalid)))
    (clearPair_settled s _ _ _ (by decide) (by decide) (by decide) (by decide))

theorem dirPerrClear_clears (s : State) (data : Data) (hready : s.ready FAB_DIR_PERR = true) (hvalid : FAB_DIR_PERR_VALID.on data = true) :
    Gives (.dirPerrClear data) s fun t => t.fld FAB_DIR_PERR FAB_DIR_PERR_VALID = 0 ∧ t.fld FAB_DIR_PERR FAB_DIR_PERR_COUNT = 0 ∧
      RegsOnly [FAB_DIR_PERR] s t :=
  gives_done (congrArg done ((s.regWrite_ready _ _ _ hready).trans (if_pos hvalid)))
    (clearPair_settled s _ _ _ (by decide) (by decide) (by decide) (by decide))

/-- Settles O23: one clause for the request, the switch, the end of settling, the writes of ISO, and each error register. -/
theorem ergSwitchesAndIsolation : Obligations.ErgSwitchesAndIsolation :=
  ⟨ctxGo_joins, switchEdge_switches, settleEnd_ends,
    fun s i data hready => ⟨isoForceSet_sets s i data hready, isoForceClear_clears s i data hready, isoRelease_releases s i data hready⟩,
    illopClear_clears, bmPerrClear_clears, dirPerrClear_clears⟩

end Sys2Proof.Machine
end

section
/-!
SUPPORT. The statements of the family 03_contexts: snapshots and their planes, the loads of images, readback and scrubbing, and the task ports.
-/
namespace Sys2Proof.Machine

/-! ### Frames with another part of the state put beside -/

/-- A frame of registers with the same other part put into both states. -/
theorem RegsOnly.put {l : List Nat} {s t : State} (h : RegsOnly l s t) (f : State → State)
    (hregs : ∀ u : State, (f u).regs = u.regs) (hf : ∀ u r, f { u with regs := r } = { f u with regs := r }) : RegsOnly l (f s) (f t) := by
  refine ⟨?_, (h.2.of_regs (hregs t)).from_regs (hregs s)⟩
  show { f t with regs := (f s).regs } = f s
  rw [hregs, ← hf]
  exact congrArg f h.1

theorem RegsOnly.trans {l : List Nat} {s t u : State} (h : RegsOnly l s t) (k : RegsOnly l t u) : RegsOnly l s u :=
  ⟨Eq.trans (congrArg (fun x : State => { x with regs := s.regs }) k.1) h.1, h.2.trans k.2⟩

theorem RegsOnly.setFab {l : List Nat} {s t : State} (h : RegsOnly l s t) (f : FabSt) :
    RegsOnly l { s with fab := f } { t with fab := f } :=
  h.put (fun u => { u with fab := f }) (fun _ => rfl) (fun _ _ => rfl)

theorem RegsOnly.setPlaneState {l : List Nat} {s t : State} (h : RegsOnly l s t) (i p st : Nat) (hl : FAB_ERG_PLANES i ∈ l) :
    RegsOnly l s (t.setPlaneState i p st) := h.setFld _ _ _ hl

theorem State.planeState_settle (s : State) (i p : Nat) : s.settle.planeState i p = s.planeState i p :=
  State.planeState_of_reg (s.reg_settle_of_not_shown _ (switchRegs_not_shown (i := i) (by simp [switchRegs]))) p

/-! ### The reservation of a snapshot plane (R82, R86, R94) -/

theorem ergSnap_not_shown (i : Nat) : FAB_ERG_SNAP i ∉ shownRegs := by
  simp only [shownRegs, FAB_ERG_SNAP, PWR_STATUS, CFG_STATUS, GLB_STATUS, List.mem_cons, List.not_mem_nil, or_false]
  omega

theorem ergSnap_ne_planes (i : Nat) : FAB_ERG_SNAP i ≠ FAB_ERG_PLANES i := by simp only [FAB_ERG_SNAP, FAB_ERG_PLANES]; omega

theorem snapPlane_lt (v : Data) : FAB_ERG_SNAP_PLANE.get v < 8 := natBits_lt _ _ _

/-- The state in which a write of SNAP has cleared SKIPPED where it says so. -/
def State.snapSeen (s : State) (i : Nat) (data : Data) : State :=
  if FAB_ERG_SNAP_SKIPPED.on data then s.setFld (FAB_ERG_SNAP i) FAB_ERG_SNAP_SKIPPED 0 else s

theorem State.snapSeen_frame (s : State) (i : Nat) (data : Data) :
    RegsOnly [FAB_ERG_SNAP i, FAB_ERG_PLANES i] s (s.snapSeen i data) := by
  unfold State.snapSeen
  split
  · exact (RegsOnly.refl _ s).setFld _ _ _ (by simp)
  · exact RegsOnly.refl _ s

/-- The other fields of SNAP stand below or above SKIPPED. -/
theorem State.fld_snapSeen (s : State) (i : Nat) (data : Data) (f : Fld) (h : f.lo + f.w ≤ 9 ∨ 10 ≤ f.lo) :
    (s.snapSeen i data).fld (FAB_ERG_SNAP i) f = s.fld (FAB_ERG_SNAP i) f := by
  unfold State.snapSeen
  split
  · exact s.fld_setFld_other _ _ _ _ (by decide) h
  · rfl

theorem State.fldOn_snapSeen (s : State) (i : Nat) (data : Data) (f : Fld) (h : f.lo + f.w ≤ 9 ∨ 10 ≤ f.lo) :
    (s.snapSeen i data).fldOn (FAB_ERG_SNAP i) f = s.fldOn (FAB_ERG_SNAP i) f := by
  rw [State.fldOn, s.fld_snapSeen i data f h, State.fldOn]

theorem State.planeState_snapSeen (s : State) (i : Nat) (data : Data) (p : Nat) : (s.snapSeen i data).planeState i p = s.planeState i p := by
  unfold State.snapSeen
  split
  · exact State.planeState_of_reg (s.reg_setFld_ne _ _ _ _ (ergSnap_ne_planes i).symm) p
  · rfl

/-- What a write of SNAP reserves: an EMPTY or INVALID plane, where none is reserved. -/
theorem State.snapWrite_reserves (s : State) (i : Nat) (data : Data) (hfull : FAB_ERG_SNAP_FULL.on data = false)
    (hfree : s.fldOn (FAB_ERG_SNAP i) FAB_ERG_SNAP_RESERVE = false) (hwant : FAB_ERG_SNAP_RESERVE.on data = true)
    (hplane : s.planeState i (FAB_ERG_SNAP_PLANE.get data) = plEmpty ∨ s.planeState i (FAB_ERG_SNAP_PLANE.get data) = plInvalid) :
    s.snapWrite i data = ((s.snapSeen i data).setFlds (FAB_ERG_SNAP i) [(FAB_ERG_SNAP_RESERVE, 1),
      (FAB_ERG_SNAP_PLANE, FAB_ERG_SNAP_PLANE.get data)]).setPlaneState i (FAB_ERG_SNAP_PLANE.get data) plSnapFree := by
  have hnone : ¬ (s.snapSeen i data).fldOn (FAB_ERG_SNAP i) FAB_ERG_SNAP_RESERVE = true := by
    rw [s.fldOn_snapSeen i data _ (by decide), hfree]
    decide
  rw [← s.planeState_snapSeen i data] at hplane
  simp only [State.snapWrite, hfull, hwant, Bool.false_eq_true, false_and, if_false, if_true]
  exact (if_neg hnone).trans (if_pos hplane)

/-- The reserved plane is released where it is free. -/
theorem State.snapWrite_releases (s : State) (i : Nat) (data : Data) (hfull : FAB_ERG_SNAP_FULL.on data = false)
    (hheld : s.fldOn (FAB_ERG_SNAP i) FAB_ERG_SNAP_RESERVE = true) (hwant : FAB_ERG_SNAP_RESERVE.on data = false)
    (hplane : s.planeState i (s.fld (FAB_ERG_SNAP i) FAB_ERG_SNAP_PLANE) = plSnapFree) :
    s.snapWrite i data = ((s.snapSeen i data).setFlds (FAB_ERG_SNAP i) [(FAB_ERG_SNAP_RESERVE, 0),
      (FAB_ERG_SNAP_PLANE, FAB_ERG_SNAP_PLANE.get data)]).setPlaneState i (s.fld (FAB_ERG_SNAP i) FAB_ERG_SNAP_PLANE) plEmpty := by
  rw [← s.fldOn_snapSeen i data _ (by decide)] at hheld
  rw [← s.planeState_snapSeen i data] at hplane
  simp only [State.snapWrite, hfull, hwant, Bool.false_eq_true, false_and, if_false]
  exact (if_pos hheld).trans (if_pos hplane)

/-- The full plane that stays reserved is freed. -/
theorem State.snapWrite_frees (s : State) (i : Nat) (data : Data) (hfull : FAB_ERG_SNAP_FULL.on data = true)
    (hhas : s.fldOn (FAB_ERG_SNAP i) FAB_ERG_SNAP_FULL = true) (hheld : s.fldOn (FAB_ERG_SNAP i) FAB_ERG_SNAP_RESERVE = true)
    (hwant : FAB_ERG_SNAP_RESERVE.on data = true) (hsame : FAB_ERG_SNAP_PLANE.get data = s.fld (FAB_ERG_SNAP i) FAB_ERG_SNAP_PLANE) :
    s.snapWrite i data = ((s.snapSeen i data).setFld (FAB_ERG_SNAP i) FAB_ERG_SNAP_FULL 0).setPlaneState i
      (s.fld (FAB_ERG_SNAP i) FAB_ERG_SNAP_PLANE) plSnapFree := by
  have hkept : (((s.snapSeen i data).setFld (FAB_ERG_SNAP i) FAB_ERG_SNAP_FULL 0).setPlaneState i
      (s.fld (FAB_ERG_SNAP i) FAB_ERG_SNAP_PLANE) plSnapFree).fldOn (FAB_ERG_SNAP i) FAB_ERG_SNAP_RESERVE = true := by
    rw [State.fldOn, State.setPlaneState, State.fld_setFld_ne _ _ _ _ _ _ (ergSnap_ne_planes i), State.fld_setFld_other _ _ _ _ _ (by decide) (by decide),
      ← State.fldOn, s.fldOn_snapSeen i data _ (by decide), hheld]
  rw [← s.fldOn_snapSeen i data _ (by decide)] at hhas
  have hfrees : FAB_ERG_SNAP_FULL.on data = true ∧ (s.snapSeen i data).fldOn (FAB_ERG_SNAP i) FAB_ERG_SNAP_FULL = true := ⟨hfull, hhas⟩
  unfold State.snapSeen at hfrees hkept ⊢
  simp only [State.snapWrite, if_pos hfrees, if_pos hkept, if_pos hwant, if_pos hsame]

/-- RESERVE, PLANE and the plane's state as they were put. -/
theorem reservationPut_settled (s : State) (i r q p st : Nat) (hr : r < 2) (hq : q < 8) (hp : p < 8) (hst : st < 16) :
    let t := ((s.setFlds (FAB_ERG_SNAP i) [(FAB_ERG_SNAP_RESERVE, r), (FAB_ERG_SNAP_PLANE, q)]).setPlaneState i p st).settle
    t.fld (FAB_ERG_SNAP i) FAB_ERG_SNAP_RESERVE = r ∧ t.fld (FAB_ERG_SNAP i) FAB_ERG_SNAP_PLANE = q ∧ t.planeState i p = st ∧
      RegsOnly [FAB_ERG_SNAP i, FAB_ERG_PLANES i] s t := by
  intro t
  have hput (f : Fld) : t.fld (FAB_ERG_SNAP i) f =
      f.get (FAB_ERG_SNAP_PLANE.put (FAB_ERG_SNAP_RESERVE.put (s.reg (FAB_ERG_SNAP i)) r) q) := by
    rw [State.fld_settle_of_not_shown _ _ _ (ergSnap_not_shown i), State.setPlaneState, State.fld_setFld_ne _ _ _ _ _ _ (ergSnap_ne_planes i),
      State.fld_setFlds_same]
    rfl
  refine ⟨?reserve, ?plane, ?state, (((RegsOnly.refl _ s).setFlds _ _ (by simp)).setPlaneState _ _ _ (by simp)).settle⟩
  case reserve =>
    rw [hput, Fld.get_put_ne _ _ _ _ (by decide) (by decide), Fld.get_put_same _ _ _ (by decide)]
    exact Nat.mod_eq_of_lt hr
  case plane =>
    rw [hput, Fld.get_put_same _ _ _ (by decide)]
    exact Nat.mod_eq_of_lt hq
  case state => rw [State.planeState_settle, State.planeState_setPlaneState_same _ _ _ _ hp hst]

theorem fullCleared_settled (s : State) (i p : Nat) (hp : p < 8) :
    let t := ((s.setFld (FAB_ERG_SNAP i) FAB_ERG_SNAP_FULL 0).setPlaneState i p plSnapFree).settle
    t.fld (FAB_ERG_SNAP i) FAB_ERG_SNAP_FULL = 0 ∧ t.planeState i p = plSnapFree ∧ RegsOnly [FAB_ERG_SNAP i, FAB_ERG_PLANES i] s t := by
  refine ⟨?full, ?state, (((RegsOnly.refl _ s).setFld _ _ _ (by simp)).setPlaneState _ _ _ (by simp)).settle⟩
  case full =>
    rw [State.fld_settle_of_not_shown _ _ _ (ergSnap_not_shown i), State.setPlaneState, State.fld_setFld_ne _ _ _ _ _ _ (ergSnap_ne_planes i),
      State.fld_setFld_same _ _ _ _ (by decide), Nat.zero_mod]
  case state => rw [State.planeState_settle, State.planeState_setPlaneState_same _ _ _ _ hp (by decide)]

section SnapWrite

variable (s : State) (i : ErgNo) (data : Data) (hready : s.ready (FAB_ERG_SNAP i) = true)
include hready

theorem snapPlaneReserve_reserves (hfull : FAB_ERG_SNAP_FULL.on data = false) (hfree : s.fldOn (FAB_ERG_SNAP i) FAB_ERG_SNAP_RESERVE = false)
    (hwant : FAB_ERG_SNAP_RESERVE.on data = true)
    (hplane : s.planeState i (FAB_ERG_SNAP_PLANE.get data) = plEmpty ∨ s.planeState i (FAB_ERG_SNAP_PLANE.get data) = plInvalid) :
    Gives (.snapPlaneReserve i data) s fun t => t.fld (FAB_ERG_SNAP i) FAB_ERG_SNAP_RESERVE = 1 ∧
      t.fld (FAB_ERG_SNAP i) FAB_ERG_SNAP_PLANE = FAB_ERG_SNAP_PLANE.get data ∧
      t.planeState i (FAB_ERG_SNAP_PLANE.get data) = plSnapFree ∧ RegsOnly [FAB_ERG_SNAP i, FAB_ERG_PLANES i] s t := by
  have hwrite := s.snapWrite_reserves i data hfull hfree hwant hplane
  obtain ⟨hreserve, hput, hstate, hframe⟩ := reservationPut_settled (s.snapSeen i data) i 1 _ _ plSnapFree (by decide) (snapPlane_lt data)
    (snapPlane_lt data) (by decide)
  exact gives_done (congrArg done ((s.regWrite_ready _ _ _ hready).trans hwrite))
    ⟨hreserve, hput, hstate, (s.snapSeen_frame i data).trans hframe⟩

theorem snapPlaneRelease_releases (hfull : FAB_ERG_SNAP_FULL.on data = false) (hheld : s.fldOn (FAB_ERG_SNAP i) FAB_ERG_SNAP_RESERVE = true)
    (hwant : FAB_ERG_SNAP_RESERVE.on data = false) (hplane : s.planeState i (s.fld (FAB_ERG_SNAP i) FAB_ERG_SNAP_PLANE) = plSnapFree) :
    Gives (.snapPlaneRelease i data) s fun t => t.fld (FAB_ERG_SNAP i) FAB_ERG_SNAP_RESERVE = 0 ∧
      t.planeState i (s.fld (FAB_ERG_SNAP i) FAB_ERG_SNAP_PLANE) = plEmpty ∧ RegsOnly [FAB_ERG_SNAP i, FAB_ERG_PLANES i] s t := by
  have hwrite := s.snapWrite_releases i data hfull hheld hwant hplane
  obtain ⟨hreserve, -, hstate, hframe⟩ := reservationPut_settled (s.snapSeen i data) i 0 _ _ plEmpty (by decide) (snapPlane_lt data)
    (snapPlane_lt (s.reg (FAB_ERG_SNAP i))) (by decide)
  exact gives_done (congrArg done ((s.regWrite_ready _ _ _ hready).trans hwrite))
    ⟨hreserve, hstate, (s.snapSeen_frame i data).trans hframe⟩

theorem snapFree_frees (hfull : FAB_ERG_SNAP_FULL.on data = true) (hhas : s.fldOn (FAB_ERG_SNAP i) FAB_ERG_SNAP_FULL = true)
    (hheld : s.fldOn (FAB_ERG_SNAP i) FAB_ERG_SNAP_RESERVE = true) (hwant : FAB_ERG_SNAP_RESERVE.on data = true)
    (hsame : FAB_ERG_SNAP_PLANE.get data = s.fld (FAB_ERG_SNAP i) FAB_ERG_SNAP_PLANE) :
    Gives (.snapFree i data) s fun t => t.fld (FAB_ERG_SNAP i) FAB_ERG_SNAP_FULL = 0 ∧
      t.planeState i (s.fld (FAB_ERG_SNAP i) FAB_ERG_SNAP_PLANE) = plSnapFree ∧ RegsOnly [FAB_ERG_SNAP i, FAB_ERG_PLANES i] s t := by
  have hwrite := s.snapWrite_frees i data hfull hhas hheld hwant hsame
  obtain ⟨hcleared, hstate, hframe⟩ := fullCleared_settled (s.snapSeen i data) i _ (snapPlane_lt (s.reg (FAB_ERG_SNAP i)))
  exact gives_done (congrArg done ((s.regWrite_ready _ _ _ hready).trans hwrite))
    ⟨hcleared, hstate, (s.snapSeen_frame i data).trans hframe⟩

end SnapWrite

/-! ### A snapshot asked for and taken (R83, R97) -/

theorem State.snapCtlWrite_asks (s : State) (data : Data) (hgo : FAB_SNAP_CTL_GO.on data = true) (hnone : s.fab.snap = none) :
    s.snapCtlWrite data = ({ s.writeReg FAB_SNAP_CTL data with fab := { s.fab with snap := some (16, false) } } : State).setFld
      FAB_SNAP_CTL FAB_SNAP_CTL_BUSY 1 := by
  have hfab : (s.writeReg FAB_SNAP_CTL data).fab = s.fab := s.writeReg_fab _ data
  simp only [State.snapCtlWrite, if_pos hgo, State.askSnap, hfab, hnone]

theorem snapGo_asks (s : State) (data : Data) (hready : s.ready FAB_SNAP_CTL = true) (hgo : FAB_SNAP_CTL_GO.on data = true)
    (hnone : s.fab.snap = none) : Gives (.snapGo data) s fun t => t.fld FAB_SNAP_CTL FAB_SNAP_CTL_BUSY = 1 ∧
      RegsOnly [FAB_SNAP_CTL] { s with fab := { s.fab with snap := some (16, false) } } t := by
  refine gives_done (congrArg done ((s.regWrite_ready _ _ _ hready).trans (s.snapCtlWrite_asks data hgo hnone))) ⟨?_, ?_⟩
  · rw [State.fld_settle_of_not_shown _ _ _ (by decide)]
    exact State.fld_setFld_same _ _ _ _ (by decide)
  · exact ((((RegsOnly.refl _ s).writeReg _ data (by simp)).setFab _).setFld _ _ _ (by simp)).settle

theorem State.snapErg_time (s : State) (i : Nat) : (s.snapErg i).time = s.time := by
  unfold State.snapErg
  dsimp only
  split
  · rw [State.setFlds_time, State.setPlaneState, State.setFld_time]
    rfl
  · exact s.setFld_time _ _ _

/-- The ergs of SNAP_MASK stored, one after the other. -/
def State.snapErgs (s : State) : State :=
  ((List.range 128).filter (fun i => natBit (s.fld (FAB_SNAP_MASK (i / 64)) FAB_SNAP_MASK_ERGS) (i % 64))).foldl (fun s i => s.snapErg i) s

theorem State.snapErgs_time (s : State) : s.snapErgs.time = s.time := by
  unfold State.snapErgs
  generalize (List.range 128).filter _ = l
  exact List.foldlRecOn (motive := fun u : State => u.time = s.time) l _ rfl (fun u hu i _ => (u.snapErg_time i).trans hu)

theorem State.snapshot_eq (s : State) : s.snapshot =
    ({ s.snapErgs.setReg FAB_SNAP_TIME s.snapErgs.time.stamp with fab := { s.snapErgs.fab with snap := none } } : State).setFld
      FAB_SNAP_CTL FAB_SNAP_CTL_BUSY 0 := rfl

theorem State.reg_snapshot_time (s : State) : s.snapshot.reg FAB_SNAP_TIME = s.time.stamp := by
  rw [s.snapshot_eq, State.reg_setFld_ne _ _ _ _ _ (by decide), ← s.snapErgs_time]
  exact State.reg_setReg_same _ _ _

theorem snapshotEdge_takes (s : State) (n : Nat) (ex : Bool) (hsnap : s.fab.snap = some (n, ex)) (hlast : ex = true → n = 0) :
    Gives .snapshotEdge s fun t => t.fab.snap = none ∧ t.fld FAB_SNAP_CTL FAB_SNAP_CTL_BUSY = 0 ∧ t.reg FAB_SNAP_TIME = s.time.stamp := by
  have hfalls : ¬ (ex = true ∧ n ≠ 0) := fun h => h.2 (hlast h.1)
  have hexec : exec .snapshotEdge s = done s.snapshot := by
    show execSnapshotEdge s = _
    simp only [execSnapshotEdge, hsnap, if_neg hfalls]
  refine gives_done hexec ⟨?_, ?_, ?_⟩
  · rw [State.settle_fab]
    rfl
  · rw [State.fld_settle_of_not_shown _ _ _ (by decide), s.snapshot_eq]
    exact State.fld_setFld_same _ _ _ _ (by decide)
  · rw [State.reg_settle_of_not_shown _ _ (by decide), s.reg_snapshot_time]

/-- Settles O24: a write of SNAP by what it asks, then the request and the edge of a snapshot. -/
theorem snapshots : Obligations.Snapshots :=
  ⟨fun s i data hready => ⟨snapPlaneReserve_reserves s i data hready, snapPlaneRelease_releases s i data hready, snapFree_frees s i data hready⟩,
    snapGo_asks, snapshotEdge_takes⟩

end Sys2Proof.Machine
end

section
/-!
SUPPORT. An executor's item and its result, and the statement on the task ports (R65, R67, R417, R439).
-/
namespace Sys2Proof.Machine

/-! ### The item an executor performs -/

@[simp] theorem State.cur_setCur_same (s : State) (k : Nat) (c : Option Running) : (s.setCur k c).cur k = c := by
  simp only [State.setCur, State.setExec, State.cur, State.exec?, SMap.get_set_same]

theorem State.cur_of_sched {s t : State} (h : t.sched = s.sched) (k : Nat) : t.cur k = s.cur k := by
  rw [State.cur, State.cur, State.exec?, State.exec?, h]

theorem State.resultOf_of_sched {s t : State} (h : t.sched = s.sched) (k : Nat) : t.resultOf k = s.resultOf k := by
  rw [State.resultOf, State.resultOf, State.cur_of_sched h]

theorem State.curOp_eq_some {s : State} {k opc : Nat} {c : Running} (h : s.curOp k opc = some c) :
    s.cur k = some c ∧ c.item.opc = opc ∧ c.phase = .effective ∧ c.result = none := by
  unfold State.curOp at h
  split at h
  case h_1 d hcur =>
    split at h
    case isTrue hmay =>
      obtain ⟨hopc, hphase, hresult, -⟩ := hmay
      rw [← Option.some.inj h]
      exact ⟨hcur, hopc, hphase, hresult⟩
    case isFalse => exact absurd h (by simp)
  case h_2 => exact absurd h (by simp)

theorem State.cur_of_curOp {s : State} {k opc : Nat} {c : Running} (h : s.curOp k opc = some c) : s.cur k = some c :=
  (State.curOp_eq_some h).1

theorem State.finish_of_cur {s : State} {k : Nat} {c : Running} (h : s.cur k = some c) (r : Result) :
    s.finish k r = s.setCur k (some { c with result := some r }) := by
  simp only [State.finish, h]

/-- An item that is performed has the result that it is given. -/
theorem State.resultOf_finish {s : State} {k : Nat} {c : Running} (h : s.cur k = some c) (r : Result) : (s.finish k r).resultOf k = some r := by
  rw [State.finish_of_cur h, State.resultOf, State.cur_setCur_same]
  rfl

/-! ### What the executors and the journal leave alone (R432, R433) -/

/-- Everything but the executors, the journal and the host's side is as before. -/
def OnlyWork (s t : State) : Prop := { t with sched := s.sched, jr := s.jr, host := s.host } = s

namespace OnlyWork

variable {s t u : State}

theorem refl (s : State) : OnlyWork s s := rfl

theorem trans (h : OnlyWork s t) (k : OnlyWork t u) : OnlyWork s u :=
  Eq.trans (congrArg (fun x : State => { x with sched := s.sched, jr := s.jr, host := s.host }) k) h

/-- What reads none of these is as before. -/
theorem read {α : Type} (h : OnlyWork s t) (f : State → α) (hf : ∀ (x : State) sc jr b, f { x with sched := sc, jr := jr, host := b } = f x) :
    f t = f s :=
  (hf t s.sched s.jr s.host).symm.trans (congrArg f h)

theorem regs (h : OnlyWork s t) : t.regs = s.regs := h.read State.regs (fun _ _ _ _ => rfl)
theorem fab (h : OnlyWork s t) : t.fab = s.fab := h.read State.fab (fun _ _ _ _ => rfl)
theorem reg (h : OnlyWork s t) (o : Nat) : t.reg o = s.reg o := by rw [State.reg, State.reg, h.regs]

theorem hostWrite (s : State) (a : Nat) (b : List Byte) : OnlyWork s (s.hostWrite a b) := by
  unfold State.hostWrite
  split
  · exact refl s
  · split
    · exact refl s
    · exact refl s

theorem setCur (s : State) (k : Nat) (c : Option Running) : OnlyWork s (s.setCur k c) := rfl

theorem finish (s : State) (k : Nat) (r : Result) : OnlyWork s (s.finish k r) := by
  unfold State.finish
  split
  · exact setCur s _ _
  · exact refl s

theorem journalPut (s : State) (e : Nat) (j : JEntry) : OnlyWork s (s.journalPut e j) := by
  unfold State.journalPut
  exact trans (by exact rfl) (hostWrite _ _ _)

theorem journalMark (s : State) (k bits : Nat) : OnlyWork s (s.journalMark k bits) := by
  unfold State.journalMark
  split
  · dsimp only
    split
    · exact journalPut s _ _
    · exact refl s
  · exact refl s

/-- Between two changes of registers. -/
theorem between {v : State} (h : OnlyRegs s t) (k : OnlyWork t u) (m : OnlyRegs u v) :
    { v with regs := s.regs, sched := s.sched, jr := s.jr, host := s.host } = s := by
  let back (x : State) : State := { x with regs := s.regs, sched := s.sched, jr := s.jr, host := s.host }
  exact (m.read back (fun _ _ => rfl)).trans ((k.read back (fun _ _ _ _ => rfl)).trans (h.read back (fun _ _ => rfl)))

end OnlyWork

/-- A command that ends an executor's item gives it its result, and nothing else. -/
theorem gives_finish {i : Instr} {s u : State} {k : Nat} {r : Result} {c : Running} (h : exec i s = done (u.finish k r))
    (hcur : u.cur k = some c) : Gives i s fun t => t.resultOf k = some r ∧ RegsOnly [] (u.finish k r) t :=
  gives_done h ⟨(State.resultOf_of_sched (State.settle_sched _) k).trans (State.resultOf_finish hcur r), (RegsOnly.refl [] _).settle⟩

theorem State.journalMark_sched (s : State) (k bits : Nat) : (s.journalMark k bits).sched = s.sched := by
  unfold State.journalMark
  split
  · dsimp only
    split
    · exact State.hostWrite_sched _ _ _
    · rfl
  · rfl

/-! ### ERG_SWITCH (R65, R67, R560) -/

/-- A request that is not refused joins the erg's requests, at the first edge where a failed load has stopped the erg. -/
theorem State.askSwitch_joins_after (s : State) (i : Nat) (src : SwSrc) (target left : Nat) (htwin : s.isTwin i = false)
    (hwrite : s.fldOn (FAB_ERG_STATUS i) FAB_ERG_STATUS_ACTIVE_WRITE = false) : s.askSwitch i src target left = s.setErg i { s.erg i with
      pend := (s.erg i).pend ++ [{ src := src, target := target % 8, left := if s.ergStopped i then 1 else left }] } := by
  simp only [State.askSwitch, htwin, hwrite, Bool.false_eq_true, false_and, if_false]

/-- The item taken up: its request is put, or it is refused. -/
theorem exec_ergSwitch (s : State) (i : ErgNo) (c : Running) (hcur : s.curOp (keyTask i) opErgSwitch = some c) (hstep : c.step = 0) :
    exec (.ergSwitch i) s =
      let u := s.setCur (keyTask i) (some { c with step := 1 })
      if s.ergReserved i ∧ !c.item.auth then done (u.finishSt (keyTask i) stAuthRequired) else done (u.askSwitch i .dispatch (c.item.num 16 1) 4) := by
  show execErgSwitch i s = _
  simp only [execErgSwitch, hcur, if_pos hstep]
  rfl

theorem ergSwitch_asks (s : State) (i : ErgNo) (c : Running) (hcur : s.curOp (keyTask i) opErgSwitch = some c) (hstep : c.step = 0)
    (htwin : s.isTwin i = false) (hwrite : s.fldOn (FAB_ERG_STATUS i) FAB_ERG_STATUS_ACTIVE_WRITE = false)
    (hmay : s.ergReserved i = false ∨ c.item.auth = true) :
    Gives (.ergSwitch i) s (RegsOnly [] ((s.setCur (keyTask i) (some { c with step := 1 })).setErg i { s.erg i with
      pend := (s.erg i).pend ++ [{ src := .dispatch, target := c.item.num 16 1 % 8, left := if s.ergStopped i then 1 else 4 }] })) := by
  have hallowed : ¬ (s.ergReserved i = true ∧ (!c.item.auth) = true) := by rcases hmay with h | h <;> simp [h]
  refine gives_regsOnly _ ((exec_ergSwitch s i c hcur hstep).trans (if_neg hallowed)) ?_
  exact (s.setCur (keyTask i) (some { c with step := 1 })).askSwitch_joins_after i .dispatch _ 4 htwin hwrite

theorem ergSwitch_needs_auth (s : State) (i : ErgNo) (c : Running) (hcur : s.curOp (keyTask i) opErgSwitch = some c) (hstep : c.step = 0)
    (hreserved : s.ergReserved i = true) (hauth : c.item.auth = false) :
    Gives (.ergSwitch i) s (RegsOnly [] ((s.setCur (keyTask i) (some { c with step := 1 })).finishSt (keyTask i) stAuthRequired)) := by
  have hrefused : s.ergReserved i = true ∧ (!c.item.auth) = true := ⟨hreserved, by rw [hauth]; rfl⟩
  exact gives_regsOnly _ ((exec_ergSwitch s i c hcur hstep).trans (if_pos hrefused)) rfl

/-! ### TASK and its delivery (R417) -/

theorem schTp_not_shown (i : ErgNo) : SCH_TP i ∉ shownRegs := by
  simp only [shownRegs, SCH_TP, PWR_STATUS, CFG_STATUS, GLB_STATUS, List.mem_cons, List.not_mem_nil, or_false]
  omega

theorem task_taken (s : State) (i : ErgNo) (c : Running) (hcur : s.curOp (keyTask i) opTask = some c) (hstep : c.step = 0) :
    Gives (.task i) s (RegsOnly [] (s.setCur (keyTask i) (some { c with step := 2 * (s.time.fck + 2) }))) := by
  have hexec : exec (.task i) s = done (s.setCur (keyTask i) (some { c with step := 2 * (s.time.fck + 2) })) := by
    show execTask i s = _
    simp only [execTask, hcur, if_pos hstep]
  exact gives_regsOnly _ hexec rfl

/-- The task at its edge: TASKNO counted, PENDING set, the executor one step on, and the journal marked. -/
theorem State.taskDeliver_due (s : State) (i : Nat) (c : Running) (hat : s.taskAt i = some c) (hdue : c.step = 2 * s.time.fck) (hstep : c.step ≠ 0) :
    s.taskDeliver i = ((s.setFlds (SCH_TP i) [(SCH_TP_TASKNO, s.taskNo i + 1), (SCH_TP_PENDING, 1)]).setCur (keyTask i)
      (some { c with step := c.step + 1 })).journalMark (keyTask i) 65536 := by
  simp only [State.taskDeliver, hat, if_pos (And.intro hdue hstep)]

theorem taskDelivery_delivers (s : State) (i : ErgNo) (c : Running) (hat : s.taskAt i = some c) (hdue : c.step = 2 * s.time.fck)
    (hstep : c.step ≠ 0) : Gives (.taskDelivery i) s fun t => t.fld (SCH_TP i) SCH_TP_TASKNO = (s.taskNo i + 1) % 65536 ∧
      t.fld (SCH_TP i) SCH_TP_PENDING = 1 ∧ (t.cur (keyTask i)).map (fun x => x.step) = some (c.step + 1) ∧ KeepsRegs [SCH_TP i] s t ∧
      { t with regs := s.regs, sched := s.sched, jr := s.jr, host := s.host } = s := by
  let u := s.setFlds (SCH_TP i) [(SCH_TP_TASKNO, s.taskNo i + 1), (SCH_TP_PENDING, 1)]
  let v := (u.setCur (keyTask i) (some { c with step := c.step + 1 })).journalMark (keyTask i) 65536
  have hregs : RegsOnly [SCH_TP i] s u := (RegsOnly.refl _ s).setFlds _ _ (by simp)
  have hwork : OnlyWork u v := (OnlyWork.setCur u _ _).trans (OnlyWork.journalMark _ _ _)
  have hput (f : Fld) : v.settle.fld (SCH_TP i) f = f.get (SCH_TP_PENDING.put (SCH_TP_TASKNO.put (s.reg (SCH_TP i)) (s.taskNo i + 1)) 1) := by
    rw [State.fld_settle_of_not_shown _ _ _ (schTp_not_shown i), State.fld_of_reg (hwork.reg _)]
    exact s.fld_setFlds_same _ _ _
  refine gives_done (congrArg done (s.taskDeliver_due i c hat hdue hstep)) ⟨?taskNo, ?pending, ?step, ?regs, ?frame⟩
  case taskNo => exact (hput _).trans ((Fld.get_put_ne _ _ _ _ (by decide) (by decide)).trans (Fld.get_put_same _ _ _ (by decide)))
  case pending => exact (hput _).trans (Fld.get_put_same _ _ _ (by decide))
  case step => rw [State.cur_of_sched (State.settle_sched _), State.cur_of_sched (State.journalMark_sched _ _ _), State.cur_setCur_same]; rfl
  case regs => exact (hregs.2.of_regs hwork.regs).settle
  case frame => exact OnlyWork.between hregs.1 hwork (RegsOnly.refl [] v).settle.1

/-! ### The task's answer (R417) -/

/-- The word that stands on CH + 9 of an erg's task port. -/
def State.taskWord (s : State) (i : Nat) : Nat := (s.chanAt (i % 64) (s.fld (SCH_TP i) SCH_TP_CH + 9) (ergDie i) (ergDie i) 0).toNat

/-- The word of a task port taken at this edge. -/
def State.taskReplied (s : State) (i : Nat) : State :=
  { s with sched := { s.sched with taskReply := s.sched.taskReply.set (fun _ => 0) i (s.time.fck + 1) } }

theorem State.taskReplied_work (s : State) (i : Nat) : OnlyWork s (s.taskReplied i) := rfl

section TaskWord

variable (s : State) (i : ErgNo) (hword : natBit (s.taskWord i) 0 = true) (hfresh : s.sched.taskReply.get (fun _ => 0) i ≠ s.time.fck + 1)
include hword hfresh

theorem State.taskTake_not_taken : ¬ ((!natBit (s.taskWord i) 0) = true ∨ s.sched.taskReply.get (fun _ => 0) i = s.time.fck + 1) := by
  simp [hword, hfresh]

/-- The pending task's number ends it. -/
theorem State.taskTake_ends (c : Running) (hat : s.taskAt i = some c) (hpend : s.fldOn (SCH_TP i) SCH_TP_PENDING = true)
    (hno : s.taskWord i / 65536 = s.taskNo i) :
    s.taskTake i = ((s.taskReplied i).setFld (SCH_TP i) SCH_TP_PENDING 0).finishSt (keyTask i) stSuccess := by
  have hat' : ((s.taskReplied i).setFld (SCH_TP i) SCH_TP_PENDING 0).taskAt i = some c := hat
  refine (if_neg (s.taskTake_not_taken i hword hfresh)).trans ((if_pos ⟨hpend, hno⟩).trans ?_)
  show (match ((s.taskReplied i).setFld (SCH_TP i) SCH_TP_PENDING 0).taskAt i with
    | some _ => ((s.taskReplied i).setFld (SCH_TP i) SCH_TP_PENDING 0).finishSt (keyTask i) stSuccess
    | none => (s.taskReplied i).setFld (SCH_TP i) SCH_TP_PENDING 0) = _
  rw [hat']

/-- Another word is a stray. -/
theorem State.taskTake_strays (h : s.fldOn (SCH_TP i) SCH_TP_PENDING = false ∨ s.taskWord i / 65536 ≠ s.taskNo i) :
    s.taskTake i = (s.taskReplied i).satFld (SCH_TP i) SCH_TP_STRAY 1 := by
  have hnot : ¬ (s.fldOn (SCH_TP i) SCH_TP_PENDING = true ∧ s.taskWord i / 65536 = s.taskNo i) := by
    rintro ⟨hpend, hno⟩
    rcases h with h | h
    · rw [hpend] at h
      cases h
    · exact h hno
  exact (if_neg (s.taskTake_not_taken i hword hfresh)).trans (if_neg hnot)

end TaskWord

theorem State.cur_of_taskAt {s : State} {i : Nat} {c : Running} (h : s.taskAt i = some c) : s.cur (keyTask i) = some c := by
  unfold State.taskAt at h
  split at h
  case h_1 d hcur =>
    split at h
    case isTrue => rw [← Option.some.inj h, hcur]
    case isFalse => exact absurd h (by simp)
  case h_2 => exact absurd h (by simp)

theorem satAdd_lt (w a b : Nat) : satAdd w a b < 2 ^ w := by
  have := Nat.two_pow_pos w
  unfold satAdd
  omega

/-- A counting field advanced reads as what it counts to. -/
theorem State.fld_satFld_same (s : State) (off : Nat) (f : Fld) (n : Nat) (h : f.lo + f.w ≤ 64) :
    (s.satFld off f n).fld off f = satAdd f.w (s.fld off f) n := by
  rw [State.satFld, State.fld_setFld_same _ _ _ _ h, Nat.mod_eq_of_lt (satAdd_lt _ _ _)]

theorem RegsOnly.satFld {l : List Nat} {s t : State} (h : RegsOnly l s t) (off : Nat) (f : Fld) (n : Nat) (ho : off ∈ l) :
    RegsOnly l s (t.satFld off f n) := h.setFld off f _ ho

theorem taskDoneWord_ends (s : State) (i : ErgNo) (hword : natBit (s.taskWord i) 0 = true)
    (hfresh : s.sched.taskReply.get (fun _ => 0) i ≠ s.time.fck + 1) (c : Running) (hat : s.taskAt i = some c)
    (hpend : s.fldOn (SCH_TP i) SCH_TP_PENDING = true) (hno : s.taskWord i / 65536 = s.taskNo i) :
    Gives (.taskDoneWord i) s fun t => t.fld (SCH_TP i) SCH_TP_PENDING = 0 ∧ t.resultOf (keyTask i) = some { status := stSuccess } ∧
      KeepsRegs [SCH_TP i] s t ∧ { t with regs := s.regs, sched := s.sched } = s := by
  let u := (s.taskReplied i).setFld (SCH_TP i) SCH_TP_PENDING 0
  have hcur : u.cur (keyTask i) = some c := State.cur_of_taskAt (show u.taskAt i = some c from hat)
  have hregs : RegsOnly [SCH_TP i] (s.taskReplied i) u := (RegsOnly.refl _ _).setFld _ _ _ (by simp)
  have hwork : OnlyWork u (u.finishSt (keyTask i) stSuccess) := OnlyWork.finish u _ _
  have hsettle : RegsOnly [SCH_TP i] (u.finishSt (keyTask i) stSuccess) (u.finishSt (keyTask i) stSuccess).settle := (RegsOnly.refl _ _).settle
  refine gives_done (congrArg done (s.taskTake_ends i hword hfresh c hat hpend hno)) ⟨?pending, ?result, ?regs, ?frame⟩
  case pending =>
    rw [State.fld_settle_of_not_shown _ _ _ (schTp_not_shown i)]
    exact (State.fld_of_reg (hwork.reg _) _).trans (State.fld_setFld_same _ _ _ _ (by decide))
  case result =>
    rw [State.resultOf_of_sched (State.settle_sched _)]
    exact State.resultOf_finish hcur _
  case regs => exact (hregs.2.of_regs hwork.regs).settle.from_regs (s.taskReplied_work i).regs.symm
  case frame =>
    let back (x : State) : State := { x with regs := s.regs, sched := s.sched }
    have hfinish : back (u.finishSt (keyTask i) stSuccess) = back u := by
      rw [State.finishSt, State.finish_of_cur hcur]
      rfl
    exact (hsettle.1.read back (fun _ _ => rfl)).trans (hfinish.trans (hregs.1.read back (fun _ _ => rfl)))

theorem taskDoneWord_strays (s : State) (i : ErgNo) (hword : natBit (s.taskWord i) 0 = true)
    (hfresh : s.sched.taskReply.get (fun _ => 0) i ≠ s.time.fck + 1)
    (h : s.fldOn (SCH_TP i) SCH_TP_PENDING = false ∨ s.taskWord i / 65536 ≠ s.taskNo i) :
    Gives (.taskDoneWord i) s fun t => t.fld (SCH_TP i) SCH_TP_STRAY = satAdd SCH_TP_STRAY.w (s.fld (SCH_TP i) SCH_TP_STRAY) 1 ∧
      KeepsRegs [SCH_TP i] s t ∧ { t with regs := s.regs, sched := s.sched } = s := by
  have hframe : RegsOnly [SCH_TP i] (s.taskReplied i) ((s.taskReplied i).satFld (SCH_TP i) SCH_TP_STRAY 1).settle :=
    ((RegsOnly.refl _ _).satFld _ _ _ (by simp)).settle
  refine gives_done (congrArg done (s.taskTake_strays i hword hfresh h)) ⟨?_, hframe.2.from_regs rfl, ?_⟩
  · rw [State.fld_settle_of_not_shown _ _ _ (schTp_not_shown i)]
    exact State.fld_satFld_same _ _ _ _ (by decide)
  · let back (x : State) : State := { x with regs := s.regs, sched := s.sched }
    exact hframe.1.read back (fun _ _ => rfl)

/-! ### The channel of a task port (R439) -/

theorem tpChWrite_takes (s : State) (i : ErgNo) (data : Data) (hready : s.ready (SCH_TP i) = true)
    (hidle : s.fldOn (SCH_TP i) SCH_TP_PENDING = false) (hch : SCH_TP_CH.get data ≤ 54) :
    Gives (.tpChWrite i data) s fun t => t.fld (SCH_TP i) SCH_TP_CH = SCH_TP_CH.get data ∧ RegsOnly [SCH_TP i] s t := by
  have htaken : ¬ (s.fldOn (SCH_TP i) SCH_TP_PENDING = true ∨ 54 < SCH_TP_CH.get data) := by simp [hidle, hch]
  refine gives_done (congrArg done ((s.regWrite_ready _ _ _ hready).trans (if_neg htaken))) ⟨?_, ((RegsOnly.refl _ s).setFld _ _ _ (by simp)).settle⟩
  rw [State.fld_settle_of_not_shown _ _ _ (schTp_not_shown i), State.fld_setFld_same _ _ _ _ (by decide)]
  exact Nat.mod_eq_of_lt (natBits_lt _ _ _)

theorem tpChWrite_refused (s : State) (i : ErgNo) (data : Data) (hready : s.ready (SCH_TP i) = true)
    (h : s.fldOn (SCH_TP i) SCH_TP_PENDING = true ∨ 54 < SCH_TP_CH.get data) :
    Gives (.tpChWrite i data) s fun t => t.fld SCH_STATUS SCH_STATUS_REFUSED = 1 ∧ t.fld SCH_STATUS SCH_STATUS_REASON = 3 ∧
      RegsOnly [SCH_STATUS] s t := by
  have hput (f : Fld) : (s.schRefuse 3).settle.fld SCH_STATUS f = f.get (SCH_STATUS_REASON.put (SCH_STATUS_REFUSED.put (s.reg SCH_STATUS) 1) 3) := by
    rw [State.fld_settle_of_not_shown _ _ _ (by decide), State.schRefuse, State.fld_setFlds_same]
    rfl
  refine gives_done (congrArg done ((s.regWrite_ready _ _ _ hready).trans (if_pos h))) ⟨?_, ?_, ((RegsOnly.refl _ s).setFlds _ _ (by simp)).settle⟩
  · exact (hput _).trans ((Fld.get_put_ne _ _ _ _ (by decide) (by decide)).trans (Fld.get_put_same _ _ _ (by decide)))
  · exact (hput _).trans (Fld.get_put_same _ _ _ (by decide))

/-- Settles O30: the switch item, the task, its delivery and its answer, and the channel, each by its own lemma. -/
theorem taskPorts : Obligations.TaskPorts := by
  refine ⟨ergSwitch_asks, ergSwitch_needs_auth, task_taken, taskDelivery_delivers, ?answer,
    fun s i data hready => ⟨tpChWrite_takes s i data hready, tpChWrite_refused s i data hready⟩⟩
  case answer =>
    intro s i word hword hfresh
    exact ⟨taskDoneWord_ends s i hword hfresh, taskDoneWord_strays s i hword hfresh⟩

end Sys2Proof.Machine
end

section
/-!
SUPPORT. The statement on readback, the RESERVED mark of ergs, and the scrubbing of planes (R67, R81, R86, R450, R462, R463, R477).
-/
namespace Sys2Proof.Machine

/-! ### READBACK (R86, R450) -/

section Readback

variable (s : State) (c : Running) (hcur : s.curOp keyConfig opReadback = some c) (hup : s.cfgDieReset (c.item.unit % 128) = false)
include hcur hup

theorem readback_too_small (hsmall : c.item.num 32 4 < if natBit (c.item.num 16 1) 3 then 1329152 else 41536) :
    Gives (.readback false) s (RegsOnly [] (s.finishSt keyConfig stBadDescriptor)) := by
  have hexec : exec (.readback false) s = done (s.finishSt keyConfig stBadDescriptor) := by
    show execReadback false s = _
    simp only [execReadback, hcur, hup, Bool.false_eq_true, if_false, if_pos hsmall]
  exact gives_regsOnly _ hexec rfl

theorem readback_writes (hroom : (if natBit (c.item.num 16 1) 3 then 1329152 else 41536) ≤ c.item.num 32 4)
    (hplane : natBit (c.item.num 16 1) 3 = true ∨ s.planeState (c.item.unit % 128) (c.item.num 16 1 % 8) = plFresh ∨
      s.planeState (c.item.unit % 128) (c.item.num 16 1 % 8) = plValid ∨ s.planeState (c.item.unit % 128) (c.item.num 16 1 % 8) = plSnapFull)
    (hissue : s.mayIssue = true) :
    Gives (.readback false) s fun t =>
      t.resultOf keyConfig = some { status := stSuccess, count := if natBit (c.item.num 16 1) 3 then 1329152 else 41536 } ∧
      RegsOnly [] ((s.hostWrite (c.item.num 24 8) (if natBit (c.item.num 16 1) 3 then s.memFrames (c.item.unit % 128)
        else s.planeFrames (c.item.unit % 128) (c.item.num 16 1 % 8))).finish keyConfig
          { status := stSuccess, count := if natBit (c.item.num 16 1) 3 then 1329152 else 41536 }) t := by
  have hvalid : ¬ ((!natBit (c.item.num 16 1) 3) = true ∧ s.planeState (c.item.unit % 128) (c.item.num 16 1 % 8) ≠ plFresh ∧
      s.planeState (c.item.unit % 128) (c.item.num 16 1 % 8) ≠ plValid ∧ s.planeState (c.item.unit % 128) (c.item.num 16 1 % 8) ≠ plSnapFull) := by
    rcases hplane with h | h | h | h <;> simp [h]
  refine gives_finish (c := c) ?_ ((State.cur_of_sched (s.hostWrite_sched _ _) _).trans (State.cur_of_curOp hcur))
  show execReadback false s = _
  simp only [execReadback, hcur, hup, Bool.false_eq_true, if_false, if_neg (Nat.not_lt.mpr hroom), if_neg hvalid, hissue, Bool.not_true, or_self]

end Readback

/-! ### ERG_RESERVE (R67, R477) -/

theorem ergStatus_inj {i j : Nat} (h : FAB_ERG_STATUS i = FAB_ERG_STATUS j) : i = j := by
  simp only [FAB_ERG_STATUS] at h
  omega

/-- RESERVED put for the ergs of a list that a mask names. -/
def State.reserveErgs (s : State) (mask x : Nat) (l : List Nat) : State :=
  l.foldl (fun s i => if natBit mask i then s.setFld (FAB_ERG_STATUS i) FAB_ERG_STATUS_RESERVED x else s) s

theorem State.reserveErgs_frame (s : State) (mask x : Nat) (l : List Nat) : RegsOnly (l.map FAB_ERG_STATUS) s (s.reserveErgs mask x l) := by
  refine List.foldlRecOn (motive := fun u => RegsOnly (l.map FAB_ERG_STATUS) s u) l _ (RegsOnly.refl _ s) (fun u hu i hi => ?_)
  split
  · exact hu.setFld _ _ _ (List.mem_map_of_mem hi)
  · exact hu

/-- An erg that the mask leaves out keeps its STATUS. -/
theorem State.reserveErgs_keeps (s : State) (mask x : Nat) (l : List Nat) (o : Nat) (h : ∀ i ∈ l, natBit mask i = true → o ≠ FAB_ERG_STATUS i) :
    (s.reserveErgs mask x l).reg o = s.reg o := by
  refine List.foldlRecOn (motive := fun u : State => u.reg o = s.reg o) l _ rfl (fun u hu i hi => ?_)
  split
  case isTrue hbit => exact (u.reg_setFld_ne _ _ _ _ (h i hi hbit)).trans hu
  case isFalse => exact hu

/-- An erg that it names is marked. -/
theorem State.reserveErgs_marks (s : State) (mask x : Nat) (l : List Nat) (i : Nat) (hbit : natBit mask i = true)
    (h : i ∈ l ∨ s.fld (FAB_ERG_STATUS i) FAB_ERG_STATUS_RESERVED = x % 2) :
    (s.reserveErgs mask x l).fld (FAB_ERG_STATUS i) FAB_ERG_STATUS_RESERVED = x % 2 := by
  induction l generalizing s with
  | nil => exact h.resolve_left List.not_mem_nil
  | cons j r ih =>
    refine ih (if natBit mask j then s.setFld (FAB_ERG_STATUS j) FAB_ERG_STATUS_RESERVED x else s) ?_
    by_cases hij : i = j
    · right
      rw [← hij, if_pos hbit]
      exact s.fld_setFld_same _ _ _ (by decide)
    · refine h.imp (fun hmem => (List.mem_cons.mp hmem).resolve_left hij) (fun hset => ?_)
      split
      · rw [State.fld_setFld_ne _ _ _ _ _ _ (fun he => hij (ergStatus_inj he)), hset]
      · exact hset

theorem ergReserve_marks (s : State) (c : Running) (hcur : s.curOp keyConfig opErgReserve = some c) :
    Gives .ergReserve s fun t => t.resultOf keyConfig = some { status := stSuccess } ∧
      { t with regs := s.regs } = s.finishSt keyConfig stSuccess ∧
      (∀ i : ErgNo, natBit (c.item.num 16 16) i = true → t.fld (FAB_ERG_STATUS i) FAB_ERG_STATUS_RESERVED = c.item.num 32 1 % 2) ∧
      (∀ i : ErgNo, natBit (c.item.num 16 16) i = false → t.reg (FAB_ERG_STATUS i) = s.reg (FAB_ERG_STATUS i)) ∧
      ∀ o, (∀ i : ErgNo, o ≠ FAB_ERG_STATUS i) → o ∉ shownRegs → t.reg o = s.reg o := by
  let u := s.reserveErgs (c.item.num 16 16) (c.item.num 32 1 % 2) (List.range 128)
  have hexec : exec .ergReserve s = done (u.finishSt keyConfig stSuccess) := by
    show execErgReserve s = _
    simp only [execErgReserve, hcur]
    rfl
  have hframe := s.reserveErgs_frame (c.item.num 16 16) (c.item.num 32 1 % 2) (List.range 128)
  have hcurU : u.cur keyConfig = some c :=
    (hframe.1.read (fun x => x.cur keyConfig) (fun _ _ => rfl)).trans (State.cur_of_curOp hcur)
  have hreg (o : Nat) (ho : o ∉ shownRegs) : (u.finishSt keyConfig stSuccess).settle.reg o = u.reg o :=
    (State.reg_settle_of_not_shown _ _ ho).trans ((OnlyWork.finish u _ _).reg o)
  have hstatus (i : Nat) : FAB_ERG_STATUS i ∉ shownRegs := switchRegs_not_shown (i := i) (by simp [switchRegs])
  refine gives_done hexec ⟨?result, ?frame, fun i hbit => ?marked, fun i hbit => ?left, fun o ho hshown => ?others⟩
  case result => exact (State.resultOf_of_sched (State.settle_sched _) _).trans (State.resultOf_finish hcurU _)
  case frame =>
    rw [State.finishSt, State.finishSt, State.finish_of_cur hcurU, State.finish_of_cur (State.cur_of_curOp hcur)]
    exact (hframe.put (fun x => x.setCur keyConfig (some { c with result := some { status := stSuccess } })) (fun _ => rfl)
      (fun _ _ => rfl)).settle.1
  case marked =>
    rw [State.fld_of_reg (hreg _ (hstatus i))]
    exact (s.reserveErgs_marks _ _ _ i hbit (.inl (List.mem_range.mpr i.isLt))).trans (Nat.mod_mod _ _)
  case left =>
    refine (hreg _ (hstatus i)).trans (s.reserveErgs_keeps _ _ _ _ (fun j _ hj he => ?_))
    rw [← ergStatus_inj he, hbit] at hj
    cases hj
  case others =>
    exact (hreg o hshown).trans (s.reserveErgs_keeps _ _ _ _ (fun j hj _ => ho ⟨j, List.mem_range.mp hj⟩))

/-! ### Scrubbing of planes (R462, R463) -/

/-- The word put back changes no register. -/
theorem State.setPlaneWord_eq (s : State) (i c d w v : Nat) : ∃ e, s.setPlaneWord i c d w v = s.setErg i e := by
  unfold State.setPlaneWord
  dsimp only
  split
  · exact ⟨_, rfl⟩
  · exact ⟨_, rfl⟩

@[simp] theorem State.setPlaneWord_regs (s : State) (i c d w v : Nat) : (s.setPlaneWord i c d w v).regs = s.regs := by
  obtain ⟨e, he⟩ := s.setPlaneWord_eq i c d w v
  rw [he]
  rfl

@[simp] theorem State.reg_setPlaneWord (s : State) (i c d w v o : Nat) : (s.setPlaneWord i c d w v).reg o = s.reg o := by
  rw [State.reg, State.reg, State.setPlaneWord_regs]

theorem ergCtx_ne_scrub (i : Nat) : FAB_ERG_CTX i ≠ CFG_SCRUB := by simp only [FAB_ERG_CTX, CFG_SCRUB]; omega
theorem ergPlanes_ne_scrub (i : Nat) : FAB_ERG_PLANES i ≠ CFG_SCRUB := by simp only [FAB_ERG_PLANES, CFG_SCRUB]; omega

theorem exec_planeScrubWord (s : State) (i : ErgNo) (c : PlaneNo) (d : Fin 16) (part : Fin 32) (w : Fin 320) (flips : List (Fin 72))
    (hup : s.cfgDieReset i = false) : exec (.planeScrubWord i (some c) d part w flips) s =
      done (s.scrubPlane i c d w (flips.foldl (fun (x : BitVec 72) b => x ^^^ BitVec.ofNat 72 (2 ^ b.val)) 0)) := by
  have hrun : ¬ s.cfgDieReset i = true := by simp [hup]
  exact if_neg hrun

/-- The first uncorrectable word logged and counted, with its event. -/
theorem State.scrubBad_frame (s : State) (i plane d w : Nat) (staging : Bool) (sub : Nat) :
    EventOnly [CFG_SCRUB, CFG_SCRUB_LOG] s (s.scrubBad i plane d w staging sub) := by
  unfold State.scrubBad
  dsimp only
  refine EventOnly.raiseRaw ?_ _ _ _ _
  have hcount : EventOnly [CFG_SCRUB, CFG_SCRUB_LOG] s (s.satFld CFG_SCRUB CFG_SCRUB_UNCORR 1) := (EventOnly.refl _ s).setFld _ _ _ (by simp)
  split
  · exact hcount
  · exact hcount.setFlds _ _ (by simp)

theorem State.scrubBad_uncorr (s : State) (i plane d w : Nat) (staging : Bool) (sub : Nat) :
    (s.scrubBad i plane d w staging sub).fld CFG_SCRUB CFG_SCRUB_UNCORR = satAdd CFG_SCRUB_UNCORR.w (s.fld CFG_SCRUB CFG_SCRUB_UNCORR) 1 := by
  unfold State.scrubBad
  dsimp only
  rw [State.fld_of_reg (State.reg_raiseRaw _ _ _ _ _ CFG_SCRUB (by decide) (by decide))]
  split
  · exact State.fld_satFld_same _ _ _ _ (by decide)
  · rw [State.fld_setFlds_ne _ _ _ _ _ (by decide)]
    exact State.fld_satFld_same _ _ _ _ (by decide)

theorem logs_scrubBad (s : State) (i plane d w : Nat) (staging : Bool) (sub : Nat) : Logs 0x0D02 s (s.scrubBad i plane d w staging sub) := by
  unfold State.scrubBad
  refine logs_raiseRaw _ _ _ _ ?_
  split
  · rw [State.satFld_evt]
  · rw [State.setFlds_evt, State.satFld_evt]

theorem Logs.last {code : Nat} {s t : State} (h : Logs code s t) : LastEvent code t := by
  obtain ⟨e, hlog, hcode⟩ := h
  rw [LastEvent, hlog, List.head?_cons, Option.map_some, hcode]

section Scrub

variable (s : State) (i c d w : Nat) (flip : BitVec 72) (hload : s.planeState i c ≠ plLoading) (hactive : s.ergActive i ≠ some c)
include hload hactive

/-- Of a plane that is not active, a word that the code corrects is put back and counted. -/
theorem State.scrubPlane_corrects (v : BitVec 72)
    (hread : oasDecode (oasEncode (natBits (s.planeWords i c d).toNat (64 * w) 64) ^^^ flip) = .corrected v) :
    s.scrubPlane i c d w flip = (s.setPlaneWord i c d w (natBits v.toNat 0 64)).satFld CFG_SCRUB CFG_SCRUB_CORR 1 := by
  have hstill : ((s.setPlaneWord i c d w (natBits v.toNat 0 64)).satFld CFG_SCRUB CFG_SCRUB_CORR 1).ergActive i ≠ some c := by
    rw [State.ergActive_of_reg (s := s)]
    · exact hactive
    · exact (State.reg_setFld_ne _ _ _ _ _ (ergCtx_ne_scrub i)).trans (s.reg_setPlaneWord _ _ _ _ _ _)
  simp only [State.scrubPlane, if_neg hload, hread, hstill, false_and, if_false]

/-- One that it cannot correct makes the plane INVALID, unless that is a free snapshot plane. -/
theorem State.scrubPlane_spoils (hread : oasDecode (oasEncode (natBits (s.planeWords i c d).toNat (64 * w) 64) ^^^ flip) = .bad)
    (hsnap : s.planeState i c ≠ plSnapFree) : ∃ v, s.scrubPlane i c d w flip =
      (((s.setPlaneWord i c d w v).scrubBad i c d w false 1).dropClaims i c).setPlaneState i c plInvalid := by
  simp only [State.scrubPlane, if_neg hload, hread, if_neg hactive, if_neg hsnap]
  exact ⟨_, rfl⟩

end Scrub

theorem planeScrubWord_corrects (s : State) (i : ErgNo) (c : PlaneNo) (d : Fin 16) (part : Fin 32) (w : Fin 320) (flips : List (Fin 72))
    (hup : s.cfgDieReset i = false) (hload : s.planeState i c ≠ plLoading) (hactive : s.ergActive i ≠ some c.val) (v : BitVec 72)
    (hread : oasDecode (oasEncode (natBits (s.planeWords i c d).toNat (64 * w) 64) ^^^
      flips.foldl (fun (x : BitVec 72) b => x ^^^ BitVec.ofNat 72 (2 ^ b.val)) 0) = .corrected v) :
    Gives (.planeScrubWord i (some c) d part w flips) s fun t =>
      t.fld CFG_SCRUB CFG_SCRUB_CORR = satAdd CFG_SCRUB_CORR.w (s.fld CFG_SCRUB CFG_SCRUB_CORR) 1 ∧
      RegsOnly [CFG_SCRUB] (s.setPlaneWord i c d w (natBits v.toNat 0 64)) t := by
  refine gives_done ((exec_planeScrubWord s i c d part w flips hup).trans
    (congrArg done (s.scrubPlane_corrects i c d w _ hload hactive v hread))) ⟨?_, ((RegsOnly.refl _ _).satFld _ _ _ (by simp)).settle⟩
  rw [State.fld_settle_of_not_shown _ _ _ (by decide), State.fld_satFld_same _ _ _ _ (by decide), State.fld_of_reg (s.reg_setPlaneWord _ _ _ _ _ _)]

theorem planeScrubWord_spoils (s : State) (i : ErgNo) (c : PlaneNo) (d : Fin 16) (part : Fin 32) (w : Fin 320) (flips : List (Fin 72))
    (hup : s.cfgDieReset i = false) (hload : s.planeState i c ≠ plLoading) (hactive : s.ergActive i ≠ some c.val)
    (hread : oasDecode (oasEncode (natBits (s.planeWords i c d).toNat (64 * w) 64) ^^^
      flips.foldl (fun (x : BitVec 72) b => x ^^^ BitVec.ofNat 72 (2 ^ b.val)) 0) = .bad) (hsnap : s.planeState i c ≠ plSnapFree) :
    Gives (.planeScrubWord i (some c) d part w flips) s fun t => t.planeState i c = plInvalid ∧ LastEvent 0x0D02 t ∧
      t.fld CFG_SCRUB CFG_SCRUB_UNCORR = satAdd CFG_SCRUB_UNCORR.w (s.fld CFG_SCRUB CFG_SCRUB_UNCORR) 1 ∧
      KeepsRegs ([CFG_SCRUB, CFG_SCRUB_LOG, FAB_ERG_PLANES i] ++ eventRegs) s t := by
  obtain ⟨v, hspoils⟩ := s.scrubPlane_spoils i c d w _ hload hactive hread hsnap
  let u := (s.setPlaneWord i c d w v).scrubBad i c d w false 1
  have hbad : EventOnly [CFG_SCRUB, CFG_SCRUB_LOG] (s.setPlaneWord i c d w v) u := State.scrubBad_frame _ _ _ _ _ _ _
  have hregs : KeepsRegs ([CFG_SCRUB, CFG_SCRUB_LOG, FAB_ERG_PLANES i] ++ eventRegs) s (u.dropClaims i c) :=
    ((hbad.2.from_regs (s.setPlaneWord_regs _ _ _ _ _).symm).mono (by simp +contextual)).of_regs rfl
  refine gives_done ((exec_planeScrubWord s i c d part w flips hup).trans (congrArg done hspoils)) ⟨?invalid, ?event, ?count, ?frame⟩
  case invalid => rw [State.planeState_settle, State.planeState_setPlaneState_same _ _ _ _ c.isLt (by decide)]
  case event => exact (logs_scrubBad (s.setPlaneWord i c d w v) i c d w false 1).last
  case count =>
    rw [State.fld_settle_of_not_shown _ _ _ (by decide), State.setPlaneState, State.fld_setFld_ne _ _ _ _ _ _ (ergPlanes_ne_scrub i).symm]
    exact (State.scrubBad_uncorr _ _ _ _ _ _ _).trans (congrArg (satAdd _ · 1) (State.fld_of_reg (s.reg_setPlaneWord _ _ _ _ _ _) _))
  case frame => exact (hregs.setReg _ _ (by simp)).settle

/-- Settles O28: readback, the mark of ergs, and the scrubbed word, each by its own lemma. -/
theorem readbackReserveScrub : Obligations.ReadbackReserveScrub := by
  refine ⟨?readback, ergReserve_marks, ?scrub⟩
  case readback =>
    intro s c hcur item i p mem need hup
    exact ⟨readback_too_small s c hcur hup, readback_writes s c hcur hup⟩
  case scrub =>
    intro s i c d part w flips hup hload hactive flip raw
    exact ⟨planeScrubWord_corrects s i c d part w flips hup hload hactive, planeScrubWord_spoils s i c d part w flips hup hload hactive⟩

end Sys2Proof.Machine
end

section
/-!
SUPPORT. What reading the source of an image leaves alone (R283, R303, R458, R561).
-/
namespace Sys2Proof.Machine

/-! ### What an access of external memory leaves alone (R283, R303, R561) -/

/-- Everything but the registers, events, host side, domains, controllers, memory engine and free values is as before. -/
def OnlyMemory (s t : State) : Prop :=
  { t with regs := s.regs, evt := s.evt, host := s.host, pwr := s.pwr, ctl := s.ctl, mem := s.mem, freeCtr := s.freeCtr } = s

namespace OnlyMemory

variable {s t u : State}

theorem refl (s : State) : OnlyMemory s s := rfl

/-- What reads none of these is as before. -/
theorem read {α : Type} (h : OnlyMemory s t) (f : State → α)
    (hf : ∀ (x : State) r e b p c m n, f { x with regs := r, evt := e, host := b, pwr := p, ctl := c, mem := m, freeCtr := n } = f x) : f t = f s :=
  (hf t s.regs s.evt s.host s.pwr s.ctl s.mem s.freeCtr).symm.trans (congrArg f h)

theorem sched (h : OnlyMemory s t) : t.sched = s.sched := h.read State.sched (fun _ _ _ _ _ _ _ _ => rfl)

theorem trans (h : OnlyMemory s t) (k : OnlyMemory t u) : OnlyMemory s u := by
  let back (x : State) : State :=
    { x with regs := s.regs, evt := s.evt, host := s.host, pwr := s.pwr, ctl := s.ctl, mem := s.mem, freeCtr := s.freeCtr }
  exact (k.read back (fun _ _ _ _ _ _ _ _ => rfl)).trans h

theorem setReg (h : OnlyMemory s t) (off : Nat) (v : Data) : OnlyMemory s (t.setReg off v) := h
theorem setFld (h : OnlyMemory s t) (off : Nat) (f : Fld) (x : Nat) : OnlyMemory s (t.setFld off f x) := h
theorem setFlds (h : OnlyMemory s t) (off : Nat) (l : List (Fld × Nat)) : OnlyMemory s (t.setFlds off l) := h
theorem satFld (h : OnlyMemory s t) (off : Nat) (f : Fld) (n : Nat) : OnlyMemory s (t.satFld off f n) := h
theorem wrapFld (h : OnlyMemory s t) (off : Nat) (f : Fld) (n : Nat) : OnlyMemory s (t.wrapFld off f n) := h
theorem setCtl (h : OnlyMemory s t) (p : Nat) (c : CtlSt) : OnlyMemory s (t.setCtl p c) := h
theorem setDom (h : OnlyMemory s t) (d : Nat) (v : DomSt) : OnlyMemory s (t.setDom d v) := h
theorem spend (h : OnlyMemory s t) (n : Nat) : OnlyMemory s (t.spend n) := h

theorem raise (h : OnlyMemory s t) (c i n : Nat) (v : Data) : OnlyMemory s (t.raise c i n v) := by
  have hevent : OnlyRegsEvents t (t.raise c i n v) := ((EventOnly.refl [] t).raise c i n v).1
  let back (x : State) : State :=
    { x with regs := s.regs, evt := s.evt, host := s.host, pwr := s.pwr, ctl := s.ctl, mem := s.mem, freeCtr := s.freeCtr }
  exact (hevent.read back (fun _ _ _ _ => rfl)).trans h

theorem raiseReg (h : OnlyMemory s t) (c i n off : Nat) : OnlyMemory s (t.raiseReg c i n off) := h.raise c i n _

theorem cryLog (h : OnlyMemory s t) (kind req dom a : Nat) : OnlyMemory s (t.cryLog kind req dom a) := by
  unfold State.cryLog
  dsimp only
  refine raiseReg ?_ _ _ _ _
  split
  · exact h
  · exact h.setFlds _ _

theorem integFail (h : OnlyMemory s t) (d kind req a : Nat) : OnlyMemory s (t.integFail d kind req a) := (h.satFld _ _ _).cryLog _ _ _ _

theorem meetDomain (h : OnlyMemory s t) (d : Nat) : OnlyMemory s (t.meetDomain d).1 := by
  unfold State.meetDomain
  dsimp only
  split
  · exact h
  split
  · exact h
  split
  · exact h
  split
  · exact (h.setDom _ _).raise _ _ _ _
  split
  · exact h
  · exact h

theorem ite {c : Prop} [Decidable c] (ht : OnlyMemory s t) (hu : OnlyMemory s u) : OnlyMemory s (if c then t else u) := by
  split
  · exact ht
  · exact hu

/-! #### A line read and written -/

theorem dramUncorr (h : OnlyMemory s t) (p line src req : Nat) : OnlyMemory s (t.dramUncorr p line src req) := by
  unfold State.dramUncorr
  dsimp only
  refine raiseReg ?_ _ _ _ _
  split
  · exact h.satFld _ _ _
  · exact (h.satFld _ _ _).setFlds _ _

theorem dramRemap (h : OnlyMemory s t) (p line : Nat) (v : DramLine) (poison : Bool) (cause : Nat) :
    OnlyMemory s (t.dramRemap p line v poison cause) := by
  unfold State.dramRemap
  dsimp only
  split
  · exact h.setCtl _ _
  · exact (h.setFld _ _ _).raiseReg _ _ _ _

theorem linkMeets (h : OnlyMemory s t) (p : Nat) (fails : ReadErrs) : OnlyMemory s (t.linkMeets p fails).1 := by
  unfold State.linkMeets
  dsimp only
  split
  · split
    · exact h.setCtl _ _
    · exact h
  · exact h

theorem dramReadLine (h : OnlyMemory s t) (p line req src : Nat) (fails : ReadErrs) : OnlyMemory s (t.dramReadLine p line req src fails).1 := by
  unfold State.dramReadLine
  generalize (t.ctlAt p).stored line = held
  obtain ⟨v, poison⟩ := held
  have hmeets := h.linkMeets p fails
  generalize t.linkMeets p fails = r at hmeets
  obtain ⟨u, f⟩ := r
  have hcount : OnlyMemory s (if f.link = 0 then u else u.satFld (DRMC_ERR2 p) DRMC_ERR2_LINK f.link) := hmeets.ite (hmeets.satFld _ _ _)
  dsimp only
  generalize (if f.link = 0 then u else u.satFld (DRMC_ERR2 p) DRMC_ERR2_LINK f.link) = w at hcount
  rw [apply_ite Prod.fst, apply_ite Prod.fst]
  refine (h.dramUncorr _ _ _ _).ite (((hcount.dramUncorr _ _ _ _).dramRemap _ _ _ _ _).ite ?_)
  generalize lineDecode _ = dec
  have hreplay (c : Bool) : OnlyMemory s (if c then w.satFld (DRMC_ERR2 p) DRMC_ERR2_REPLAY 1 else w) := (hcount.satFld _ _ _).ite hcount
  cases dec with
  | corrected l => exact ((hreplay _).satFld _ _ _).setCtl _ _
  | clean => exact hreplay _
  | bad => exact hreplay _

theorem dramActivate (h : OnlyMemory s t) (p line req : Nat) : OnlyMemory s (t.dramActivate p line req) := by
  unfold State.dramActivate
  dsimp only
  have hmet (c : CtlSt) : OnlyMemory s (((((t.spend 1).setCtl p c).spend 1).satFld (DRMC_RH_LOG p) DRMC_RH_LOG_THROTTLES 1)) :=
    (((h.spend 1).setCtl p c).spend 1).satFld _ _ _
  exact (h.spend 1).ite (((h.spend 1).setCtl p _).ite ((((hmet _).setFld _ _ _).ite (hmet _)).ite ((hmet _).setFlds _ _)))

theorem cacheTouch (h : OnlyMemory s t) (p line : Nat) : OnlyMemory s (t.cacheTouch p line) := by
  unfold State.cacheTouch
  dsimp only
  split
  · exact h
  · exact (h.setCtl _ _).spend _

theorem writeSealed (h : OnlyMemory s t) (p line d a : Nat) (old : DramLine) (plain : BitVec 512) :
    OnlyMemory s (t.writeSealed p line d a old plain) := by
  unfold State.writeSealed
  cases t.strictOf a with
  | none => exact h.setCtl _ _
  | some w => exact (((h.setCtl _ _).satFld _ _ _).raiseReg _ _ _ _).ite (h.setCtl _ _)

/-! #### Requests performed and answered -/

theorem checkRequest (h : OnlyMemory s t) (req a : Nat) (op : LineOp) : OnlyMemory s (t.checkRequest req a op).1 := by
  unfold State.checkRequest
  cases t.keyDomOf a with
  | none => exact h.cryLog _ _ _ _
  | some d =>
    dsimp only
    rw [apply_ite Prod.fst]
    refine ((h.satFld _ _ _).cryLog _ _ _ _).ite ?_
    cases t.winOf a with
    | none => exact h
    | some w => exact h

theorem checkController (h : OnlyMemory s t) (p : Nat) : OnlyMemory s (t.checkController p).1 := by
  unfold State.checkController
  dsimp only
  rw [apply_ite Prod.fst, apply_ite Prod.fst, apply_ite Prod.fst]
  exact h.ite ((h.meetDomain _).ite ((h.meetDomain _).ite h))

theorem translate (h : OnlyMemory s t) (req a : Nat) (op : LineOp) : OnlyMemory s (t.translate req a op).1 := by
  unfold State.translate
  have hrequest := h.checkRequest req a op
  generalize t.checkRequest req a op = r at hrequest
  obtain ⟨u, st | ⟨p, q⟩⟩ := r
  · exact hrequest
  · have hctl := OnlyMemory.checkController hrequest p
    generalize hr : State.checkController u p = r at hctl
    dsimp only
    rw [hr]
    obtain ⟨w, n⟩ := r
    cases n with
    | zero => exact hctl
    | succ n => exact hctl

theorem performLine (h : OnlyMemory s t) (p : Nat) (fails : ReadErrs) (q : DramReq) : OnlyMemory s (t.performLine p fails q).1 := by
  unfold State.performLine
  have hopen := (h.dramActivate p q.line q.req).cacheTouch p q.line
  generalize (t.dramActivate p q.line q.req).cacheTouch p q.line = u at hopen
  have hline (v : State) (hv : OnlyMemory s v) (src : Nat) := hv.dramReadLine p q.line q.req src fails
  dsimp only
  cases q.op with
  | read =>
    have hread := hline _ (hopen.wrapFld (DRMC_CNT_RD p) DRMC_CNT_RD_LINES 1) 0
    dsimp only
    generalize State.dramReadLine _ _ _ _ _ _ = r at hread ⊢
    obtain ⟨v, _ | l⟩ := r
    · exact hread
    · dsimp only
      rw [apply_ite Prod.fst]
      refine hread.ite ?_
      cases v.openLine q.dom q.addr l with
      | some x => exact hread
      | none => exact hread.integFail _ _ _ _
  | write data mask =>
    have hput (v : State) (hv : OnlyMemory s v) (old : DramLine) (x : BitVec 512) :
        OnlyMemory s ((v.wrapFld (DRMC_CNT_WR p) DRMC_CNT_WR_LINES 1).writeSealed p q.line q.dom q.addr old x) :=
      (hv.wrapFld _ _ _).writeSealed _ _ _ _ _ _
    have hread := hline _ hopen 1
    dsimp only
    rw [apply_ite Prod.fst]
    refine (hput _ hopen _ _).ite ?_
    generalize State.dramReadLine _ _ _ _ _ _ = r at hread ⊢
    obtain ⟨v, _ | l⟩ := r
    · exact hread
    · dsimp only
      cases v.openLine q.dom q.addr l with
      | some x => exact hput _ hread _ _
      | none => exact hread.integFail _ _ _ _

theorem bar4Fail (h : OnlyMemory s t) (write : Bool) (status off : Nat) : OnlyMemory s (t.bar4Fail write status off) := by
  unfold State.bar4Fail
  have hcounted (v : HostSt) : OnlyMemory s { t with host := v } := h
  exact OnlyMemory.raiseReg ((hcounted _).ite ((hcounted _).setFlds _ _)) _ _ _ _

theorem debugAnswer (h : OnlyMemory s t) (write : Bool) (status : Nat) (bytes : List Byte) : OnlyMemory s (t.debugAnswer write status bytes) := by
  unfold State.debugAnswer
  exact (h.setFld _ _ _).ite (h.ite (h.setReg _ _))

theorem answerMem (h : OnlyMemory s t) (req : Nat) (write : Bool) (off id status : Nat) (bytes : List Byte) :
    OnlyMemory s (t.answerMem req write off id status bytes) := by
  unfold State.answerMem
  dsimp only
  have hanswered : OnlyMemory s { t with mem := { t.mem with answers := ({ id := id, status := status, bytes := bytes } :: t.mem.answers).take 64 } } := h
  exact (hanswered.debugAnswer _ _ _).ite ((hanswered.bar4Fail _ _ _).ite hanswered)

theorem dramServe (h : OnlyMemory s t) (p : Nat) (fails : ReadErrs) : OnlyMemory s (t.dramServe p fails) := by
  unfold State.dramServe
  refine h.ite ?_
  have hspent : OnlyMemory s (if (t.ctlAt p).throttled.isEmpty then t else t.spend 1) := h.ite (h.spend 1)
  generalize (if (t.ctlAt p).throttled.isEmpty then t else t.spend 1) = u at hspent
  dsimp only
  cases u.dramFirst p _ [] (u.ctlAt p).queue with
  | none => exact hspent
  | some q => exact ((hspent.setCtl _ _).performLine _ _ _).answerMem _ _ _ _ _ _

theorem dramDrain (h : OnlyMemory s t) (p : Nat) : OnlyMemory s (t.dramDrain p) := by
  unfold State.dramDrain
  exact List.foldlRecOn _ _ h fun u hu n _ => hu.dramServe p {}

theorem dramAcc (h : OnlyMemory s t) (req addr : Nat) (acc : MemAcc) : OnlyMemory s (t.dramAcc req addr acc).1 := by
  unfold State.dramAcc
  have hdrained : OnlyMemory s (((t.accTargets addr acc).map (·.1)).eraseDups.foldl (fun s p => s.dramDrain p) t) :=
    List.foldlRecOn _ _ h fun u hu p _ => hu.dramDrain p
  dsimp only
  rw [apply_ite Prod.fst]
  refine hdrained.ite ?_
  refine List.foldlRecOn (motive := fun x : State × Nat × List Byte => OnlyMemory s x.1) _ _ hdrained fun x hx l _ => ?_
  rw [apply_ite Prod.fst]
  refine hx.ite ?_
  have htranslated := hx.translate req l.1 l.2.2.2
  generalize x.1.translate req l.1 l.2.2.2 = r at htranslated ⊢
  obtain ⟨u, st | ⟨p, q⟩⟩ := r
  · exact htranslated
  · have hperformed := OnlyMemory.performLine htranslated p {} q
    dsimp only
    cases l.2.2.2 with
    | read => exact hperformed
    | write data mask => exact hperformed

/-! #### A source read -/

theorem readSource (h : OnlyMemory s t) (req space addr len : Nat) (hostFail : Bool) : OnlyMemory s (t.readSource req space addr len hostFail).1 := by
  unfold State.readSource
  have hread := h.dramAcc req addr (.read len)
  dsimp only
  simp only [apply_ite Prod.fst]
  exact (h.ite (h.ite h)).ite (hread.ite (hread.ite hread))

theorem loadRead (h : OnlyMemory s t) (src : LoadSrc) (off len : Nat) (fail : Bool) : OnlyMemory s (t.loadRead src off len fail).1 := by
  cases src with
  | host a => exact h.readSource 21 0 (a + off) len fail
  | dram a => exact h.readSource 21 1 (a + off) len false
  | slot k => exact h

end OnlyMemory
end Sys2Proof.Machine
end

section
/-!
SUPPORT. The statement on the loads of images: the journal's step, the frames of a load, and its end (R73, R444 to R469).
-/
namespace Sys2Proof.Machine

/-! ### The journal's step (R432, R461) -/

theorem State.journalPut_sched (s : State) (e : Nat) (j : JEntry) : (s.journalPut e j).sched = s.sched := State.hostWrite_sched _ _ _

/-- The step recorded in the item, where the executor performs one. -/
def State.stepPut (s : State) (k step : Nat) : State :=
  match s.cur k with
  | some c => s.setCur k (some { c with step := step })
  | none => s

theorem State.cur_stepPut (s : State) (k step : Nat) : (s.stepPut k step).cur k = (s.cur k).map fun c => { c with step := step } := by
  unfold State.stepPut
  cases h : s.cur k with
  | some c => exact State.cur_setCur_same s k _
  | none => exact h

theorem OnlyWork.stepPut (s : State) (k step : Nat) : OnlyWork s (s.stepPut k step) := by
  unfold State.stepPut
  cases s.cur k with
  | some c => exact OnlyWork.setCur s k _
  | none => exact OnlyWork.refl s

/-- The step recorded in the executor's entry of the journal, where it is started. -/
def State.stepRecord (s : State) (k step record : Nat) : State :=
  match journalEntry k with
  | some e =>
    let j := s.jentry e
    if j.state = 1 then s.journalPut e { j with body := BitVec.ofNat 384 (step % 2 ^ 32 + 2 ^ 32 * record) } else s
  | none => s

theorem State.journalStep_eq (s : State) (k step record : Nat) : s.journalStep k step record = (s.stepPut k step).stepRecord k step record := rfl

theorem State.stepRecord_sched (s : State) (k step record : Nat) : (s.stepRecord k step record).sched = s.sched := by
  unfold State.stepRecord
  cases journalEntry k with
  | none => rfl
  | some e =>
    dsimp only
    split
    · exact State.journalPut_sched _ _ _
    · rfl

theorem OnlyWork.stepRecord (s : State) (k step record : Nat) : OnlyWork s (s.stepRecord k step record) := by
  unfold State.stepRecord
  cases journalEntry k with
  | none => exact OnlyWork.refl s
  | some e =>
    dsimp only
    split
    · exact OnlyWork.journalPut _ _ _
    · exact OnlyWork.refl s

theorem OnlyWork.journalStep (s : State) (k step record : Nat) : OnlyWork s (s.journalStep k step record) := by
  rw [s.journalStep_eq]
  exact (OnlyWork.stepPut s k step).trans (OnlyWork.stepRecord _ k step record)

theorem State.cur_journalStep (s : State) (k step record : Nat) :
    (s.journalStep k step record).cur k = (s.cur k).map fun c => { c with step := step } := by
  rw [s.journalStep_eq]
  exact (State.cur_of_sched (State.stepRecord_sched _ _ _ _) k).trans (s.cur_stepPut k step)

theorem OnlyWork.framesStep (s : State) (ld : LoadSt) : OnlyWork s (s.framesStep ld) := by
  unfold State.framesStep
  split
  · cases s.cur keyConfig with
    | none => exact OnlyWork.refl s
    | some c =>
      dsimp only
      split
      · exact OnlyWork.journalStep _ _ _ _
      · exact OnlyWork.refl s
  · exact OnlyWork.refl s

/-- The item that is performed stays in the configuration engine. -/
theorem State.cur_framesStep {s : State} {c : Running} (ld : LoadSt) (h : s.cur keyConfig = some c) :
    ∃ d, (s.framesStep ld).cur keyConfig = some d := by
  unfold State.framesStep
  simp only [h]
  split
  · split
    · exact ⟨_, (State.cur_journalStep _ _ _ _).trans (by rw [h]; rfl)⟩
    · exact ⟨c, h⟩
  · exact ⟨c, h⟩

/-! ### The engine's state in CFG.STATUS (R460) -/

theorem State.engine_settle (s : State) : s.settle.fld CFG_STATUS CFG_STATUS_ENGINE = s.fld CFG_STATUS CFG_STATUS_ENGINE := by
  unfold State.settle
  dsimp only
  rw [State.fld_setReg_ne _ _ _ _ _ (by decide), State.fld_setFlds_same]
  dsimp only [List.foldl_cons, List.foldl_nil]
  rw [Fld.get_put_ne CFG_STATUS_ERR _ _ _ (by decide) (by decide), Fld.get_put_ne CFG_STATUS_DONE _ _ _ (by decide) (by decide),
    State.reg_setFld_ne _ _ _ _ _ (by decide), State.fld]

theorem State.engine_cfgEngine (s : State) (n : Nat) (h : n < 16) : (s.cfgEngine n).fld CFG_STATUS CFG_STATUS_ENGINE = n :=
  (s.fld_setFld_same _ _ _ (by decide)).trans (Nat.mod_eq_of_lt h)

/-! ### IMAGE_LOAD (R458, R469) -/

section Load

variable (s : State) (c : Running) (hnone : s.store.load = none) (hboot : s.store.bootDue = false)
  (hruns : s.secStill = false) (hcur : s.curOp keyConfig opImageLoad = some c)
include hnone hboot hruns hcur

theorem exec_imageLoad : exec (.imageLoad false) s =
    if s.attestFailed then done (s.cmdRefused keyConfig 11)
    else if c.step = 4 then done s.imageDone
    else if c.step = 3 then done (s.slotNext c.item (c.item.num 25 1 - 1))
    else done (s.loadBegin c.item false) := by
  show execImageLoad false s = _
  simp only [execImageLoad, hnone, hboot, hruns, hcur, Option.isSome_none, Bool.false_eq_true, or_self, if_false]

theorem imageLoad_refused (hattest : s.attestFailed = true) : Gives (.imageLoad false) s fun t =>
    t.resultOf keyConfig = some { status := stRefused, detail := 11 } ∧ RegsOnly [] (s.cmdRefused keyConfig 11) t :=
  gives_finish ((exec_imageLoad s c hnone hboot hruns hcur).trans (if_pos hattest)) (State.cur_of_curOp hcur)

end Load

/-- The source that an item names. -/
def Item.loadSrc (it : Item) : LoadSrc := if it.num 24 1 % 4 = 0 then .host (it.num 16 8) else .dram (it.num 16 8)

/-- The load of an item for the planes, before its first stage. -/
def Item.planesLoad (it : Item) : LoadSt :=
  { src := it.loadSrc, len := it.num 28 4, target := 0, flags := it.num 26 1, ergs := BitVec.ofNat 128 (it.num 32 16) }

/-- An item for the planes whose first stage passes is in progress. -/
theorem State.loadBegin_planes (s u : State) (it : Item) (ld : LoadSt) (hplanes : it.num 25 1 = 0)
    (hstage : s.stageOne it.planesLoad false = (u, .passed ld)) (hframes : manCount ld.manifest ≠ 0) :
    s.loadBegin it false = ((u.journalStep keyConfig 1 0).setLoad (some ld)).cfgEngine 2 := by
  unfold Item.planesLoad Item.loadSrc at hstage
  simp only [State.loadBegin, hplanes, hstage, State.loadInto, if_neg hframes, ne_eq, not_true_eq_false, false_and, if_false, if_true]

theorem imageLoad_begins (s u : State) (c : Running) (ld : LoadSt) (hnone : s.store.load = none) (hboot : s.store.bootDue = false)
    (hruns : s.secStill = false) (hcur : s.curOp keyConfig opImageLoad = some c) (hattest : s.attestFailed = false) (hstep : c.step < 3)
    (hplanes : c.item.num 25 1 = 0)
    (hstage : s.stageOne c.item.planesLoad false = (u, .passed ld)) (hframes : manCount ld.manifest ≠ 0) :
    Gives (.imageLoad false) s fun t => t.store.load = some ld ∧ t.fld CFG_STATUS CFG_STATUS_ENGINE = 2 ∧ KeepsRegs [CFG_STATUS] u t ∧
      t.fab = u.fab ∧ t.pins = u.pins := by
  have hexec : exec (.imageLoad false) s = done (((u.journalStep keyConfig 1 0).setLoad (some ld)).cfgEngine 2) := by
    rw [exec_imageLoad s c hnone hboot hruns hcur, ← s.loadBegin_planes u c.item ld hplanes hstage hframes, hattest,
      if_neg (by decide), if_neg (by omega), if_neg (by omega)]
  have hwork := OnlyWork.journalStep u keyConfig 1 0
  generalize u.journalStep keyConfig 1 0 = v at hexec hwork
  refine gives_done hexec ⟨?load, ?engine, ?regs, ?fab, ?pins⟩
  case load => rw [State.settle_store]; rfl
  case engine => rw [State.engine_settle, State.engine_cfgEngine _ _ (by decide)]
  case regs => exact (KeepsRegs.setReg ((KeepsRegs.refl _ u).of_regs (u := v.setLoad (some ld)) hwork.regs) _ _ (by simp)).settle
  case fab => rw [State.settle_fab, State.cfgEngine, State.setFld_fab]; exact hwork.fab
  case pins => rw [State.settle_pins, State.cfgEngine, State.setFld_pins]; exact hwork.read State.pins (fun _ _ _ _ => rfl)

/-! ### A frame that passes (R446, R449, R451) -/

theorem LoadSt.next_advance (ld : LoadSt) (b : List Byte) : (ld.advance b).next = ld.next + 1 := by
  unfold LoadSt.advance
  dsimp only
  split
  · rfl
  · split
    · rfl
    · rfl

theorem LoadSt.manifest_advance (ld : LoadSt) (b : List Byte) : (ld.advance b).manifest = ld.manifest := by
  unfold LoadSt.advance
  dsimp only
  split
  · rfl
  · split
    · rfl
    · rfl

theorem LoadSt.target_of_takes {ld : LoadSt} {i : Nat} (h : ld.takes i = true) : ld.target = 0 := by
  simp only [LoadSt.takes, Bool.and_eq_true, beq_iff_eq] at h
  exact h.1

/-- A load that is not at its last frame goes on. -/
theorem State.frameNext_goes (s : State) (it : Option Item) (ld : LoadSt) (b : List Byte) (hmore : ld.next + 1 ≠ manCount ld.manifest) :
    s.frameNext it ld b = s.setLoad (some (ld.advance b)) := by
  rw [← ld.next_advance b, ← ld.manifest_advance b] at hmore
  exact if_neg hmore

section Take

variable (s : State) (it : Option Item) (ld : LoadSt) (b : List Byte)

theorem State.frameTake_fault (cause : Nat) (h : ld.frameFault b = some cause) :
    s.frameTake it ld b true = s.loadFails ld stImageRejected cause := by
  simp only [State.frameTake, h]

/-- A frame for a slot is kept. -/
theorem State.frameTake_slot (h : ld.frameFault b = none) (hslot : ld.target ≠ 0)
    (hmap : frameIsMem b = true ∨ s.mapStale (duneErg (frameDune b)) (fileNum ld.manifest 28 4) (framePayload b) = false) :
    s.frameTake it ld b true = s.frameNext it ld b := by
  have hfits : ¬ ((ld.target ≠ 0 ∨ (!ld.takes (duneErg (frameDune b))) = true) ∧ (!frameIsMem b) = true ∧
      s.mapStale (duneErg (frameDune b)) (fileNum ld.manifest 28 4) (framePayload b) = true) := by
    rintro ⟨-, hplane, hstale⟩
    obtain hmem | hfresh := hmap
    · rw [hmem] at hplane
      exact absurd hplane (by decide)
    · rw [hfresh] at hstale
      exact absurd hstale (by decide)
  simp only [State.frameTake, h]
  rw [if_neg hfits, if_pos hslot, if_pos trivial]

section Planes

variable (h : ld.frameFault b = none) (htakes : ld.takes (duneErg (frameDune b)) = true)
  (hdie : s.cfgDieReset (duneErg (frameDune b)) = false)
include h htakes hdie

/-- A memory frame of an erg that the load writes is staged. -/
theorem State.frameTake_mem (hmem : frameIsMem b = true) : s.frameTake it ld b true = (s.stageFrame b).frameNext it ld b := by
  simp only [State.frameTake, h, LoadSt.target_of_takes htakes, htakes, hdie, hmem, ne_eq, not_true_eq_false, Bool.not_true, Bool.false_eq_true,
    or_self, false_and, if_false, if_true]

/-- A plane frame between the first and the last of its plane is put there. -/
theorem State.frameTake_plane (hmem : frameIsMem b = false) (hmay : s.frameRefusal ld b = none) (hfirst : ld.next % 16 ≠ 0) (hlast : ld.next % 16 ≠ 15) :
    s.frameTake it ld b true = (s.putFrame b false (manImage ld.manifest)).frameNext it ld b := by
  simp only [State.frameTake, h, LoadSt.target_of_takes htakes, htakes, hdie, hmem, hmay, if_neg hfirst, if_neg hlast, decide_eq_false hfirst, ne_eq,
    not_true_eq_false, Bool.not_true, Bool.false_eq_true, or_self, false_and, if_false]

end Planes
end Take

/-- The staging that a memory frame enters is its context's. -/
theorem State.staging_stageFrame (s : State) (b : List Byte) :
    ((s.stageFrame b).erg (duneErg (frameDune b))).staging.map (fun x => x.ctx) = some (frameCtx b) := by
  unfold State.stageFrame
  dsimp only
  rw [State.erg_setErg_same]
  cases (s.erg (duneErg (frameDune b))).staging with
  | none => rfl
  | some x =>
    dsimp only [Option.map_some]
    split
    case isTrue hsame => rw [hsame]
    case isFalse => rfl

theorem ErgSt.plane_setPlane_same (e : ErgSt) (p : Nat) (v : PlaneSt) : (e.setPlane p v).plane p = v := by rw [ErgSt.plane_setPlane, if_pos rfl]

/-- A dune's claims change the direction fields of its plane alone. -/
theorem State.erg_claimDune (s : State) (i c d : Nat) (p : Payload) :
    ∃ dirs pin, (s.claimDune i c d p).erg i = (s.erg i).setPlane c { (s.erg i).plane c with dirs := dirs, pinDir := pin } :=
  ⟨_, _, State.erg_setErg_same s i _⟩

theorem State.frame_claimDune (s : State) (i c d n : Nat) (p : Payload) :
    (((s.claimDune i c d p).erg i).plane c).frame n = ((s.erg i).plane c).frame n := by
  obtain ⟨dirs, pin, herg⟩ := s.erg_claimDune i c d p
  rw [herg, ErgSt.plane_setPlane_same]
  rfl

theorem PlaneSt.frame_set (pl : PlaneSt) (d : Nat) (p : Payload) : ({ pl with frames := pl.frames.set (fun _ => 0) d p } : PlaneSt).frame d = p :=
  SMap.get_set_same _ _ _ _

/-- A payload put into a dune of a plane. -/
def State.putPayload (s : State) (i c d : Nat) (p : Payload) : State :=
  s.setErg i ((s.erg i).setPlane c { (s.erg i).plane c with frames := ((s.erg i).plane c).frames.set (fun _ => 0) d p })

theorem State.frame_putPayload (s : State) (i c d : Nat) (p : Payload) : (((s.putPayload i c d p).erg i).plane c).frame d = p := by
  rw [State.putPayload, State.erg_setErg_same, ErgSt.plane_setPlane_same, PlaneSt.frame_set]

/-- A frame that is not its plane's first is put, with its claims where they are not its primary's. -/
theorem State.putFrame_later (s : State) (b : List Byte) (image : Nat) :
    s.putFrame b false image =
      let i := duneErg (frameDune b)
      let u := s.putPayload i (frameCtx b) (duneLocal (frameDune b)) (framePayload b)
      if u.twinClaims i (frameCtx b) then u else u.claimDune i (frameCtx b) (duneLocal (frameDune b)) (framePayload b) := rfl

/-- The payload of a frame that is put stands in its plane. -/
theorem State.frame_putFrame (s : State) (b : List Byte) (image : Nat) :
    (((s.putFrame b false image).erg (duneErg (frameDune b))).plane (frameCtx b)).frame (duneLocal (frameDune b)) = framePayload b := by
  rw [s.putFrame_later b image]
  dsimp only
  split
  · exact s.frame_putPayload _ _ _ _
  · exact (State.frame_claimDune _ _ _ _ _ _).trans (s.frame_putPayload _ _ _ _)

theorem State.stageFrame_regs (s : State) (b : List Byte) : (s.stageFrame b).regs = s.regs := rfl

theorem State.claimDune_regs (s : State) (i c d : Nat) (p : Payload) : (s.claimDune i c d p).regs = s.regs := rfl

theorem State.putFrame_regs (s : State) (b : List Byte) (image : Nat) : (s.putFrame b false image).regs = s.regs := by
  rw [s.putFrame_later b image]
  dsimp only
  split
  · rfl
  · exact State.claimDune_regs _ _ _ _ _

/-- A load that a passed frame takes on: the load advanced, the registers as before, and the erg's content as the frame left it. -/
theorem State.setLoad_settled {s t : State} (ld : LoadSt) (h : t.regs = s.regs) :
    (t.setLoad (some ld)).settle.store.load = some ld ∧ KeepsRegs [] s (t.setLoad (some ld)).settle ∧ (t.setLoad (some ld)).settle.fab = t.fab :=
  ⟨by rw [State.settle_store]; rfl, ((KeepsRegs.refl [] s).of_regs (u := t.setLoad (some ld)) h).settle, by rw [State.settle_fab]; rfl⟩

/-! ### A load that fails (R451) -/

theorem State.spoilPlane_sched (s : State) (p : Nat) : (s.spoilPlane p).sched = s.sched := by
  unfold State.spoilPlane
  dsimp only
  rw [apply_ite State.sched, State.setFld_sched, ite_self]
  rfl

theorem State.spoilLoad_sched (s : State) (ld : LoadSt) : (s.spoilLoad ld).sched = s.sched := by
  have hplanes : (ld.planes.foldl (fun s p => s.spoilPlane p) s).sched = s.sched :=
    List.foldlRecOn (motive := fun u : State => u.sched = s.sched) _ _ rfl fun u hu p _ => (u.spoilPlane_sched p).trans hu
  unfold State.spoilLoad
  generalize ld.planes.foldl (fun s p => s.spoilPlane p) s = u at hplanes ⊢
  dsimp only
  split
  · exact hplanes
  · exact hplanes

/-- The load of an item that fails is ended with the status and the cause. -/
theorem State.loadFails_item (s : State) (ld : LoadSt) (st cause : Nat) (hpower : ld.powerUp = false) (hwake : ld.wake = false) :
    s.loadFails ld st cause = (s.spoilLoad ld).finish keyConfig { status := st, detail := cause } := by
  simp only [State.loadFails, hpower, hwake, Bool.false_eq_true, if_false]

theorem State.spoilLoad_load (s : State) (ld : LoadSt) : (s.spoilLoad ld).store.load = none := rfl

theorem State.spoilLoad_engine (s : State) (ld : LoadSt) : (s.spoilLoad ld).fld CFG_STATUS CFG_STATUS_ENGINE = 0 :=
  State.engine_cfgEngine _ 0 (by decide)

/-- What an item's load that fails shows. -/
theorem State.loadFails_settled {s : State} {ld : LoadSt} {c : Running} (st cause : Nat) (hpower : ld.powerUp = false) (hwake : ld.wake = false)
    (hcur : s.cur keyConfig = some c) :
    (s.loadFails ld st cause).settle.store.load = none ∧ (s.loadFails ld st cause).settle.fld CFG_STATUS CFG_STATUS_ENGINE = 0 ∧
      (s.loadFails ld st cause).settle.resultOf keyConfig = some { status := st, detail := cause } := by
  rw [s.loadFails_item ld st cause hpower hwake]
  have hspoilt : (s.spoilLoad ld).cur keyConfig = some c := (State.cur_of_sched (s.spoilLoad_sched ld) _).trans hcur
  have hwork := OnlyWork.finish (s.spoilLoad ld) keyConfig { status := st, detail := cause }
  refine ⟨?load, ?engine, ?result⟩
  case load => rw [State.settle_store, hwork.read (fun x => x.store) (fun _ _ _ _ => rfl), State.spoilLoad_load]
  case engine => rw [State.engine_settle, State.fld, hwork.reg, ← State.fld, State.spoilLoad_engine]
  case result => exact (State.resultOf_of_sched (State.settle_sched _) _).trans (State.resultOf_finish hspoilt _)

/-! ### IMAGE_FRAME (R451, R567) -/

section Frame

variable (s u : State) (ld : LoadSt) (it : Option Item) (b : List Byte) (hload : s.store.load = some ld) (hactive : ld.activating = false)
  (hitem : s.loadItem ld = some it) (hlen : frameOff ld.sigLen ld.next + frameBytes ≤ ld.len)
  (hread : s.loadRead ld.src (frameOff ld.sigLen ld.next) frameBytes false = (u, .bytes b))
include hload hactive hitem hlen hread

theorem exec_imageFrame : exec (.imageFrame .ok true) s = done ((u.framesStep ld).frameTake it ld b true) := by
  show execImageFrame .ok true s = _
  have hok : (HostRead.ok != HostRead.ok) = false := by decide
  simp only [execImageFrame, hload, hactive, hitem, hok, hread, if_neg (Nat.not_lt.mpr hlen), Bool.false_eq_true, if_false]

theorem imageFrame_slot (hok : ld.frameFault b = none) (hmore : ld.next + 1 ≠ manCount ld.manifest) (hslot : ld.target ≠ 0)
    (hmap : frameIsMem b = true ∨ u.mapStale (duneErg (frameDune b)) (fileNum ld.manifest 28 4) (framePayload b) = false) :
    Gives (.imageFrame .ok true) s fun t => t.store.load = some (ld.advance b) ∧ KeepsRegs [] u t ∧ t.fab = u.fab := by
  have hwork := OnlyWork.framesStep u ld
  have hexec := exec_imageFrame s u ld it b hload hactive hitem hlen hread
  generalize u.framesStep ld = v at hwork hexec
  have hstale : v.mapStale (duneErg (frameDune b)) (fileNum ld.manifest 28 4) (framePayload b) = u.mapStale _ _ _ :=
    hwork.read (fun x => x.mapStale _ _ _) (fun _ _ _ _ => rfl)
  rw [v.frameTake_slot it ld b hok hslot (hmap.imp_right hstale.trans), v.frameNext_goes it ld b hmore] at hexec
  obtain ⟨hloads, hregs, hfab⟩ := State.setLoad_settled (ld.advance b) hwork.regs
  exact gives_done hexec ⟨hloads, hregs, hfab.trans hwork.fab⟩

theorem imageFrame_mem (hok : ld.frameFault b = none) (hmore : ld.next + 1 ≠ manCount ld.manifest)
    (htakes : ld.takes (duneErg (frameDune b)) = true) (hdie : u.cfgDieReset (duneErg (frameDune b)) = false) (hmem : frameIsMem b = true) :
    Gives (.imageFrame .ok true) s fun t => t.store.load = some (ld.advance b) ∧ KeepsRegs [] u t ∧
      (t.erg (duneErg (frameDune b))).staging.map (fun x => x.ctx) = some (frameCtx b) := by
  have hwork := OnlyWork.framesStep u ld
  have hexec := exec_imageFrame s u ld it b hload hactive hitem hlen hread
  generalize u.framesStep ld = v at hwork hexec
  have hruns : v.cfgDieReset (duneErg (frameDune b)) = false := (hwork.read (fun x => x.cfgDieReset _) (fun _ _ _ _ => rfl)).trans hdie
  rw [v.frameTake_mem it ld b hok htakes hruns hmem, State.frameNext_goes _ it ld b hmore] at hexec
  obtain ⟨hloads, hregs, hfab⟩ := State.setLoad_settled (ld.advance b) ((v.stageFrame_regs b).trans hwork.regs)
  exact gives_done hexec ⟨hloads, hregs, by rw [State.erg_of_fab hfab, v.staging_stageFrame b]⟩

theorem imageFrame_plane (hok : ld.frameFault b = none) (hmore : ld.next + 1 ≠ manCount ld.manifest)
    (htakes : ld.takes (duneErg (frameDune b)) = true) (hdie : u.cfgDieReset (duneErg (frameDune b)) = false) (hmem : frameIsMem b = false)
    (hmay : u.frameRefusal ld b = none) (hfirst : ld.next % 16 ≠ 0) (hlast : ld.next % 16 ≠ 15) :
    Gives (.imageFrame .ok true) s fun t => t.store.load = some (ld.advance b) ∧ KeepsRegs [] u t ∧
      ((t.erg (duneErg (frameDune b))).plane (frameCtx b)).frame (duneLocal (frameDune b)) = framePayload b := by
  have hwork := OnlyWork.framesStep u ld
  have hexec := exec_imageFrame s u ld it b hload hactive hitem hlen hread
  generalize u.framesStep ld = v at hwork hexec
  have hruns : v.cfgDieReset (duneErg (frameDune b)) = false := (hwork.read (fun x => x.cfgDieReset _) (fun _ _ _ _ => rfl)).trans hdie
  have hagrees : v.frameRefusal ld b = none := (hwork.read (fun x => x.frameRefusal ld b) (fun _ _ _ _ => rfl)).trans hmay
  rw [v.frameTake_plane it ld b hok htakes hruns hmem hagrees hfirst hlast, State.frameNext_goes _ it ld b hmore] at hexec
  obtain ⟨hloads, hregs, hfab⟩ := State.setLoad_settled (ld.advance b) ((v.putFrame_regs b (manImage ld.manifest)).trans hwork.regs)
  exact gives_done hexec ⟨hloads, hregs, by rw [State.erg_of_fab hfab, v.frame_putFrame b]⟩

theorem imageFrame_fails (cause : Nat) (hfault : ld.frameFault b = some cause) (hpower : ld.powerUp = false) (hwake : ld.wake = false) :
    Gives (.imageFrame .ok true) s fun t => t.store.load = none ∧ t.fld CFG_STATUS CFG_STATUS_ENGINE = 0 ∧
      t.resultOf keyConfig = some { status := stImageRejected, detail := cause } := by
  have hexec := exec_imageFrame s u ld it b hload hactive hitem hlen hread
  rw [State.frameTake_fault _ it ld b cause hfault] at hexec
  obtain ⟨c, hcur⟩ : ∃ c, s.cur keyConfig = some c := by
    simp only [State.loadItem, hpower, Bool.false_eq_true, if_false] at hitem
    cases hop : s.curOp keyConfig opImageLoad with
    | some c => exact ⟨c, State.cur_of_curOp hop⟩
    | none => simp [hop] at hitem
  have hsched : u.sched = s.sched := by
    have hmemory := (OnlyMemory.refl s).loadRead ld.src (frameOff ld.sigLen ld.next) frameBytes false
    rw [hread] at hmemory
    exact hmemory.sched
  obtain ⟨d, hsteps⟩ := State.cur_framesStep ld ((State.cur_of_sched hsched keyConfig).trans hcur)
  exact gives_done hexec (State.loadFails_settled stImageRejected cause hpower hwake hsteps)

end Frame

/-- Settles O26: the load that begins or is refused, then the frame that is kept, staged, put or faulty, each by its own lemma. -/
theorem imageLoads : Obligations.ImageLoads := by
  refine ⟨?load, ?frame⟩
  case load =>
    intro s u c ld hnone hboot hruns hcur it src
    exact ⟨imageLoad_refused s c hnone hboot hruns hcur, imageLoad_begins s u c ld hnone hboot hruns hcur⟩
  case frame =>
    intro s u ld it b hload hactive hitem hlen hread i
    exact ⟨fun hok hmore => ⟨imageFrame_slot s u ld it b hload hactive hitem hlen hread hok hmore,
        imageFrame_mem s u ld it b hload hactive hitem hlen hread hok hmore,
        imageFrame_plane s u ld it b hload hactive hitem hlen hread hok hmore⟩,
      imageFrame_fails s u ld it b hload hactive hitem hlen hread⟩

end Sys2Proof.Machine
end
